-- ==== Sys2Proof/Word.lean ====
section
/-! DEFINITION. The word types of the block: registers are 32 bits wide (R43), memory is byte addressed (R29). -/

namespace Sys2Proof

/-- A register word (R43). -/
abbrev Word := BitVec 32

/-- A byte of memory, of a log page or of media. -/
abbrev Byte := BitVec 8

end Sys2Proof
end

