-- ==== Sys2Proof/Machine/Bits.lean ====
section
/-! DEFINITION. Bit fields, byte order and byte strings: the plain helpers every meaning uses. -/

namespace Sys2Proof.Machine

/-- Bits `hi` down to `lo` of a word, as a number (the manual's [msb:lsb]). -/
def bits (w : Word) (hi lo : Nat) : Nat := (w.toNat >>> lo) % 2 ^ (hi + 1 - lo)

/-- One bit of a word. -/
def bit (w : Word) (n : Nat) : Bool := w.getLsbD n

/-- Bits `hi` down to `lo` of a number. -/
def nbits (n hi lo : Nat) : Nat := (n >>> lo) % 2 ^ (hi + 1 - lo)

/-- The mask of bits `hi` down to `lo`. -/
def maskBits (hi lo : Nat) : Word := BitVec.ofNat 32 ((2 ^ (hi + 1 - lo) - 1) <<< lo)

/-- `w` with bits `hi` down to `lo` set to `v` (`v` is cut to the field's width). -/
def putBits (w : Word) (hi lo v : Nat) : Word :=
  (w &&& ~~~ maskBits hi lo) ||| BitVec.ofNat 32 ((v % 2 ^ (hi + 1 - lo)) <<< lo)

/-- `w` with bit `n` set to `b`. -/
def putBit (w : Word) (n : Nat) (b : Bool) : Word := putBits w n n (if b then 1 else 0)

/-- `n` as a word. -/
def word (n : Nat) : Word := BitVec.ofNat 32 n

/-- A flag as a number. -/
def flag (b : Bool) : Nat := if b then 1 else 0

/-- `n` as `k` little-endian bytes (all multi-byte fields of the device's structures are little-endian, as NVMe has them). -/
def leBytes : Nat → Nat → List Byte
  | 0, _ => []
  | k + 1, n => BitVec.ofNat 8 n :: leBytes k (n / 256)

/-- The number that little-endian bytes spell. -/
def ofLe : List Byte → Nat
  | [] => 0
  | b :: bs => b.toNat + 256 * ofLe bs

/-- `n` as `k` big-endian bytes (digests, keys and curve points). -/
def beBytes (k n : Nat) : List Byte := (leBytes k n).reverse

/-- The number that big-endian bytes spell. -/
def ofBe (bs : List Byte) : Nat := ofLe bs.reverse

/-- `k` zero bytes. -/
def zeros (k : Nat) : List Byte := List.replicate k 0

/-- Bytes `o` to `o + k - 1` of a byte string, zeros beyond its end. -/
def sliceBytes (bs : List Byte) (o k : Nat) : List Byte :=
  let t := (bs.drop o).take k
  t ++ zeros (k - t.length)

/-- The little-endian number of `k` bytes at offset `o`. -/
def leAt (bs : List Byte) (o k : Nat) : Nat := ofLe (sliceBytes bs o k)

/-- `bs` with `v` laid over it at offset `o`; the string grows when it must. -/
def overlay (bs : List Byte) (o : Nat) (v : List Byte) : List Byte :=
  sliceBytes bs 0 o ++ v ++ bs.drop (o + v.length)

/-- Cuts or pads a byte string to `k` bytes. -/
def padTo (k : Nat) (bs : List Byte) : List Byte := sliceBytes bs 0 k

/-- The ASCII bytes of a name. -/
def ascii (t : String) : List Byte := t.toList.map fun c => BitVec.ofNat 8 c.toNat

/-- `n` rounded up to a multiple of `m`. -/
def roundUp (n m : Nat) : Nat := (n + m - 1) / m * m

/-- `a / b` rounded up. -/
def ceilDiv (a b : Nat) : Nat := (a + b - 1) / b

/-- A count that stops at `m`. -/
def satAdd (m a b : Nat) : Nat := min m (a + b)

/-- Every number below `n`, in rising order. -/
def upTo (n : Nat) : List Nat := List.range n

end Sys2Proof.Machine
end

