-- ==== Sys2Proof/Machine/Kinds.lean ====
section
/-! DEFINITION. The operand types of the commands: islands, requesters, command references, structures that arrive from outside. -/

namespace Sys2Proof.Machine

/-- An island instance (R15). -/
inductive Island where
  | host (p : Nat) | accession | wing (w : Nat) | gallery (g : Nat) | keeper | registrar | catalogue
  | compress (c : Nat) | dram (n : Nat) | security | alwaysOn
deriving DecidableEq, Repr

/-- Who makes a register access: a keeper core, a Docent core of a gallery, the host of a port through BAR2 (R60), or an engine. -/
inductive Requester where
  | keeper (k : Nat) | docent (g k : Nat) | host (p : Nat) | engine (i : Island)
deriving DecidableEq, Repr

/-- What a crossing request asks for (R22: reads, writes, mailbox posts, wake events and page-register accesses). -/
inductive CrossOp where
  | pageRead (page off width : Nat)
  | pageWrite (page off width : Nat) (value : Word)
  | memRead (addr len : Nat)
  | memWrite (addr : Nat) (bytes : List Byte)
  | post (chan : Nat) (message : List Byte)
  | wake
deriving DecidableEq, Repr

/-- A request that asks for data. -/
def CrossOp.isRead : CrossOp → Bool
  | .pageRead _ _ _ | .memRead _ _ => true
  | .pageWrite _ _ _ _ | .memWrite _ _ | .post _ _ | .wake => false

/-- How far a crossing request gets in the step that enters it (R26, R27): still on the send side, accepted into the
receive side, in service as a write burst, or served at once. -/
inductive CrossPlace where
  | sendSide | receiveSide | inService | served
deriving DecidableEq, Repr

/-- A command of a submission queue: controller index, queue identifier (0: admin), command identifier. -/
structure CmdRef where
  ctl : Nat
  sq : Nat
  cid : Nat
deriving DecidableEq, Repr

/-- The parts of an SQE that ACCESSION itself reads (R110, R113, R135). -/
structure SqeHeader where
  cid : Nat
  opcode : Nat
  fuse : Nat
  nsid : Nat
deriving DecidableEq, Repr

/-- What the link partner and the lanes give a training sub-link (R72 to R74). -/
structure LinkPartner where
  rate : Nat
  flit : Bool
  lanes : Nat
  reversed : Bool
  failedLanes : Nat
deriving DecidableEq, Repr

/-- A PCIe configuration-space item of a function (R75, R76, R77, R81 to R84). The manual gives fields, not offsets. -/
inductive CfgReg where
  | vendorId | deviceId | subsystemVendorId | subsystemId | interruptPin | barSize (n : Nat) | barType (n : Nat) | barEnable
  | linkCapabilities | maxPayload | maxReadRequest | cplTimeoutValue | cplTimeoutDisable
  | totalVFs | firstVfOffset | vfStride | vfDeviceId | numVFs | ariCapable | msiCapable
  | msixEnable | msixFunctionMask
deriving DecidableEq, Repr

/-- Why a device reset starts (R608). -/
inductive ResetCause where
  | powerOn | perst | nssr | keeper | kwdog
deriving DecidableEq, Repr

/-- A Firmware Image Download or program piece: where it lies and its bytes. -/
structure Piece where
  ofst : Nat
  bytes : List Byte
deriving DecidableEq, Repr

/-- What a self-test finds outside the device's own state (R175): every die answers its status read, the idle engines pass their built-in
self-test, and the written pages whose verify fails. -/
structure SelfTestFound where
  dies : Bool
  engines : Bool
  pages : List Nat
deriving DecidableEq, Repr

/-- The attributes of Namespace Management create (R142, R418). -/
structure NsAttrs where
  csi : Nat
  nsze : Nat
  ncap : Nat
  flbas : Nat
  vendorByte : Nat
deriving DecidableEq, Repr

/-- The parameter page of a die, as far as the manual reads it (R180, R185, R195, R202, R298, R299). -/
structure ParamPage where
  /-- READ ID answered "ONFI". -/
  signature : Bool
  /-- A copy with a correct CRC was found. -/
  crcOk : Bool
  /-- Rates of R179 listed: bit r for FCH_STAT.rate r, 1 to 5. No bit: NV-LPDDR4 is not supported. -/
  rates : Nat
  /-- The geometry: data and spare bytes of a page, pages of a block, blocks of a plane, planes, LUNs of a target, bits of a cell (R185, R186). -/
  dataBytes : Nat
  spareBytes : Nat
  pagesPerBlock : Nat
  blocksPerPlane : Nat
  planes : Nat
  luns : Nat
  bits : Nat
  /-- Program and erase suspend supported (R202). -/
  suspend : Bool
  /-- Read retry levels listed, up to 16 (R195). -/
  retryLevels : Nat
  /-- Rated program/erase cycles (R147). -/
  ratedCycles : Nat
  /-- The die reports its temperature (R298). -/
  temperature : Bool
  /-- Range of read-level offsets in DAC steps (R299). -/
  offsetMin : Int
  offsetMax : Int
deriving DecidableEq, Repr

/-- What discovery hears from one die position (R184). -/
structure DieAnswer where
  channel : Nat
  die : Nat
  page : ParamPage
  uid : Nat
deriving DecidableEq, Repr

/-- How the decoder fares on one codeword of a page (R195, R200): corrected bits of the hard decode (`none`: it fails), and
the step at which decoding succeeds: 0 hard, 1 to 3 soft bits, 0x10 + k retry level k, `none`: every step fails. -/
structure Decode where
  corrected : Option Nat
  level : Option Nat
deriving DecidableEq, Repr

/-- Bits of a channel operation descriptor (R188). -/
structure ChanDesc where
  op : Nat
  cls : Nat
  flags : Nat
  count : Nat
  psa : Nat
  /-- The 16-bit word at byte 10: media key slot in [9:0]. -/
  keyWord : Nat
  tag : Nat
deriving DecidableEq, Repr

/-- What a die check or a qualification finds (R209, R213). -/
structure DieTest where
  page : ParamPage
  uid : Nat
  /-- The four test blocks of each plane programmed, verified and erased without failure. -/
  passed : Bool
  /-- Training succeeded where the qualification needed it. -/
  trained : Bool
deriving DecidableEq, Repr

/-- A core of the die: Docent core `k` of gallery `g`, or keeper core `k` (R356). -/
inductive CoreId where
  | docent (g k : Nat)
  | keeper (k : Nat)
deriving DecidableEq, Repr

/-- The fields of an instruction word below its opcode (R365): lane size, base, the six modifier bits [21:16], displacement. -/
structure Fields where
  sz : BitVec 2
  base : BitVec 2
  mods : BitVec 6
  disp : BitVec 16
deriving DecidableEq, Repr

/-- A client request to DRAM (R496). -/
inductive DramClient where
  | hostDma | dumpEngine | mapRead | mapWrite | packing | compressor | mover | readMemory | keeperFar | zeroing | scrub | conservator
deriving DecidableEq, Repr

/-- The class of a client (R496): 0 real-time, 1 bulk, 2 background. -/
def DramClient.cls : DramClient → Nat
  | .hostDma | .dumpEngine => 0
  | .mapRead | .mapWrite | .packing | .compressor | .mover | .readMemory | .keeperFar | .zeroing => 1
  | .scrub | .conservator => 2

/-- A DRAM access: a read of `len` bytes or a write of bytes (R497 to R499). -/
inductive DramOp where
  | read (len : Nat)
  | write (bytes : List Byte)
deriving DecidableEq, Repr

/-- The bytes an access touches. -/
def DramOp.len : DramOp → Nat
  | .read n => n
  | .write bs => bs.length

/-- What a training finds on the devices of a DRAM channel (R491, R514). -/
structure DramFound where
  width : Nat
  density : Nat
  ranks : Nat
  ok : Bool
deriving DecidableEq, Repr

/-- A receiver of a security alarm: source bit and detector number (R562, R567). -/
structure AlarmEvent where
  source : Nat
  detector : Nat
deriving DecidableEq, Repr

/-- A range of logical blocks of Dataset Management (R239). -/
structure LbaRange where
  lba : Nat
  blocks : Nat
deriving DecidableEq, Repr

end Sys2Proof.Machine
end

