-- ==== Sys2Proof/Machine/Tab.lean ====
section
/-! DEFINITION. Tables: sparse data by number, a list of (key, value) pairs with keys strictly rising. -/

namespace Sys2Proof.Machine

/-- A table from numbers to values. Plain data; every operation below keeps the keys strictly rising. -/
abbrev Tab (α : Type) := List (Nat × α)

/-- The entry of a key. -/
def Tab.get? {α : Type} : Tab α → Nat → Option α
  | [], _ => none
  | (k, v) :: t, q => if k = q then some v else Tab.get? t q

/-- The entry of a key, or a default. -/
def Tab.getD {α : Type} (t : Tab α) (q : Nat) (d : α) : α := (Tab.get? t q).getD d

/-- Puts an entry, in its place. -/
def Tab.set {α : Type} : Tab α → Nat → α → Tab α
  | [], q, x => [(q, x)]
  | (k, v) :: t, q, x =>
    if q < k then (q, x) :: (k, v) :: t
    else if q = k then (q, x) :: t
    else (k, v) :: Tab.set t q x

/-- Takes an entry away. -/
def Tab.del {α : Type} : Tab α → Nat → Tab α
  | [], _ => []
  | (k, v) :: t, q => if k = q then Tab.del t q else (k, v) :: Tab.del t q

/-- Puts or takes away. -/
def Tab.put {α : Type} (t : Tab α) (q : Nat) : Option α → Tab α
  | none => Tab.del t q
  | some x => Tab.set t q x

/-- Changes an entry that is there. -/
def Tab.adjust {α : Type} (t : Tab α) (q : Nat) (f : α → α) : Tab α :=
  match Tab.get? t q with
  | none => t
  | some x => Tab.set t q (f x)

/-- Changes an entry, taking a default where it is absent. -/
def Tab.update {α : Type} (t : Tab α) (q : Nat) (d : α) (f : α → α) : Tab α := Tab.set t q (f (Tab.getD t q d))

/-- The keys. -/
def Tab.keys {α : Type} (t : Tab α) : List Nat := t.map Prod.fst

/-- The values. -/
def Tab.vals {α : Type} (t : Tab α) : List α := t.map Prod.snd

/-- Whether a key has an entry. -/
def Tab.has {α : Type} (t : Tab α) (q : Nat) : Bool := (Tab.get? t q).isSome

/-- Keeps the entries that pass. -/
def Tab.keep {α : Type} (t : Tab α) (p : Nat → α → Bool) : Tab α := t.filter fun e => p e.1 e.2

/-- Changes every value. -/
def Tab.mapVals {α : Type} (t : Tab α) (f : Nat → α → α) : Tab α := t.map fun e => (e.1, f e.1 e.2)

/-- The keys rise strictly. -/
def Tab.sorted {α : Type} : Tab α → Bool
  | [] => true
  | [_] => true
  | (a, _) :: (b, y) :: t => decide (a < b) && Tab.sorted ((b, y) :: t)

/-- The lowest number below `n` that is no key. -/
def Tab.firstFree {α : Type} (t : Tab α) (n : Nat) : Option Nat := (List.range n).find? fun k => !Tab.has t k

/-- The counts of a table added to one entry. -/
def Tab.bump (t : Tab Nat) (q n : Nat) : Tab Nat := Tab.set t q (Tab.getD t q 0 + n)

/-- Changes the first element that passes. -/
def updFirst {α : Type} (p : α → Bool) (f : α → α) : List α → List α
  | [] => []
  | x :: xs => if p x then f x :: xs else x :: updFirst p f xs

/-- Changes every element that passes. -/
def updAll {α : Type} (p : α → Bool) (f : α → α) (xs : List α) : List α := xs.map fun x => if p x then f x else x

/-- Takes the first element that passes away. -/
def dropFirst {α : Type} (p : α → Bool) : List α → List α
  | [] => []
  | x :: xs => if p x then xs else x :: dropFirst p xs

/-- The element of a list with the least measure (the first of equals). -/
def minBy {α : Type} (f : α → Nat) : List α → Option α
  | [] => none
  | x :: xs => match minBy f xs with
    | none => some x
    | some y => if f y < f x then some y else some x

/-- Insertion sort by a rising measure, keeping the order of equals. -/
def sortBy {α : Type} (f : α → Nat) : List α → List α
  | [] => []
  | x :: xs => putIn x (sortBy f xs)
where putIn (x : α) : List α → List α
  | [] => [x]
  | y :: ys => if f x ≤ f y then x :: y :: ys else y :: putIn x ys

end Sys2Proof.Machine
end

