-- ==== Sys2Proof/Machine/CareTypes.lean ====
section
/-! DEFINITION. State of the Conservator and the monitors (chapter 07) and of the compression engines (chapter 08). -/

namespace Sys2Proof.Machine

/-- A sensor (R302, R303). -/
structure Sensor where
  /-- 0.1 K. Reset 0. -/
  temp : Nat := 0
  /-- mV. Reset 0. -/
  mv : Nat := 0
  valid : Bool := true
  /-- TSC since which an invalid sensor reads inside the range (R303). -/
  insideSince : Option Nat := none
  /-- Highest valid reading since the last hourly update (R317). -/
  peak : Nat := 0
  /-- Highest reading since manufacture, and the lifetime mean: hourly sum and count (R317). -/
  high : Nat := 0
  sum : Nat := 0
  hours : Nat := 0
deriving DecidableEq, Repr

/-- A monitor (R309 to R312, R320). -/
structure Monitor where
  /-- MON_CFG. Reset 0. -/
  cfg : Word := 0
  /-- MON_BIN. Reset 0. -/
  bin : Word := 0
  /-- MON_PERIOD. Reset 0. -/
  period : Word := 0
  /-- MON_COUNT, 64 bits. Reset 0. -/
  count : Nat := 0
  /-- MON_SUM, 64 bits. Reset 0. -/
  sum : Nat := 0
  /-- MON_MIN. Reset 0xFFFF_FFFF. -/
  min : Nat := 0xFFFFFFFF
  /-- MON_MAX. Reset 0. -/
  max : Nat := 0
  /-- MON_BIN_0 to MON_BIN_15. Reset 0. -/
  bins : Tab Nat := []
  /-- MON_LAST. Reset 0. -/
  last : Nat := 0
deriving DecidableEq, Repr

/-- The schedule of the Conservator (R301), as it runs and as last written. -/
structure Schedule where
  /-- Patrol position: the key of the page verified last in this pass, 0 for none; TSC of the pass start; patrol_late raised in this pass (R296). -/
  patrolPos : Nat := 0
  patrolStart : Nat := 0
  patrolLate : Bool := false
  /-- Effective ages by stripe set (R298). -/
  ages : Tab Nat := []
  /-- Calibration time of a block group, by channel × 4096 + die × 256 + group (R299). -/
  calTimes : Tab Nat := []
  /-- Time and sensor reading at the last training of a DRAM channel (R300). -/
  trainTimes : Tab Nat := []
  trainTemps : Tab Nat := []
deriving DecidableEq, Repr

/-- Totals of log 0xC6 (R316). Kept since manufacture. -/
structure CareCounts where
  breaches : Tab Nat := []
  patrolPages : Nat := 0
  patrolPasses : Nat := 0
  closeVerifies : Nat := 0
  rewrites : Nat := 0
  refreshes : Nat := 0
  calibrations : Nat := 0
  flashRetrains : Nat := 0
  dramRetrains : Nat := 0
  measurements : Nat := 0
  floorMs : Nat := 0
  patrolLate : Nat := 0
  stage2Entries : Nat := 0
  stage2Ms : Nat := 0
deriving DecidableEq, Repr

/-- A calibration under way (R299). -/
structure CalRun where
  /-- Key of the block group, as in the schedule, and the page that its trials verify. -/
  group : Nat
  psa : Nat
  /-- The offsets of read levels 1 to 15 as they stand: those of the entry, with the best of each level done. -/
  offsets : List Int
  /-- Levels done. -/
  level : Nat := 0
  /-- Trials of this level that have ended: the offset and, where the page passed, its corrected bits. -/
  tries : List (Int × Option Nat) := []
  /-- Some trial of the run has passed. -/
  passed : Bool := false
deriving DecidableEq, Repr

/-- The Conservator. -/
structure Care where
  /-- Sensors by number (R302). -/
  sensors : Tab Sensor := []
  /-- Classes in breach in the last window (R294). Reset 0. -/
  breach : List Nat := []
  /-- The guard floor is in force (R294). Reset 0. -/
  floor : Bool := false
  /-- Thermal stage (R306). Reset 0. -/
  stage : Nat := 0
  /-- Ticks in a row with the hottest sensor below T_c − 5 °C, and ticks since a step was removed last (R306). -/
  coolTicks : Nat := 0
  removeTicks : Nat := 0
  /-- The island kind that steps down next: 0 GALLERY to 7 HOST (R306). -/
  nextKind : Nat := 0
  /-- Levels taken by the thermal loop, newest last: island kinds (R306). -/
  steps : List Nat := []
  /-- The schedule, live in keeper memory, and the last record (R301). -/
  live : Schedule := {}
  saved : Schedule := {}
  counts : CareCounts := {}
  /-- Recent soft decodes of a block group: TSCs (R299). -/
  softReads : Tab (List Nat) := []
  /-- The calibration under way (R299). -/
  cal : Option CalRun := none
  /-- TSC of the last verify of a page, by its place in the order of patrol (R316). -/
  verified : Tab Nat := []
  /-- capacitor_aging has been raised. Reset 0. -/
  aging : Bool := false
  /-- Lifetime values last updated at this TSC (R317). -/
  lifetimeAt : Nat := 0
  /-- Monitors 0 to 127 (R309). -/
  monitors : Tab Monitor := []
  /-- Latched monitors (R311). -/
  monLatch : Tab Monitor := []
deriving DecidableEq, Repr

/-- What an inline compression or decompression serves (R322). -/
inductive InlineUse where
  | compressMu (entry : Nat)
  | readMu (ref : CmdRef) (mu : Nat)
  | fillMu (entry : Nat)
  | scanMu (gallery window mu : Nat)
deriving DecidableEq, Repr

/-- An engine in use: island, decompressor or compressor, and an inline use or a ring job number. -/
structure EngineUse where
  island : Nat
  decompress : Bool
  inline : Option InlineUse
  job : Nat
  /-- It runs on a reserved engine (R322). -/
  reserved : Bool
deriving DecidableEq, Repr

/-- A ring job descriptor, decoded (R335). -/
structure JobDesc where
  op : Nat
  format : Nat
  level : Nat
  flags : Nat
  inLen : Nat
  inAddr : Nat
  outLen : Nat
  rsv0 : Nat
  outAddr : Nat
  record : Nat
  completion : Nat
  tag : Nat
  ticket : Nat
  depth : Nat
  rsv1 : Nat
deriving DecidableEq, Repr

/-- The stream a continuation record stands for (R343 to R345). The engine state and the pending area of a record are
defined only for the stepping that wrote them (R345); the model keeps the input so far, from which both follow. -/
structure ContStream where
  op : Nat
  format : Nat
  level : Nat
  depth : Nat
  /-- Input supplied and consumed so far. -/
  input : List Byte
  /-- Output bytes already given. -/
  given : Nat
  /-- Blocks of R327 encoded so far (compression). -/
  blocks : Nat := 0
  /-- The final block is encoded, and whether it is an empty one of its own (R338). -/
  closing : Option Bool := none
  ended : Bool
deriving DecidableEq, Repr

/-- A job in service (R323, R341): island, ring, descriptor, and its result once the engine has run. -/
structure CmpJob where
  island : Nat
  ring : Nat
  desc : JobDesc
  /-- Status, flags, consumed, produced; none while it runs. -/
  result : Option (Nat × Nat × Nat × Nat) := none
  /-- The stream its continuation record is to hold (R345). -/
  stream : Option ContStream := none
deriving DecidableEq, Repr

/-- The compression islands. -/
structure Compress where
  /-- Engines in use (R321, R322). -/
  engines : List EngineUse := []
  /-- Inline requests that wait, in order (R322): use, decompress, input. -/
  waiting : List (InlineUse × Bool × List Byte) := []
  /-- MUs that program scans have had decompressed, until their half of a window has all it waits for (R322, R447): gallery, window and global MU, and the 16 KiB;
  none: a data error (R348). -/
  scanned : List ((Nat × Nat × Nat) × Option (List Byte)) := []
  /-- Ring jobs in service by number. -/
  jobs : Tab CmpJob := []
  nextJob : Nat := 0
  /-- The ring whose turn is next among equals, by island (R354). -/
  turn : Tab Nat := []
  /-- Streams behind continuation records, by record address. -/
  conts : Tab ContStream := []
  /-- Fetching of descriptors stopped by a power failure (R352). -/
  stopped : Bool := false
deriving DecidableEq, Repr

end Sys2Proof.Machine
end

