-- ==== Sys2Proof/Machine/FlashTypes.lean ====
section
/-! DEFINITION. State of the flash side (chapter 05) and of the Curator (chapter 06). -/

namespace Sys2Proof.Machine

/-- Who asked for a channel operation, and so where its data goes (R193). -/
inductive OpOrigin where
  | hostRead (ref : CmdRef) (gmu : Nat)
  | fill (entry : Nat)
  | relocate (gmu : Nat)
  | packer (wing page : Nat)
  | parity (set row : Nat)
  | stream (gallery window : Nat) (gmu : Nat)
  | closeVerify (set : Nat)
  | erase (block : Nat)
  | rebuild (job psa : Nat)
  | pad (set : Nat)
  | patrol (set : Nat)
  | calibrate (group : Nat)
  | keeper
deriving DecidableEq, Repr

/-- A queued or running channel operation (R188 to R193, R202). -/
structure ChanOp where
  desc : ChanDesc
  origin : OpOrigin
  /-- Page data and out-of-band bytes of a program. -/
  data : List Byte := []
  oob : List Byte := []
  /-- Buffer slots it holds (R192). -/
  slots : Nat := 0
  /-- The media key read at start (R534). -/
  key : List Byte := []
  /-- It belongs to the power-fail dump (R203). -/
  dump : Bool := false
  started : Bool := false
  /-- Suspended by class 0 reads, and how often (R202). -/
  suspended : Bool := false
  suspends : Nat := 0
  /-- TSC of its start or last resume (R202). -/
  since : Nat := 0
  /-- RESET LUN has been issued to its die after a busy timeout, at this TSC (R208). -/
  resetAt : Option Nat := none
  /-- What the die gave, until the operation ends: status, decode level, result bytes and data. -/
  outcome : Option (Nat × Nat × Nat × List Byte) := none
deriving DecidableEq, Repr

/-- A completion record of a channel operation (R191), held until its requester takes it. No path gives status 0x13: a busy timeout ends in the
automatic retry of R218, in a fence (0x14) or, while PFAIL_N is low, in 0x15 (log 149). -/
structure ChanDone where
  tag : Nat
  status : Nat
  level : Nat
  result : Nat
  tsc : Nat
  origin : OpOrigin
  desc : ChanDesc
  /-- Decoded and decrypted data of a read, in the slots asked for. -/
  data : List Byte
  /-- Buffer slots still held until the data is delivered (R193). -/
  slots : Nat
  /-- Its requester has taken the record; only the slots are still held. -/
  taken : Bool := false
deriving DecidableEq, Repr

/-- A die position of a channel: what discovery read, and its recent troubles (R208). -/
structure Die where
  page : Option ParamPage := none
  uid : Nat := 0
  admitted : Bool := false
  /-- TSCs of busy timeouts cleared by RESET LUN (reason 1). -/
  timeouts : List Nat := []
  /-- (block, TSC) of program or erase status fails (reason 2) and of uncorrectable codewords (reason 3). -/
  statusFails : List (Nat × Nat) := []
  uncorrectable : List (Nat × Nat) := []
  /-- Excluded from the running dump (R204). -/
  noDump : Bool := false
deriving DecidableEq, Repr

/-- One flash channel (chapter 05). -/
structure Channel where
  /-- FCH_STAT.rate (R179). Reset 0. -/
  rate : Nat := 0
  /-- FCH_STAT.state (R219). Reset 0. -/
  state : Nat := 0
  /-- Training failures in a row (R183). Reset 0. -/
  fails : Nat := 0
  /-- Attempts left of a channel qualification (R216). Reset 0. -/
  qualTries : Nat := 0
  /-- The rate cap that the training under way took when it started (R219). Reset 5. -/
  cap : Nat := 5
  /-- The wing has been re-initialised and its discovery has not run since: FCH_STAT and FCH_DIE_PRESENT stand at their defaults (R610, log 30).
  Reset false. -/
  lost : Bool := false
  /-- FCH_DIE_FENCED, domain D (R210). Reset 0. -/
  fenced : List Nat := []
  /-- Dies 0 to 15. -/
  dies : Tab Die := []
  /-- Queued and running operations, in arrival order (R190). -/
  queue : List ChanOp := []
  /-- Completion records with data still in the buffer (R193). -/
  done : List ChanDone := []
  /-- Offset table entries, 16 bytes, by die × 256 + block group (R198). Lost at re-initialisation; the keeper reloads them. -/
  offsets : Tab (List Byte) := []
  /-- The keeper's copy of the offset table (R616). -/
  offsetCopy : Tab (List Byte) := []
  /-- The die command that runs: cmd, die, reason (R219). -/
  command : Option (Nat × Nat × Nat) := none
  /-- FCH_DIE_STAT: last command and result (R219). Reset 0. -/
  lastCmd : Nat := 0
  lastResult : Nat := 0
  /-- A response from a fenced die has been captured since capture was armed (R210). -/
  respCaptured : Bool := false
  /-- TSC and wing temperature of the last training (R300). -/
  trainedAt : Nat := 0
  trainedTemp : Nat := 0
deriving DecidableEq, Repr

/-- A programmed page of media: 16,384 data bytes, 32 out-of-band bytes for each of 4 codewords (R244), and whether it was programmed in SLC
mode (R188). -/
structure MediaPage where
  data : List Byte
  oob : List (List Byte)
  slc : Bool := false
deriving DecidableEq, Repr

/-- An entry of log 0xC1 and its fence record (R212, R217). Survives every reset. -/
structure FenceEntry where
  channel : Nat
  die : Nat
  reason : Nat
  /-- 0 fenced, 1 qualifying, 2 readmitted, 3 permanent. -/
  state : Nat
  quals : Nat
  tscFence : Nat
  tscResponse : Nat
  responses : Nat
  /-- The parameter page and unique ID of the fence record (R213). -/
  page : Option ParamPage
  uid : Nat
  /-- The record is written in the flash system area (R212). -/
  durable : Bool
deriving DecidableEq, Repr

/-- The flash side. -/
structure Flash where
  /-- Channels 0 to 95. -/
  chans : Tab Channel := []
  /-- Programmed pages by PSA >>> 7 (R205). Survives every reset. -/
  media : Tab MediaPage := []
  /-- Fence log and records, oldest first, at most 1,536 (R217). -/
  fences : List FenceEntry := []
  /-- Reference geometry (R186). Reset none. -/
  geometry : Option ParamPage := none
  /-- Wings whose discovery runs (R184) or holds for the reference (R186), with the answers held. -/
  discovering : Tab (List DieAnswer) := []
  /-- Measured array times in ns: tR, tSOFT, SLC tPROG (R197, R271). Reset 0 (DESIGN CHOICE, log 9). -/
  tR : Nat := 0
  tSoft : Nat := 0
  tProgSlc : Nat := 0
  tBers : Nat := 0
  /-- Operations that a power failure ended with status 0x15, by channel; they run again when the device goes on (R277). -/
  aborted : List (Nat × ChanOp) := []
deriving DecidableEq, Repr

/-- A write buffer entry: one MU (R235, R236). -/
structure WbEntry where
  nsid : Nat
  mu : Nat
  gmu : Nat
  /-- 16,384 bytes; bytes of blocks not in the mask are not yet filled. -/
  data : List Byte
  /-- Valid mask, one bit for each logical block (R236). -/
  valid : Nat
  /-- Write sequence number (R237). -/
  seq : Nat
  /-- Charge in KiB (R235). -/
  charge : Nat
  /-- The stored form once known: slots and raw flag, with its bytes (R238). -/
  stored : Option (Nat × Bool × List Byte) := none
  /-- Placed in a page being filled or programmed: the page's number (R241). -/
  placed : Option Nat := none
  /-- The map entry that the write found, from which missing blocks are filled (R236); one that was found wrong is `wrongEntry` until it is
  restored (R228). -/
  before : Nat := 0
  /-- Its 16 KiB in DRAM begin here (R229). -/
  addr : Nat := 0
  /-- A class 1 read for its missing blocks is under way, or its rebuild (R236). -/
  filling : Bool := false
  /-- The stored bytes that a fill read brought and that wait for a decompressor (R236). -/
  fillCoded : Option (List Byte) := none
  /-- Its page has been programmed; it is kept until a parity page that covers the page is (R242). -/
  programmed : Bool := false
  /-- Moved to the head of its packer (R248). -/
  urgent : Bool := false
  /-- Placed from a dump (R285). -/
  fromDump : Bool := false
  /-- Compression asked for and running (R322). -/
  compressing : Bool := false
  /-- The entry is a relocation's copy: the map entry it was read from, and the generation it is written with (R246, R259). -/
  reloc : Option (Nat × Nat) := none
deriving DecidableEq, Repr

/-- A stream of the packer and of allocation (R241, R256). -/
inductive CurStream where
  | hostOrdinary | hostSustained | relocOrdinary | relocSustained | map | ledger | journal | dump
deriving DecidableEq, Repr

/-- How far a stripe set has got (R250 to R253, R261). -/
inductive SetState where
  | open | closed | verified | freeing
deriving DecidableEq, Repr

/-- Stands where no page or block is named: a PSA has 48 bits (R205), so this is none. -/
def noPsa : Nat := 2 ^ 48

/-- A stripe set (R250 to R254). -/
structure StripeSet where
  wing : Nat
  stream : CurStream
  /-- Block PSA of each of the 12 channels (`noPsa`: the channel has no block in the set). -/
  blocks : List Nat
  state : SetState
  /-- The row being written: pages 0 to 11. -/
  row : Nat := 0
  /-- Channels whose page of the current row is programmed. -/
  written : List Nat := []
  /-- Channels whose page of the current row failed (R262). -/
  failed : List Nat := []
  /-- A channel has no block any more: the set closes after the current row (R262). -/
  ends : Bool := false
  /-- The last row of a sustained-parity set is written but for its parity page (R252, R253). -/
  closing : Bool := false
  /-- Rows whose parity page is programmed. -/
  parityRows : List Nat := []
  /-- The channels that the parity page of a row covers, once it has been formed (R251, R254, R262). -/
  covered : Tab (List Nat) := []
  /-- The Ledger block of an ordinary set, `noPsa` for none (R251). -/
  ledger : Nat := noPsa
  /-- Parity of the set released (R253). -/
  released : Bool := false
  /-- Pages still to verify at close. -/
  toVerify : List Nat := []
  /-- Pages that failed verify, whose MUs are to be relocated (R253). -/
  bad : List Nat := []
  /-- Blocks replaced after a failed program (R262): channel, block, and the rows below which it stands in the parity. -/
  old : List (Nat × Nat × Nat) := []
  /-- Moves out of the set whose journal records are not durable yet: GMU, write sequence number, generation (R261). -/
  moved : List (Nat × Nat × Nat) := []
  /-- TSC at close, for the score of R257. -/
  closedAt : Nat := 0
  /-- Effective age in hours (R298). -/
  age : Nat := 0
  /-- The Conservator has scheduled a threshold rewrite or refresh (R296 to R298). -/
  rewrite : Bool := false
  /-- It is the victim of garbage collection (R257). -/
  victim : Bool := false
deriving DecidableEq, Repr

/-- What a block is used for (R250, R251, R263, R274). -/
inductive BlockUse where
  | free | inSet (n : Nat) | reserve | emergency | ledger (n : Nat) | journal | dump (set : Nat) | retired | fencedOut
deriving DecidableEq, Repr

/-- A block with a history; an unlisted good block is free with erase count 0 (R256). -/
structure Block where
  use : BlockUse := .free
  erases : Nat := 0
  slc : Bool := false
  /-- Stream that has it open (R256). -/
  stream : Option CurStream := none
  /-- Successive uses with a verify or uncorrectable failure, and with a threshold rewrite caused by the block (R268, R297); and whether this use
  has had one. -/
  badUses : Nat := 0
  rewriteUses : Nat := 0
  badNow : Bool := false
  rewriteNow : Bool := false
  /-- Not to be erased: it holds a slot of a lost MU (R255) or stands in parity (R262). -/
  pinned : Bool := false
deriving DecidableEq, Repr

/-- Counts of one wing's block pools (R150, R251, R263, R264). -/
structure WingPool where
  /-- Good blocks at first format. -/
  good : Nat := 0
  /-- Initial reserve collection and the emergency part of it (R263). -/
  reserve0 : Nat := 0
  emergency0 : Nat := 0
  /-- Free non-emergency reserve, and free emergency reserve. -/
  reserve : Nat := 0
  emergency : Nat := 0
  /-- The free reserve blocks, both kinds, that lie on each of the 12 channels (R262, R263; log 150). -/
  resOn : List Nat := []
  /-- Blocks lent and borrowed (R264), and blocks deaccessioned (R263). -/
  lent : Nat := 0
  borrowed : Nat := 0
  deaccessioned : Nat := 0
  /-- Ledger allotment (R251) and Ledger blocks that hold unreleased parity. -/
  ledger0 : Nat := 0
  ledgerUsed : Nat := 0
  /-- Garbage collection runs (R257). -/
  collecting : Bool := false
  /-- Channels on which an open found no free block: garbage collection runs until they have one (R250). -/
  short : List Nat := []
  /-- The first format has set the pools (R251, R263). -/
  formatted : Bool := false
deriving DecidableEq, Repr

/-- A page the packer fills (R241). -/
structure PackPage where
  wing : Nat
  nsid : Nat
  stream : CurStream
  /-- Placed MUs: write buffer index and first slot. -/
  placed : List (Nat × Nat)
  /-- Slots used so far. -/
  used : Nat
  /-- TSC when its first MU was placed. -/
  since : Nat
  /-- It is to be programmed as it is: full, or its fill timeout has passed (R241). -/
  due : Bool := false
  /-- It has been sent to a channel: page PSA. -/
  sent : Option Nat := none
  /-- Its program has succeeded. -/
  done : Bool := false
deriving DecidableEq, Repr

/-- A journal record (R281). -/
inductive JRec where
  | map (gen seq gmu entry : Nat)
  | segment (index psa snap : Nat)
  | block (event psa set erases : Nat)
  | dump (event seq set : Nat)
  | nsSegment (nsid index segment : Nat)
deriving DecidableEq, Repr

/-- A journal page as it is read (R280). -/
structure JPage where
  seq : Nat
  next : Nat
  nextMirror : Nat
  records : List JRec
deriving DecidableEq, Repr

/-- A directory copy as it is read (R282): its head, and the records after it. -/
structure DirCopy where
  seq : Nat
  start : Nat
  startPsa : Nat
  startMirror : Nat
  next : Nat
  nextMirror : Nat
  /-- The next write sequence number when it was written (log 31). -/
  writeSeq : Nat
  records : List JRec
deriving DecidableEq, Repr

/-- A directory copy that is kept (R279, R282): its sequence number, the places of its two copies and of the next, their blocks, the map segment
copies it names (PSA and page sequence number at the snapshot), and the stripe set and block tables as they stood, onto which the BLOCK records
after its start are replayed (log 31). -/
structure DirKept where
  seq : Nat
  psa : Nat
  mirror : Nat
  /-- Where the next copy goes: erased and reserved. -/
  nextPsa : Nat
  nextMirror : Nat
  /-- The blocks of both copies. -/
  chain : List Nat
  /-- Of each map segment copied, the copy's PSA and the page sequence number at its snapshot (R282). -/
  segs : Tab (Nat × Nat)
  /-- The set and block tables as they stood when it was written (log 31). -/
  sets : Tab StripeSet
  blocks : Tab Block
deriving DecidableEq, Repr

/-- An MU as a dump holds it: its descriptor (R275) and its bytes. -/
structure DumpMu where
  nsid : Nat
  mu : Nat
  raw : Bool
  last : Nat
  seq : Nat
  mask : Nat
  bytes : List Byte
deriving DecidableEq, Repr

/-- A dump as recovery reads it from a dump set (R275, R285). -/
structure Dump where
  seq : Nat
  set : Nat
  /-- The journal tail: its pages' sequence numbers and records. -/
  tail : List (Nat × List JRec)
  /-- Its MUs, in write sequence order. -/
  mus : List DumpMu
  /-- Its end record is valid. -/
  complete : Bool
deriving DecidableEq, Repr

/-- What a rebuild is for (R236, R254, R255): to relocate an MU, or to fill a write buffer entry. -/
inductive RebuildUse where
  | reloc (gmu : Nat)
  | fill (entry : Nat)
deriving DecidableEq, Repr

/-- A page being rebuilt from the other pages of its row and its parity page (R254). -/
structure Rebuild where
  use : RebuildUse
  psa : Nat
  /-- Pages still to come. -/
  waiting : List Nat
  /-- The XOR of those that have come, and of their out-of-band areas. -/
  data : List Byte
  oob : List Byte
deriving DecidableEq, Repr

/-- A host read in service (R247, R248). -/
structure ReadJob where
  ref : CmdRef
  nsid : Nat
  lba : Nat
  blocks : Nat
  /-- Read, Compare or Verify (R139). -/
  kind : Nat
  /-- What the host sent to compare. -/
  compare : List Byte
  /-- MUs still awaited, and the bytes of those that have arrived (by MU number). -/
  waiting : List Nat
  arrived : Tab (List Byte)
  /-- It has been counted in CUR_INFLIGHT_WAIT (R248). -/
  waited : Bool := false
  /-- Stored forms that have arrived and wait for a decompressor. -/
  coded : Tab (List Byte) := []
  failed : Bool
deriving DecidableEq, Repr

/-- A host write that waits for its charges (R35, R235). -/
structure WriteJob where
  ref : CmdRef
  nsid : Nat
  lba : Nat
  data : List Byte
  /-- Write Zeroes (R239). -/
  zeroes : Bool
deriving DecidableEq, Repr

/-- An entry of log 0xC2 (R268). -/
structure DeaccEntry where
  psa : Nat
  reason : Nat
  tsc : Nat
deriving DecidableEq, Repr

/-- Hold-up bank and budget (R269 to R273, R278). -/
structure HoldUp where
  /-- HOLDUP_TEST is driven (R270). Reset 0. -/
  measuring : Bool := false
  /-- The bank has reached 95% (R270). Reset 0. -/
  charged : Bool := false
  /-- Budget in bytes (R271). Reset 0 (R273). -/
  budget : Nat := 0
  /-- A measurement has set the budget (R288). Reset 0. -/
  valid : Bool := false
  /-- The hold-up condition of R273 holds. Reset 0. -/
  low : Bool := false
  /-- CUR_HU_MEAS, domain D (R288). Reset 0. -/
  shown : Nat := 0
  /-- C_meas in µF and V_c in mV (R278). -/
  cMeas : Nat := 0
  vc : Nat := 0
  tsc : Nat := 0
  /-- R_dump in bytes per second. -/
  rDump : Nat := 0
  /-- The first measurement recorded at manufacture (chapter 07). -/
  firstMeas : Nat := 0
  /-- TSC at which the next measurement is due (R270). -/
  due : Nat := 0
  /-- Counts of log 0xC4. -/
  dumps : Nat := 0
  dips : Nat := 0
  lastBytes : Nat := 0
  lastDumpUs : Nat := 0
  lastRecoveryMs : Nat := 0
  measurements : Nat := 0
deriving DecidableEq, Repr

/-- One of the two dump sets (R274, R276). -/
structure DumpSet where
  /-- Its identity in the root records (R279). -/
  id : Nat
  /-- Its SLC blocks. -/
  blocks : List Nat := []
  /-- SLC cycles of its blocks (R276). -/
  cycles : Nat := 0
  /-- Blocks that hold pages of a dump, or whose erase has not ended. -/
  dirty : List Nat := []
deriving DecidableEq, Repr

/-- The dump sets (R274, R276, R277, R279, R285). They survive every reset. -/
structure DumpSets where
  /-- Bytes a dump may hold, fixed at format. -/
  size : Nat := 0
  /-- Sets A and B. -/
  a : DumpSet := { id := 0 }
  b : DumpSet := { id := 1 }
  /-- The armed set: 0 A, 1 B, none before arming (R274, R285). -/
  armed : Option Nat := none
  /-- Sequence number of the next dump. -/
  next : Nat := 1
  /-- Dumps not consumed yet: sequence number and set. -/
  live : List (Nat × Nat) := []
  /-- Dumps whose consumption is recorded in the tail and not yet durable (R285). -/
  consuming : List Nat := []
  /-- The set that is being erased to be armed (R274, R277). -/
  erasing : Option Nat := none
  /-- Fetching resumes once a set is armed (R277). -/
  resume : Bool := false
  /-- New blocks for both sets, in effect once a root record names them (R276, R279). -/
  moved : Option (DumpSet × DumpSet) := none
deriving DecidableEq, Repr

/-- The Curator. -/
structure Curator where
  /-- Write buffer entries by index (R235). In DRAM. -/
  wb : Tab WbEntry := []
  /-- Pages being packed and programmed, by number (R241). -/
  packing : Tab PackPage := []
  nextPage : Nat := 0
  /-- Stripe sets by number (R250). -/
  sets : Tab StripeSet := []
  nextSet : Nat := 0
  /-- Blocks with a history, by PSA >>> 21. -/
  blocks : Tab Block := []
  pools : Tab WingPool := []
  /-- Next write sequence number (R237). Reset 1. -/
  nextSeq : Nat := 1
  /-- Relocation generation of an MU as last written (R246). -/
  gens : Tab Nat := []
  /-- Write sequence number of an MU as last admitted (R237). -/
  seqs : Tab Nat := []
  /-- GMUs reported lost whose entry still names the lost copy (R254, R255). -/
  lostMus : List Nat := []
  /-- Map entries found wrong and not restorable (R228). -/
  badMus : List Nat := []
  /-- Host reads in service. -/
  reads : List ReadJob := []
  /-- Host writes that wait for budget, in order (R35). -/
  writes : List WriteJob := []
  /-- Journal tail: records not yet in a durable page (R282). -/
  tail : List JRec := []
  /-- Durable journal pages since the journal start, oldest first: sequence number, primary and mirror place (R280, R282). Their bytes are on media. -/
  journal : List (Nat × Nat × Nat) := []
  nextJSeq : Nat := 1
  /-- PSAs erased and reserved for the next journal page, primary and mirror; `noPsa`: none yet (R280). -/
  nextJ : Nat := noPsa
  nextJMirror : Nat := noPsa
  /-- Directory copies kept, oldest first: the anchor of the newest root record and those after it (R282). Their bytes are on media. -/
  dirs : List DirKept := []
  /-- Map segments changed since their newest copy (R282). -/
  changed : List Nat := []
  /-- The ring of 64-byte root records in the boot flash system area, oldest first (R279), and TSC of the newest. Survives. -/
  roots : List (List Byte) := []
  rootAt : Nat := 0
  /-- Pages being rebuilt from parity, by number (R254). -/
  rebuilds : Tab Rebuild := []
  nextRebuild : Nat := 0
  /-- The two dump sets (R274 to R277). -/
  dumpSets : DumpSets := {}
  /-- A dump is being written: TSC of its start, and whether for a reset (R275, R609). -/
  dumping : Option (Nat × Bool) := none
  holdup : HoldUp := {}
  /-- Recovery in progress (R282). Reset 0. -/
  recovering : Bool := false
  /-- Recovery has ended and the namespaces may report ready. Reset 0. -/
  mediaReady : Bool := false
  /-- The journal could not be walked (R287). -/
  journalBad : Bool := false
  /-- The reserve condition of R265 holds. Reset 0. -/
  reserveLow : Bool := false
  /-- Log 0xC2, newest first, 16,384 entries, and deaccessions ever (R268). -/
  deaccessions : List DeaccEntry := []
  deaccTotal : Nat := 0
  /-- Totals of log 0xC0 (R150). -/
  bytesRelocated : Nat := 0
  bytesProgrammed : Nat := 0
  /-- Stored slots of compressed namespaces, by GMU (R234). -/
  compressedSlots : Tab Nat := []
deriving DecidableEq, Repr

end Sys2Proof.Machine
end

