-- ==== Sys2Proof/Syntax.lean ====
section
/-! DEFINITION. The commands of the block: one constructor for each row of spec/opcode_table.json, in the table's order. -/

namespace Sys2Proof

open Sys2Proof.Machine

/-- The commands of the block, one for each row of the opcode table. A docstring gives the row's mnemonic, its rule and its summary. -/
inductive Instr where
  /-- CROSSING_REQUEST (R22). A read, write, mailbox post, wake or page-register request enters a crossing and is served by the destination island within the crossing bound. -/
  | crossingRequest (id : Nat) (src dst : Island) (op : CrossOp) (place : CrossPlace)
  /-- ISLAND_WAKE (R24). A gated island that holds a waiting crossing request wakes and serves the request. -/
  | islandWake (dst : Island)
  /-- CROSSING_RESPONSE (R22). A response returns through a crossing to the requester and ends its stalled access. -/
  | crossingResponse (id : Nat)
  /-- STALE_RESPONSE_DROP (R28). A response for an island re-initialised since it sent the request is dropped and counted as stale-response. -/
  | staleResponseDrop (id : Nat)
  /-- REGISTER_WRITE (R8). A write to a register that has no behaviour of its own updates its fields under their access codes. -/
  | registerWrite (who : Requester) (page off width : Nat) (v : Word)
  /-- PG_LOCK (R50). A write of 1 to PG_CTRL.lock locks every RWL field of the page until its reset domain. -/
  | pgLock (who : Requester) (page : Nat)
  /-- PG_ENABLE_WRITE (R49). A write to PG_CTRL.enable clock-gates the unit or returns it to work. -/
  | pgEnableWrite (who : Requester) (page : Nat) (enable : Bool)
  /-- QUIESCE_REQUEST (R52). Setting PG_CTRL.quiesce_req on a primary or FCH page starts a quiesce of the channel or island. -/
  | quiesceRequest (who : Requester) (page : Nat)
  /-- QUIESCE_RELEASE (R53). Clearing PG_CTRL.quiesce_req returns the unit to service or abandons a quiesce in progress. -/
  | quiesceRelease (who : Requester) (page : Nat)
  /-- QUIESCE_DONE (R26). The unit finishes the requests it had accepted, sets PG_STAT.quiesced and raises quiesce_done. -/
  | quiesceDone (page : Nat)
  /-- ISLAND_REINIT (R616). A write of 1 to PG_CTRL.reinit on a primary page starts re-initialisation of the island with the effects listed for that island. -/
  | islandReinit (who : Requester) (page : Nat)
  /-- ISLAND_READY (R616). A re-initialised island finishes its restart within its time to ready, sets ready and raises ready_change. -/
  | islandReady (dst : Island)
  /-- IRQ_STATUS_CLEAR (R57). A W1C write to PG_IRQ_STAT clears status bits, and clearing err also clears error capture and re-arms it. -/
  | irqStatusClear (who : Requester) (page : Nat) (v : Word)
  /-- IRQ_SET (R56). A write to PG_IRQ_SET sets status bits exactly as their events would. -/
  | irqSet (who : Requester) (page : Nat) (v : Word)
  /-- ERR_ADDR_LO_READ (R58). A read of PG_ERR_ADDR_LO latches PG_ERR_ADDR_HI. -/
  | errAddrLoRead (who : Requester) (page : Nat)
  /-- TOP_UID_LO_READ (R65). A read of TOP_UID_LO latches TOP_UID_HI. -/
  | topUidLoRead (who : Requester)
  /-- TSC_LO_READ (R622). A read of TSC_LO latches TSC_HI. -/
  | tscLoRead (who : Requester)
  /-- COUNTER_LO_READ (R288). A read of a 64-bit counter _LO register latches its _HI register. -/
  | counterLoRead (who : Requester) (page off : Nat)
  /-- HOST_BAR2_READ (R62). A host read through BAR2 returns the page register if its window group is open, and otherwise 0xFFFF_FFFF. -/
  | hostBar2Read (port off width : Nat)
  /-- HOST_BAR2_WRITE (R62). A host write through BAR2 reaches the page if its group is open for writing, and is otherwise discarded. -/
  | hostBar2Write (port off width : Nat) (v : Word)
  /-- POWER_ON (R608). The core supplies rise, every reset domain is restored and keeper core 0 starts in the boot ROM. -/
  | powerOn
  /-- PERST_ASSERT (R79). PERST_N is driven low for longer than 50 ns and a device reset of both ports begins. -/
  | perstAssert (lowNs : Nat)
  /-- PERST_RELEASE (R598). PERST_N rises and the start-up sequence runs: fuses, key derivation, boot image and link detect. -/
  | perstRelease
  /-- KEEPER_FIRMWARE_RUNNING (R599). The keeper firmware starts running and configuration requests are then completed normally. -/
  | keeperFirmwareRunning
  /-- CONFIG_REQUEST (R599). A PCIe configuration request is answered with Configuration Request Retry Status until firmware runs, and normally afterwards. -/
  | configRequest (ctl : Nat) (reg : CfgReg) (write : Option Nat)
  /-- DEVICE_RESET (R609). A device reset starts with a reset dump while the HOST islands reset at once. -/
  | deviceReset (cause : ResetCause)
  /-- RESET_DUMP_END (R609). The reset dump ends and every other island is reset and starts up. -/
  | resetDumpEnd
  /-- LINK_TRAINING_DONE (R74). A sub-link finishes training, at degraded width or rate where it must, and reports link_up. -/
  | linkTrainingDone (port sub : Nat) (partner : LinkPartner)
  /-- SURPRISE_DOWN (R80). A sub-link goes down without a reset, its controllers take a function-level reset and it retrains. -/
  | surpriseDown (port sub : Nat)
  /-- LINK_RETRAIN (R87). A write of 1 to HIF_LINK_CTRL.retrain retrains the sub-link. -/
  | linkRetrain (who : Requester) (port sub : Nat)
  /-- COMPLETION_TIMEOUT (R78). A non-posted host request times out and the command or queue that caused it fails as tabled. -/
  | completionTimeout (port sub tag : Nat)
  /-- HOST_COMPLETION_TLP (R643). A completion TLP arrives for an outstanding request, or is discarded if a reset has ended that request. -/
  | hostCompletionTlp (port sub tag : Nat) (poisoned : Bool)
  /-- BAR_UNSUPPORTED_REQUEST (R641). A memory request that matches no enabled BAR is answered as an Unsupported Request. `write` is the value
  written; none: a read. -/
  | barUnsupportedRequest (ctl : Nat) (bar off width : Nat) (write : Option Nat)
  /-- BAR0_BAD_ACCESS (R94). A BAR0 access of a width or alignment that is not accepted is not performed, and ACCESSION captures 0x24. -/
  | bar0BadAccess (ctl off width : Nat) (write : Bool)
  /-- CONTROLLER_REGISTER_WRITE (R89). The host writes an NVMe controller register such as AQA, ASQ, ACQ or INTMS. -/
  | controllerRegisterWrite (ctl off width v : Nat)
  /-- VF_ENABLE (R82). A write of VF Enable in the SR-IOV capability enables NumVFs virtual functions, or has no effect above TotalVFs. -/
  | vfEnable (port sub : Nat) (enable : Bool)
  /-- SQ_DOORBELL (R94). A submission queue tail doorbell write marks the queue non-empty. -/
  | sqDoorbell (ctl q v : Nat)
  /-- CQ_DOORBELL (R112). A completion queue head doorbell write frees CQ entries for held CQEs. -/
  | cqDoorbell (ctl q v : Nat)
  /-- NSSR_WRITE (R96). A write of 0x4E56_4D65 to NSSR of a PF causes a device reset covering both ports. -/
  | nssrWrite (ctl : Nat) (v : Word)
  /-- CONTROLLER_ENABLE (R91). CC.EN goes from 0 to 1, with CSTS.CFS set if CC holds an unsupported value. -/
  | controllerEnable (ctl : Nat) (cc : Word)
  /-- CONTROLLER_READY (R92). CSTS.RDY is set once the media is ready or within CRIMT or CRWMT. -/
  | controllerReady (ctl : Nat)
  /-- CONTROLLER_RESET (R120). CC.EN goes from 1 to 0 and the controller's commands are discarded, cancelled or run without a CQE. -/
  | controllerReset (ctl : Nat)
  /-- FUNCTION_LEVEL_RESET (R121). A function-level reset acts as a controller reset and also resets configuration space, and on a PF its VFs. -/
  | functionLevelReset (ctl : Nat)
  /-- SHUTDOWN_NOTIFICATION (R607). A write of CC.SHN stops fetching on the controller. -/
  | shutdownNotification (ctl shn : Nat)
  /-- SHUTDOWN_COMPLETE (R607). Started commands, and on the last controller the dirty data and journal, are done and CSTS.SHST reads 10b. -/
  | shutdownComplete (ctl : Nat)
  /-- SQE_FETCH (R102). ACCESSION chooses a queue by arbitration and issues an SQE fetch once a command context is free. -/
  | sqeFetch
  /-- SQE_ARRIVE (R113). A fetched SQE arrives and takes a context as an outstanding command. -/
  | sqeArrive (ctl sq : Nat) (h : SqeHeader)
  /-- COMMAND_START (R107). A command is handed to its executing block in submission order. -/
  | commandStart (ref : CmdRef)
  /-- COMMAND_COMPLETE (R108). A command finishes in its executing block and its CQE is posted or held behind earlier commands. -/
  | commandComplete (ref : CmdRef)
  /-- CQE_POST (R108). A held CQE is posted in submission order once earlier CQEs are posted and the CQ has room. -/
  | cqePost (ctl cq : Nat)
  /-- COALESCE_TIMER_EXPIRY (R129). The aggregation time of an interrupt coalescing vector expires and the pending message is sent. -/
  | coalesceTimerExpiry (ctl vec : Nat)
  /-- MSIX_UNMASK (R131). Unmasking a vector with its pending bit set sends the held message. -/
  | msixUnmask (ctl vec : Nat)
  /-- DELETE_IO_SQ (R119). Admin command deleting an I/O SQ, which aborts its unstarted commands and completes after the last CQE. -/
  | deleteIoSq (ref : CmdRef) (qid : Nat)
  /-- CREATE_IO_SQ (R99). Admin command creating an I/O SQ within the controller's VQ allocation. -/
  | createIoSq (ref : CmdRef) (qid qsize : Nat) (contiguous : Bool) (cqid prio : Nat)
  /-- DELETE_IO_CQ (R101). Admin command deleting an I/O CQ, which fails while SQs are attached. -/
  | deleteIoCq (ref : CmdRef) (qid : Nat)
  /-- CREATE_IO_CQ (R100). Admin command creating an I/O CQ with a vector inside the controller's allocation. -/
  | createIoCq (ref : CmdRef) (qid qsize : Nat) (contiguous interrupts : Bool) (vec : Nat)
  /-- GET_LOG_PAGE (R146). Admin command returning a log page from an offset, with log 0xC3 entries removed when read with RAE = 0. -/
  | getLogPage (ref : CmdRef) (lid numd lpo : Nat) (rae : Bool)
  /-- IDENTIFY (R138). Admin command returning the Identify structure that the CNS value selects. -/
  | identify (ref : CmdRef) (cns cntid csi : Nat)
  /-- ABORT (R116). Admin command that aborts a fetched, unstarted target command, or reports that it could not. -/
  | abort (ref : CmdRef) (sqid cid : Nat)
  /-- SET_FEATURES (R159). Admin command setting a feature's current value and, with SV, saving it. -/
  | setFeatures (ref : CmdRef) (fid : Nat) (save : Bool) (dw11 dw12 : Nat) (data : List Nat)
  /-- GET_FEATURES (R159). Admin command returning a feature's current, default, saved or capability value. -/
  | getFeatures (ref : CmdRef) (fid sel dw11 : Nat)
  /-- ASYNC_EVENT_REQUEST (R135). Admin command that waits for an asynchronous event, with up to 8 outstanding. -/
  | asyncEventRequest (ref : CmdRef)
  /-- NS_MGMT_CREATE (R142). Namespace Management create, which checks the attributes, the DRAM sizing rule and capacity. -/
  | nsMgmtCreate (ref : CmdRef) (attrs : NsAttrs)
  /-- NS_MGMT_DELETE (R144). Namespace Management delete, which frees the namespace's MUs and destroys its media key. -/
  | nsMgmtDelete (ref : CmdRef)
  /-- NS_ATTACH (R143). Namespace Attachment attaching a namespace to controllers. -/
  | nsAttach (ref : CmdRef) (ctls : List Nat)
  /-- NS_DETACH (R143). Namespace Attachment detaching a namespace, which completes after its started commands end. -/
  | nsDetach (ref : CmdRef) (ctls : List Nat)
  /-- FIRMWARE_IMAGE_DOWNLOAD (R161). Admin command placing a piece of an image in the device-wide download buffer. -/
  | firmwareImageDownload (ref : CmdRef) (numd ofst : Nat) (data : List Byte)
  /-- FIRMWARE_COMMIT_REPLACE (R162). Firmware Commit with CA 0, which writes the buffered image to a slot without activating it. `action` is CA:
  it carries the actions that no other row has too. -/
  | firmwareCommitReplace (ref : CmdRef) (action slot : Nat)
  /-- FIRMWARE_COMMIT_AT_RESET (R162). Firmware Commit with CA 1, which writes the image and selects it for the next reset. -/
  | firmwareCommitAtReset (ref : CmdRef) (slot : Nat)
  /-- FIRMWARE_COMMIT_SLOT_SELECT (R162). Firmware Commit with CA 2, which selects an existing slot for the next reset. -/
  | firmwareCommitSlotSelect (ref : CmdRef) (slot : Nat)
  /-- FIRMWARE_COMMIT_IMMEDIATE (R165). Firmware Commit with CA 3, which activates without reset when the image has live_ok. -/
  | firmwareCommitImmediate (ref : CmdRef) (slot : Nat)
  /-- FW_ACTIVATION_START (R166). Once the image is staged, the activation notice is sent and fetching stops on every controller. -/
  | fwActivationStart
  /-- FW_ACTIVATION_TIMEOUT (R167). Started commands are still incomplete 300 ms after fetching stopped, so the activation is abandoned. -/
  | fwActivationTimeout
  /-- FW_ACTIVATION_COMPLETE (R166). Started commands have drained, the keepers restart on the new image and fetching resumes. -/
  | fwActivationComplete
  /-- SELF_TEST_SHORT (R175). Device Self-test with STC 1 starts the short test. -/
  | selfTestShort (ref : CmdRef)
  /-- SELF_TEST_EXTENDED (R175). Device Self-test with STC 2 starts the extended test, which includes a verify of every written page. -/
  | selfTestExtended (ref : CmdRef)
  /-- SELF_TEST_ABORT (R175). Device Self-test with STC 0xF aborts a test in progress. -/
  | selfTestAbort (ref : CmdRef)
  /-- SELF_TEST_COMPLETE (R175). A self-test ends and its result is entered in log 0x06. -/
  | selfTestComplete (found : SelfTestFound)
  /-- VIRTUALIZATION_MANAGEMENT (R98). Admin command assigning VQ and VI pool resources among a PF and its secondary controllers. -/
  | virtualizationManagement (ref : CmdRef) (act rt cntlid nr : Nat)
  /-- FORMAT_NVM (R174). Admin command that journals the namespaces to format and then formats each under its LBA format and SES. -/
  | formatNvm (ref : CmdRef) (lbaf ses : Nat)
  /-- FORMAT_COMPLETE (R174). The format of every recorded namespace ends and its end is journaled. -/
  | formatComplete
  /-- SANITIZE_BLOCK_ERASE (R170). Sanitize with SANACT 2, which erases every user, Ledger, dump and journal block. `act` is SANACT: it
  carries the actions that no other row has too. -/
  | sanitizeBlockErase (ref : CmdRef) (act : Nat)
  /-- SANITIZE_CRYPTO_ERASE (R170). Sanitize with SANACT 4, which replaces every media key and deallocates every MU. -/
  | sanitizeCryptoErase (ref : CmdRef)
  /-- SANITIZE_EXIT_FAILURE (R172). Sanitize with SANACT 1, which leaves sanitize failure mode. -/
  | sanitizeExitFailure (ref : CmdRef)
  /-- SANITIZE_COMPLETE (R171). A sanitize ends successfully or enters failure mode, and commands are no longer refused. -/
  | sanitizeComplete (ok : Bool)
  /-- SMBUS_MI_READ (R177). An SMBus read of an NVMe-MI basic management command code returns the status or vendor block, or 0xFF bytes. -/
  | smbusMiRead (code len : Nat)
  /-- SIDEBAND_REFRESH (R178). Each second the keeper refreshes the sideband status block. -/
  | sidebandRefresh
  /-- WING_DISCOVERY (R184). A write of 1 to WNG_CTRL.discover starts die discovery on every present channel of the wing. -/
  | wingDiscovery (who : Requester) (wing : Nat) (answers : List DieAnswer)
  /-- REFERENCE_GEOMETRY_FOUND (R186). Wing 0 finds the reference die and other wings' held discoveries continue with admission. -/
  | referenceGeometryFound
  /-- CHANNEL_TRAINING_DONE (R182). A channel's training at discovery, retrain or qualification ends in success or failure. -/
  | channelTrainingDone (ch : Nat) (ok : Bool)
  /-- CHANNEL_RETRAIN (R182). A write of 1 to FCH_CFG.retrain on a running channel retrains it while operations are held. -/
  | channelRetrain (who : Requester) (ch : Nat)
  /-- CHANNEL_OPERATION_SUBMIT (R189). A 16-byte operation descriptor enters a channel queue, or completes at once when it is invalid. -/
  | channelOperationSubmit (ch : Nat) (d : ChanDesc) (data : List Byte) (oob : List Byte)
  /-- CHANNEL_OPERATION_START (R190). The channel starts a queued operation by class and arrival once its die is free and buffer slots are available. -/
  | channelOperationStart (ch : Nat)
  /-- FLASH_READ (R195). A read operation senses a page and decodes its codewords, escalating through soft decode and read retry. -/
  | flashRead (ch die : Nat) (codewords : List Decode)
  /-- FLASH_VERIFY (R201). A verify operation reads a page into the decoder and reports corrected-bit counts only. -/
  | flashVerify (ch die : Nat) (codewords : List Decode)
  /-- FLASH_PROGRAM (R188). A program operation writes a page through the XTS engine to the die; its array time is `ns` (R271). -/
  | flashProgram (ch die : Nat) (ok : Bool) (ns : Nat)
  /-- FLASH_ERASE (R188). An erase operation erases a block of a die; its array time is `ns` (R172). -/
  | flashErase (ch die : Nat) (ok : Bool) (ns : Nat)
  /-- FLASH_READ_STATUS (R189). A read status operation returns the die's ONFI status byte without waiting for ready. -/
  | flashReadStatus (ch die : Nat) (statusByte : Byte)
  /-- DIE_OPERATION_END (R191). A die completes a sense, program or erase and the channel writes the operation's completion record. -/
  | dieOperationEnd (ch die : Nat)
  /-- BUFFER_SLOT_RELEASE (R193). The destination takes the last byte of a read and its channel buffer slot is released. -/
  | bufferSlotRelease (ch tag : Nat)
  /-- OPERATION_RESUME (R202). After the queued class 0 reads of the die are served, the suspended operation resumes. -/
  | operationResume (ch die : Nat)
  /-- DIE_BUSY_TIMEOUT (R208). A die stays busy beyond FCH_TMO, error 0x21 is captured and RESET LUN is issued. -/
  | dieBusyTimeout (ch die : Nat)
  /-- DIE_RESET_TIMEOUT (R208). A die is still busy 10 ms after RESET LUN and is fenced with reason 1. -/
  | dieResetTimeout (ch die : Nat)
  /-- KEEPER_DIE_CHECK (R209). The keeper reads the parameter page and verifies 64 random pages to decide whether to fence a die. -/
  | keeperDieCheck (ch die : Nat) (readable : Bool) (failedPages : List Nat)
  /-- FENCE_RECORD_DURABLE (R212). A new fence is written to the fence record before map changes that move data away from the die. -/
  | fenceRecordDurable (ch die : Nat)
  /-- FENCED_DIE_RESPONSE (R210). A response from a fenced die is dropped, counted and logged, and the first also captures 0x22. -/
  | fencedDieResponse (ch die : Nat)
  /-- DIE_FENCE (R219). FCH_DIE_CTRL command 1 fences a present die with reason 5. -/
  | dieFence (who : Requester) (ch die : Nat)
  /-- DIE_QUALIFY (R213). FCH_DIE_CTRL command 2 starts qualification of a fenced die, or refuses it. -/
  | dieQualify (who : Requester) (ch die : Nat)
  /-- DIE_QUALIFY_END (R213). A qualification ends with readmission or a failing result, or is abandoned. -/
  | dieQualifyEnd (ch : Nat) (test : DieTest)
  /-- CHANNEL_QUALIFY (R216). FCH_DIE_CTRL command 3 retrains a fenced channel with up to three attempts. -/
  | channelQualify (who : Requester) (ch : Nat)
  /-- DIE_RESTORE_FENCE (R212). FCH_DIE_CTRL command 4 makes a die present and fenced without rebuild or new log entry. -/
  | dieRestoreFence (who : Requester) (ch die reason : Nat)
  /-- PFAIL_ASSERT (R275). PFAIL_N goes low: fetching stops, the wings abort programs and erases, and the dump of dirty data begins. -/
  | pfailAssert (lowNs : Nat)
  /-- DUMP_DIE_CUTOFF (R204). 20 µs after PFAIL_N falls, dies that are not ready are excluded from the dump. -/
  | dumpDieCutoff (notReady : List (Nat × Nat))
  /-- DUMP_END (R277). The end record of a dump is programmed, and if power has returned the device resumes from DRAM. -/
  | dumpEnd
  /-- PFAIL_DEASSERT (R277). PFAIL_N rises again, which the device acts on only when the dump ends. -/
  | pfailDeassert
  /-- HOLDUP_MEASURE (R270). A hold-up measurement starts by asserting HOLDUP_TEST for 5 ms, on schedule or by CUR_HU_CTRL.measure. -/
  | holdupMeasure
  /-- HOLDUP_MEASURE_END (R271). The measurement ends, and C_meas and the dirty-data budget are computed or the failure is captured. -/
  | holdupMeasureEnd (before after : Nat)
  /-- BANK_CHARGED (R270). The bank first reaches 95% of its declared voltage after power-on, which schedules the first measurement. -/
  | bankCharged
  /-- BANK_CHARGE_TIMEOUT (R273). The bank has not reached 95% within 120 s and the device becomes read-only with critical warning bit 4. -/
  | bankChargeTimeout
  /-- READ (R247). I/O Read of logical blocks through the map, with decompression of compressed MUs. -/
  | read (ref : CmdRef) (lba nlb : Nat)
  /-- WRITE (R235). I/O Write that takes write buffer entries for each MU and completes when all are charged. -/
  | write (ref : CmdRef) (lba : Nat) (data : List Byte)
  /-- WRITE_CHARGE_ADMIT (R35). A waiting Write's MUs are charged once the dirty-data budget and free sets allow. -/
  | writeChargeAdmit (ref : CmdRef)
  /-- WRITE_ZEROES (R239). I/O Write Zeroes, which deallocates whole MUs and writes zeros to partial ones. -/
  | writeZeroes (ref : CmdRef) (lba nlb : Nat)
  /-- DATASET_MANAGEMENT (R239). I/O Dataset Management deallocate, which deallocates every MU wholly covered by its ranges. -/
  | datasetManagement (ref : CmdRef) (deallocate : Bool) (ranges : List LbaRange)
  /-- COMPARE (R139). I/O Compare of host data against stored logical blocks. -/
  | compare (ref : CmdRef) (lba : Nat) (data : List Byte)
  /-- VERIFY (R139). I/O Verify, which reads and checks logical blocks without transferring them. -/
  | verify (ref : CmdRef) (lba nlb : Nat)
  /-- FLUSH (R120). I/O Flush command. -/
  | flush (ref : CmdRef)
  /-- MAP_ENTRY_RESTORE (R228). A map entry with a wrong crc is restored from the checkpoint and journal and the lookup repeats; `bad` are codewords
  that fail decoding as they are read. -/
  | mapEntryRestore (gmu : Nat) (bad : List Nat)
  /-- PARTIAL_MU_FILL (R236). The missing blocks of a partial MU are filled from media, an older buffer entry or zeros. -/
  | partialMuFill (entry : Nat)
  /-- INLINE_COMPRESS_REQUEST (R322). An MU is sent to a shared compressor on the preferred island, waiting if none is free. -/
  | inlineCompressRequest (entry : Nat)
  /-- INLINE_COMPRESS_DONE (R325). An inline compression returns the stored size and raw flag and the MU's charge falls to its stored size. -/
  | inlineCompressDone (entry : Nat)
  /-- INLINE_DECOMPRESS_REQUEST (R347). A compressed MU of a read or scan is decompressed from its first codeword. -/
  | inlineDecompressRequest (ref : CmdRef) (mu : Nat)
  /-- PAGE_FILL_TIMEOUT (R241). CUR_PACK_TMO expires after a page's first MU was placed and the page is programmed with padding. -/
  | pageFillTimeout (page : Nat)
  /-- PAGE_PROGRAMMED (R242). A data page is programmed and its MUs' map entries become mapped, releasing reads waiting on them. -/
  | pageProgrammed (page : Nat)
  /-- PARITY_PROGRAMMED (R242). A parity page is programmed and the write buffer entries it covers are freed and uncharged. -/
  | parityProgrammed (set row : Nat)
  /-- STRIPE_SET_OPEN (R250). A stripe set opens by taking one free block on each of the 12 channels of the wing. -/
  | stripeSetOpen (wing : Nat) (stream : CurStream)
  /-- PARITY_RELEASE (R253). Every page of a closed set has passed verify or been relocated, and its Ledger pages are released. -/
  | parityRelease (set : Nat)
  /-- GARBAGE_COLLECTION_START (R257). A wing's free stripe sets fall below CUR_GC_CFG.low and it selects a victim to relocate. -/
  | garbageCollectionStart (wing : Nat)
  /-- RELOCATION (R259). A valid MU of a victim set is read with XTS off and written unchanged into the relocation stream. -/
  | relocation (gmu : Nat)
  /-- STRIPE_SET_FREE (R261). A victim set returns to the free pool once the journal records of every move out of it are programmed. -/
  | stripeSetFree (set : Nat)
  /-- BLOCK_DEACCESSION (R263). A block is retired and replaced from the reserve collection, a loan or the emergency reserve. -/
  | blockDeaccession (psa reason : Nat)
  /-- JOURNAL_PAGE_DURABLE (R282). Both copies of a journal page pass program status and its records are durable. -/
  | journalPageDurable
  /-- JOURNAL_ADVANCE (R282). Changed map segments are copied and a new directory copy advances the journal start. -/
  | journalAdvance
  /-- ROOT_RECORD_WRITE (R279). A root record naming a new anchor or new dump sets is written to the boot flash ring. -/
  | rootRecordWrite
  /-- RECOVERY (R282). After DRAM training, the map is rebuilt from directory, journal, open sets and unconsumed dumps; `bad` are
  codewords that fail decoding as they are read. -/
  | recovery (bad : List Nat)
  /-- DUMP_CONSUMED (R285). Every MU placed from a dump is durable, the dump is marked consumed and the other set is erased and armed. -/
  | dumpConsumed
  /-- LATENCY_WINDOW_END (R294). A 10 ms latency window ends and breach of any class sets or clears the share floor. -/
  | latencyWindowEnd
  /-- PATROL_VERIFY (R296). The Conservator verifies the next written page of its patrol pass. -/
  | patrolVerify
  /-- THRESHOLD_REWRITE (R297). Every valid MU of a stripe set is relocated because of verify failure, threshold or retention. -/
  | thresholdRewrite (set : Nat)
  /-- EFFECTIVE_AGE_TICK (R298). Each hour every closed stripe set's effective age grows by its temperature weight. -/
  | effectiveAgeTick (dieTemps : List (Nat × Nat))
  /-- BLOCK_GROUP_CALIBRATION (R299). A block group's read-level offsets are recalibrated by trial verifies, one a command. -/
  | blockGroupCalibration (ch die group : Nat)
  /-- RETRAIN_TRIGGER (R300). Drift or elapsed time makes the Conservator retrain a flash channel or start a DRAM slice. -/
  | retrainTrigger (dram : Bool) (n : Nat)
  /-- SCHEDULE_RECORD_WRITE (R301). Each hour the Conservator writes its schedule state to the keeper configuration record. -/
  | scheduleRecordWrite
  /-- SENSOR_INVALID (R303). A sensor reads out of range, is excluded and captures error 0x21. -/
  | sensorInvalid (n reading : Nat)
  /-- SENSOR_REVALID (R303). A sensor that has read in range for 10 s becomes valid again. -/
  | sensorRevalid (n reading : Nat)
  /-- THERMAL_LOOP_TICK (R306). Every 1 ms the thermal loop compares the hottest sensor with T_c and changes stage and island levels. -/
  | thermalLoopTick (readings : List (Nat × Nat × Nat))
  /-- UTILISATION_DVFS_EVAL (R308). Every 10 ms an island's busy fraction steps its level down or back to 0. -/
  | utilisationDvfsEval (busy : List (Nat × Nat))
  /-- MONITOR_EVENT_SAMPLE (R309). An event of a monitor's source updates its statistics and bins. -/
  | monitorEventSample (source inst value : Nat)
  /-- MONITOR_LEVEL_SAMPLE (R309). Every MON_PERIOD µs a level monitor samples its source. -/
  | monitorLevelSample (j : Nat)
  /-- MON_COUNT_LO_READ (R311). A read of MON_COUNT_LO latches every register of that monitor. -/
  | monCountLoRead (who : Requester) (j : Nat)
  /-- MON_CLR (R312). A write of 1 to MON_CLR.clr clears the monitor's statistics. -/
  | monClr (who : Requester) (j : Nat)
  /-- MONITOR_CONFIG_WRITE (R312). A write to MON_CFG or MON_BIN sets the monitor and clears its statistics. -/
  | monitorConfigWrite (who : Requester) (j which : Nat) (v : Word)
  /-- CMP_RING_TAIL_WRITE (R354). A write to CMP_RING_TAIL, or a word taken from the ring's mailbox, advances the ring's tail. -/
  | cmpRingTailWrite (who : Requester) (island ring : Nat) (v : Word)
  /-- CMP_RING_ENABLE (R353). A write to CMP_RING_CFG.enable starts or stops descriptor fetching for the ring. -/
  | cmpRingEnable (who : Requester) (island ring : Nat) (v : Word)
  /-- CMP_JOB_FETCH (R323). A free engine takes a descriptor from the highest-priority non-empty ring. -/
  | cmpJobFetch (island : Nat)
  /-- CMP_JOB_COMPRESS (R326). Ring job with op 1 compresses its input in the chosen format and level. -/
  | cmpJobCompress (job : Nat)
  /-- CMP_JOB_DECOMPRESS (R331). Ring job with op 2 decompresses its input and checks the stream. -/
  | cmpJobDecompress (job : Nat)
  /-- CMP_JOB_COMPLETE (R341). A job ends, writes its output, continuation and completion record, then posts its ticket and sets job_irq. -/
  | cmpJobComplete (job : Nat)
  /-- ILL (R366). Opcode 0x00, which always ends with the invalid-instruction fault. -/
  | opIll (c : CoreId) (w : Fields)
  /-- LD (R372). Load of the memory operand into the lanes of A in the shape. -/
  | opLd (c : CoreId) (w : Fields)
  /-- ST (R372). Store of the lanes of A in the shape to memory. -/
  | opSt (c : CoreId) (w : Fields)
  /-- LDI (R373). Load of an immediate into every lane of the shape. -/
  | opLdi (c : CoreId) (w : Fields)
  /-- ADD (R372). Lane-wise addition of the memory operand to A. -/
  | opAdd (c : CoreId) (w : Fields)
  /-- SUB (R372). Lane-wise subtraction of the memory operand from A. -/
  | opSub (c : CoreId) (w : Fields)
  /-- RSB (R372). Lane-wise reverse subtraction of A from the memory operand. -/
  | opRsb (c : CoreId) (w : Fields)
  /-- ADDI (R373). Lane-wise addition of an immediate to A. -/
  | opAddi (c : CoreId) (w : Fields)
  /-- AND (R372). Lane-wise AND of A and the memory operand. -/
  | opAnd (c : CoreId) (w : Fields)
  /-- OR (R372). Lane-wise OR of A and the memory operand. -/
  | opOr (c : CoreId) (w : Fields)
  /-- XOR (R372). Lane-wise XOR of A and the memory operand. -/
  | opXor (c : CoreId) (w : Fields)
  /-- MIN (R372). Lane-wise minimum of A and the memory operand. -/
  | opMin (c : CoreId) (w : Fields)
  /-- MAX (R372). Lane-wise maximum of A and the memory operand. -/
  | opMax (c : CoreId) (w : Fields)
  /-- CMPEQ (R363). Compare for equality, setting the lane mask. -/
  | opCmpeq (c : CoreId) (w : Fields)
  /-- CMPGT (R363). Compare for greater-than, setting the lane mask. -/
  | opCmpgt (c : CoreId) (w : Fields)
  /-- CMPLT (R363). Compare for less-than, setting the lane mask. -/
  | opCmplt (c : CoreId) (w : Fields)
  /-- TST (R363). Test for a non-zero AND in each lane, setting the lane mask. -/
  | opTst (c : CoreId) (w : Fields)
  /-- SHL (R374). Lane-wise left shift of A by an immediate. -/
  | opShl (c : CoreId) (w : Fields)
  /-- SHR (R374). Lane-wise right shift of A, logical or arithmetic. -/
  | opShr (c : CoreId) (w : Fields)
  /-- SLD (R374). Move lanes of A down by an immediate count. -/
  | opSld (c : CoreId) (w : Fields)
  /-- SLU (R374). Move lanes of A up by an immediate count. -/
  | opSlu (c : CoreId) (w : Fields)
  /-- SEL (R372). Per lane, keep A where the mask bit is 1 and take the memory operand otherwise. -/
  | opSel (c : CoreId) (w : Fields)
  /-- HSUM (R375). Sum of the lanes in the shape into A[63:0]. -/
  | opHsum (c : CoreId) (w : Fields)
  /-- ABS (R372). Lane-wise signed absolute value of A. -/
  | opAbs (c : CoreId) (w : Fields)
  /-- MCNT (R372). Count of 1 bits in the mask into A[63:0]. -/
  | opMcnt (c : CoreId) (w : Fields)
  /-- MFST (R372). Index of the lowest set mask bit into A[63:0]. -/
  | opMfst (c : CoreId) (w : Fields)
  /-- MLD (R372). Load of the lane mask from memory. -/
  | opMld (c : CoreId) (w : Fields)
  /-- MST (R372). Store of the lane mask to memory. -/
  | opMst (c : CoreId) (w : Fields)
  /-- MNOT (R372). Inversion of the lane mask. -/
  | opMnot (c : CoreId) (w : Fields)
  /-- XADD (R384). Atomic fetch-and-add of lane 0 to a local or shared memory element. -/
  | opXadd (c : CoreId) (w : Fields)
  /-- MUL (R379). Issue of the lane-wise product of A and the memory operand to the multiplier. -/
  | opMul (c : CoreId) (w : Fields)
  /-- MULA (R379). Issue of the lane-wise square of A to the multiplier. -/
  | opMula (c : CoreId) (w : Fields)
  /-- PRODUCT_LAND (R380). Four cycles after issue a product lands in MLO and MHI. -/
  | productLand (c : CoreId)
  /-- LDLO (R380). Load of MLO into A. -/
  | opLdlo (c : CoreId) (w : Fields)
  /-- LDHI (R380). Load of MHI into A. -/
  | opLdhi (c : CoreId) (w : Fields)
  /-- ADLO (R380). Addition of MLO to A. -/
  | opAdlo (c : CoreId) (w : Fields)
  /-- IXL (R372). Index X load from memory. -/
  | opIxl (c : CoreId) (w : Fields)
  /-- IXS (R372). Index X store to memory. -/
  | opIxs (c : CoreId) (w : Fields)
  /-- IYL (R372). Index Y load from memory. -/
  | opIyl (c : CoreId) (w : Fields)
  /-- IYS (R372). Index Y store to memory. -/
  | opIys (c : CoreId) (w : Fields)
  /-- IXA (R372). Index X advance by an immediate, optionally only while the mask is non-zero. -/
  | opIxa (c : CoreId) (w : Fields)
  /-- IYA (R372). Index Y advance by an immediate, optionally only while the mask is non-zero. -/
  | opIya (c : CoreId) (w : Fields)
  /-- IXC (R372). Flags from X minus the memory operand. -/
  | opIxc (c : CoreId) (w : Fields)
  /-- IYC (R372). Flags from Y minus the memory operand. -/
  | opIyc (c : CoreId) (w : Fields)
  /-- XFR (R377). Register transfer that the immediate selects, including TSC and counter reads. -/
  | opXfr (c : CoreId) (w : Fields)
  /-- BR (R378). Branch taken when its condition code holds. -/
  | opBr (c : CoreId) (w : Fields)
  /-- CALL (R372). Branch that saves the return address in LK. -/
  | opCall (c : CoreId) (w : Fields)
  /-- RET (R372). Return to the address in LK. -/
  | opRet (c : CoreId) (w : Fields)
  /-- END (R394). After stores drain and products land, the ticket ends with its status. -/
  | opEnd (c : CoreId) (w : Fields)
  /-- TKT (R393). After earlier stores are accepted, a 64-byte descriptor is submitted to the Registrar and Z reports acceptance. -/
  | opTkt (c : CoreId) (w : Fields)
  /-- NOP (R372). No operation. -/
  | opNop (c : CoreId) (w : Fields)
  /-- FENCE (R403). Wait until every earlier write of the core has been accepted at its destination. -/
  | opFence (c : CoreId) (w : Fields)
  /-- FLD (R400). Keeper far load through the crossings, stalling until the response. -/
  | opFld (c : CoreId) (w : Fields)
  /-- FST (R400). Keeper posted far store through the crossings. -/
  | opFst (c : CoreId) (w : Fields)
  /-- PRD (R401). Keeper read of a page register. -/
  | opPrd (c : CoreId) (w : Fields)
  /-- PWR (R401). Keeper write of a page register. -/
  | opPwr (c : CoreId) (w : Fields)
  /-- MBP (R402). Keeper post of A[31:0] to a mailbox channel. -/
  | opMbp (c : CoreId) (w : Fields)
  /-- MBT (R402). Keeper take from a mailbox channel. -/
  | opMbt (c : CoreId) (w : Fields)
  /-- CSAVE (R409). Save of the core context to a 256-byte area. -/
  | opCsave (c : CoreId) (w : Fields)
  /-- CREST (R409). Restore of the core context, except PC, from a 256-byte area. -/
  | opCrest (c : CoreId) (w : Fields)
  /-- SETG (R410). Set G from A[47:0]. -/
  | opSetg (c : CoreId) (w : Fields)
  /-- MFS (R404). Read of a keeper special register into A. -/
  | opMfs (c : CoreId) (w : Fields)
  /-- MTS (R404). Write of A to a keeper special register. -/
  | opMts (c : CoreId) (w : Fields)
  /-- IRET (R407). Return from interrupt or fault, restoring PC, flags and mask and re-enabling interrupts. -/
  | opIret (c : CoreId) (w : Fields)
  /-- WAIT (R408). Gate the core's clock until an interrupt or mailbox event is pending. -/
  | opWait (c : CoreId) (w : Fields)
  /-- KEEPER_INTERRUPT_ENTRY (R405). A pending page or mailbox event with IEN set enters the keeper's handler between instructions. -/
  | keeperInterruptEntry (k : Nat)
  /-- WIN_CLAIM_READ (R387). A read of WIN_CLAIM takes a filled half, stalls until one is filled, or returns end. -/
  | winClaimRead (g k w : Nat)
  /-- WIN_RELEASE_WRITE (R389). A write to WIN_RELEASE returns a held half to the data mover. -/
  | winReleaseWrite (g k w : Nat) (v : Word)
  /-- CATALOGUE_KEY_STORE (R472). A store to KEY writes bytes of the core's search key. -/
  | catalogueKeyStore (g k off : Nat) (bytes : List Byte)
  /-- SEARCH (R476). A store to SEARCH starts a Catalogue search of a chain under a tag with the key as it stands. -/
  | search (g k : Nat) (v : Word)
  /-- SEARCH_RESULT (R474). A search's RESULT word arrives at the core's port, ending any stall on RESULT. -/
  | searchResult (g k : Nat)
  /-- RESULT_READ (R392). A read of RESULT returns the core's last search result, stalling until it arrives. -/
  | resultRead (g k : Nat)
  /-- DOC_ICACHE_INV (R411). A write of 1 invalidates every instruction cache of the gallery. -/
  | docIcacheInv (who : Requester) (g : Nat) (v : Word)
  /-- KEEPER_CORE_START (R413). Setting a KPR_RUN bit starts the keeper core at KPR_START with special registers reset. -/
  | keeperCoreStart (who : Requester) (k : Nat)
  /-- KEEPER_CORE_STOP (R413). Clearing a KPR_RUN bit stops the keeper core after the drain, force-releasing the SCE if it owns it. -/
  | keeperCoreStop (who : Requester) (k : Nat)
  /-- LOAD_PROGRAM (R422). Computational command that verifies a Praton image and places it in a program index. -/
  | loadProgram (ref : CmdRef) (index : Nat) (image : List Byte)
  /-- PROGRAM_ACTIVATE (R423). Program Activation Management activate, which binds the program to a context and allocates shared data. -/
  | programActivate (ref : CmdRef) (index ctx : Nat) (record : List Byte)
  /-- PROGRAM_DEACTIVATE (R417). Program Activation Management deactivate, which completes when the program's executions have ended. -/
  | programDeactivate (ref : CmdRef) (index : Nat)
  /-- MEMORY_RANGE_SET_MANAGEMENT (R420). Defines up to 16 ranges in one SLM namespace as a program's SLM window. -/
  | memoryRangeSetManagement (ref : CmdRef) (create : Bool) (rsid : Nat) (ranges : List (Nat × Nat × Nat))
  /-- EXECUTE_PROGRAM (R450). Computational command that waits for an execution record and a free slot. -/
  | executeProgram (ref : CmdRef) (index rsid : Nat) (params : List Byte)
  /-- EXECUTION_START (R450). A free record and slot let the execution fetch its parameters and place the root ticket ready. -/
  | executionStart (ref : CmdRef)
  /-- EXECUTION_END (R451). The root ticket has ended and no slot is live, so the execution's CQE is posted. -/
  | executionEnd (exec : Nat)
  /-- READ_MEMORY (R419). SLM command transferring from the namespace's DRAM extent to host memory. -/
  | readMemory (ref : CmdRef) (off len : Nat)
  /-- WRITE_MEMORY (R419). SLM command transferring from host memory to the namespace's DRAM extent. -/
  | writeMemory (ref : CmdRef) (off : Nat) (data : List Byte)
  /-- TICKET_SUBMIT (R429). The Registrar accepts a ticket descriptor into a slot, or refuses it with a reason. -/
  | ticketSubmit (c : CoreId) (desc : List Byte)
  /-- MOVE_SUBMIT (R446). The Registrar accepts a move descriptor, binding an in-stream or starting an out-move. -/
  | moveSubmit (c : CoreId) (desc : List Byte)
  /-- STREAM_HALF_FILLED (R447). The data mover fills a window half with whole records and a stalled WIN_CLAIM may take it. -/
  | streamHalfFilled (g w : Nat)
  /-- STREAM_END (R448). The last half of a stream is released, the window is unbound and the stream posts. -/
  | streamEnd (g w : Nat)
  /-- OUT_MOVE_COMPLETE (R449). An out-move has written every byte to the SLM window and posts. -/
  | outMoveComplete (slot : Nat)
  /-- TICKET_POST (R432). A post to a held slot adds one to its count and may make it ready, or is dropped. -/
  | ticketPost (slot : Nat) (v : BitVec 64)
  /-- TICKET_END (R432). A ticket ends, its completion goes to its target and its flow passes on. -/
  | ticketEnd (g k status : Nat)
  /-- TICKET_DISPATCH (R438). The Registrar hands a head ticket to an idle eligible core and sets its registers and ticket block. -/
  | ticketDispatch
  /-- DELAY_LIST_TICK (R442). A delay list's tick counter advances at each period. -/
  | delayListTick (i : Nat)
  /-- DELAYED_TICKET_EXPIRY (R443). A delayed ticket reaches its expiry tick and joins its ready list. -/
  | delayedTicketExpiry (i : Nat)
  /-- TICKET_BUDGET_EXPIRY (R455). A ticket's budget expires and the Registrar stops it. -/
  | ticketBudgetExpiry (slot : Nat)
  /-- STOP_TIMEOUT_FENCE (R456). A stopped core has not ended within 2 µs, so it is fenced and the spare takes its place. -/
  | stopTimeoutFence (g k : Nat)
  /-- FENCED_CORE_REQUEST (R458). A request from a fenced core is dropped at its isolation gate and counted. -/
  | fencedCoreRequest (g k : Nat)
  /-- RUN_LIMIT_EXPIRY (R453). An execution's run limit expires and the execution is cancelled. -/
  | runLimitExpiry (exec : Nat)
  /-- RGS_EXEC_CANCEL (R453). A write to RGS_EXEC_CANCEL cancels the named execution. -/
  | rgsExecCancel (who : Requester) (v : Word)
  /-- RGS_SLOT_CANCEL (R463). A write to RGS_SLOT_CANCEL frees a held, delayed or flow-waiting slot. -/
  | rgsSlotCancel (who : Requester) (v : Word)
  /-- CONTEXT_WRITE (R425). RGS_CTX_CMD command 1 writes a context record from the data words, or refuses it. -/
  | contextWrite (who : Requester)
  /-- CONTEXT_READ (R463). RGS_CTX_CMD command 2 reads a context record into the data words. -/
  | contextRead (who : Requester)
  /-- DELAY_LIST_PERIOD_WRITE (R444). A write to RGS_DL_PERIOD enables or disables a delay list, only while it holds no ticket. -/
  | delayListPeriodWrite (who : Requester) (i : Nat) (v : Word)
  /-- GALLERY_SELF_TEST_DONE (R459). Gallery built-in self-test ends and fenced cores are readmitted as the spare or kept fenced. -/
  | gallerySelfTestDone (g : Nat) (failed : List Nat)
  /-- CAT_CHAIN_WRITE (R468). A write to CAT_CHAIN enables, disables or refuses a chain definition. -/
  | catChainWrite (who : Requester) (chain : Nat) (v : Word)
  /-- CAT_WRITE (R478). CAT_CMD op 1 writes the staged entry at CAT_IDX. -/
  | catWrite (who : Requester) (chain : Nat)
  /-- CAT_INVALIDATE (R478). CAT_CMD op 2 clears the valid bit of the entry at CAT_IDX. -/
  | catInvalidate (who : Requester) (chain : Nat)
  /-- CAT_MOVE (R480). CAT_CMD op 3 writes the source entry at the destination, then invalidates the source. -/
  | catMove (who : Requester) (chain : Nat)
  /-- CAT_READ (R478). CAT_CMD op 4 copies the entry at CAT_IDX into the staging registers. -/
  | catRead (who : Requester) (chain : Nat) (failing : List Nat)
  /-- CAT_KEEPER_SEARCH (R478). CAT_CMD op 5 searches with the staged value and tag, returning the result in CAT_CMD_RESULT. -/
  | catKeeperSearch (who : Requester) (chain : Nat)
  /-- CAT_INVALIDATE_TAG (R481). CAT_CMD op 6 starts invalidating every entry of the chain with the staged tag, one row per cycle. -/
  | catInvalidateTag (who : Requester) (chain : Nat)
  /-- CAT_INVALIDATE_TAG_END (R481). The last row of a tag invalidation is done and the command completes. -/
  | catInvalidateTagEnd
  /-- CAT_UNDEFINED_OP (R478). CAT_CMD op 0 or 7 is refused with result 5. -/
  | catUndefinedOp (who : Requester) (op chain : Nat)
  /-- CAT_SCRUB_TICK (R482). Every CAT_SCRUB.cycles cycles the next row of every bank is read and its parity checked. -/
  | catScrubTick (failing : List Nat)
  /-- DRAM_ACCESS (R497). A client request is scheduled by class on its DRAM channel and completed. -/
  | dramAccess (client : DramClient) (addr : Nat) (op : DramOp) (symbols : Nat)
  /-- REFRESH_DUE (R503). A refresh falls due on a rank and adds to its debt or is issued. -/
  | refreshDue (n rank : Nat)
  /-- REFRESH_RATE_POLL (R505). Every 4 µs each rank's refresh rate indication is read and the debt recounted on a change. -/
  | refreshRatePoll (n rank ind : Nat)
  /-- CA_PARITY_ALERT (R508). ALERT_n asserts and the commands in the retry buffer are replayed. -/
  | caParityAlert (n : Nat)
  /-- CA_RETRAIN_END (R509). Command/address retraining after three failed replays ends, with a last replay or channel failure. -/
  | caRetrainEnd (n : Nat) (ok : Bool)
  /-- DRAM_SCRUB_READ (R513). Patrol scrub reads a burst and writes corrected data back. -/
  | dramScrubRead (n symbols : Nat)
  /-- DRAM_TRAINING_END (R514). Training of the DRAM channels at power-on or reset ends, or a channel fails it. -/
  | dramTrainingEnd (n : Nat) (found : DramFound)
  /-- DRC_RETRAIN (R515). A write of DRC_RETRAIN.go starts a retraining slice. -/
  | drcRetrain (who : Requester) (n : Nat)
  /-- RETRAIN_STEP (R515). One step of a retraining slice re-centres DQ timing on a rank. -/
  | retrainStep (n : Nat) (ok : Bool)
  /-- DRC_INIT_SKIP (R516). A write of DRC_INIT_SKIP with go starts zeroing from the skip, or is held until training ends. -/
  | drcInitSkip (who : Requester) (n : Nat) (v : Word)
  /-- DRAM_INIT_DONE (R516). The initialisation frontier reaches the top of the channel and init_done is raised. -/
  | dramInitDone (n : Nat)
  /-- KEY_GENERATE (R532). KEY_CMD command 1 draws a random key into a slot and leaves its wrapped record. -/
  | keyGenerate (who : Requester) (cls kind len slot : Nat)
  /-- KEY_UNWRAP (R532). KEY_CMD command 2 unwraps the record in KEY_WRAP into a slot after its checks. -/
  | keyUnwrap (who : Requester) (cls slot : Nat)
  /-- KEY_CLEAR (R532). KEY_CMD command 3 writes zeros to a slot and marks it empty. -/
  | keyClear (who : Requester) (cls slot : Nat)
  /-- KEY_STATUS (R532). KEY_CMD command 4 loads the slot information, fixed field and invocation counter. -/
  | keyStatus (who : Requester) (cls slot : Nat)
  /-- SCE_ACQUIRE (R536). A write of SCE_LOCK.acquire makes the writer owner if the lock is free. -/
  | sceAcquire (k : Nat)
  /-- SCE_RELEASE (R538). A write of SCE_LOCK.release frees the lock, ending any message in service. -/
  | sceRelease (k : Nat)
  /-- SCE_FORCE (R538). A keyed write to SCE_FORCE ends the owner's message, wipes engine state and frees the lock. -/
  | sceForce (who : Requester) (v : Word)
  /-- SCE_MESSAGE_START (R539). A write of SCE_CTRL.go checks and starts a message. -/
  | sceMessageStart (k : Nat) (v : Word)
  /-- SCE_MESSAGE_END (R544). A cipher message ends, writing output and tag or reporting a mismatch, and raises msg_done. -/
  | sceMessageEnd
  /-- DGE_HASH_PART (R549). DGE_CTRL op 1 hashes a part by DMA or word mode, finishing the digest when last is set. -/
  | dgeHashPart (who : Requester) (e : Nat) (v : Word)
  /-- DGE_SAVE (R553). DGE_CTRL op 2 writes the engine state as a record, wrapped for keyed modes. -/
  | dgeSave (who : Requester) (e : Nat)
  /-- DGE_RESTORE (R553). DGE_CTRL op 3 loads a state record or refuses it. -/
  | dgeRestore (who : Requester) (e : Nat)
  /-- DGE_PART_END (R549). A DMA part is fully hashed and the engine reports done. -/
  | dgePartEnd (e : Nat)
  /-- DGE_DATA (R550). A write to DGE_DATA adds four bytes to the word-mode part. -/
  | dgeData (who : Requester) (e : Nat) (v : Word)
  /-- DGE_LAST (R550). A write to DGE_LAST adds its valid bytes and ends the word-mode part. -/
  | dgeLast (who : Requester) (e : Nat) (v : Word)
  /-- KEY_PK_REVOKE (R559). A write to KEY_PK_REVOKE burns the revocation fuse of a key index. -/
  | keyPkRevoke (who : Requester) (v : Word)
  /-- KEY_ROLLBACK (R559). A write to KEY_ROLLBACK above the floor burns the rollback fuses. -/
  | keyRollback (who : Requester) (v : Word)
  /-- SECURITY_ALARM (R563). A detector fires and every key, engine state and key copy is zeroed and the device unarmed. -/
  | securityAlarm (ev : AlarmEvent)
  /-- ALM_REARM (R566). A write of ALM_REARM.go re-derives the keys and re-arms the device, or is refused. -/
  | almRearm (who : Requester)
  /-- MAILBOX_POST (R572). A word is posted to a mailbox channel, stored with its stamp or refused when full. -/
  | mailboxPost (c : CoreId) (chan : Nat) (v : Word)
  /-- MAILBOX_TAKE (R573). A take empties a full channel and returns the word with its stamp, or returns 0. -/
  | mailboxTake (c : CoreId) (chan : Nat)
  /-- MAILBOX_TIMEOUT (R575). A channel's timeout expires before its word is taken and the timeout flag is set. -/
  | mailboxTimeout (chan : Nat)
  /-- MAILBOX_RECALL (R576). A recall by the sender, through MBX_RECALL or the RECALL offset, empties its own word. -/
  | mailboxRecall (c : CoreId) (chan : Nat)
  /-- POST_RESULT_READ (R582). A Docent read of POST_RESULT stalls until its last post reaches its channel and returns the outcome. -/
  | postResultRead (g k : Nat)
  /-- MAILBOX_CONFIG_WRITE (R592). A write to MBX_CFG sets the receiver and timeout, restarting the timeout and waking a new receiver. -/
  | mailboxConfigWrite (who : Requester) (chan : Nat) (v : Word)
  /-- PMC_SELECT (R595). A write to PMC_SEL names the core whose counters page 256 shows. -/
  | pmcSelect (who : Requester) (v : Word)
  /-- PMC_EVENT_SELECT (R587). A write to PMC_EVSEL changes the events of the selected core's counters. -/
  | pmcEventSelect (who : Requester) (high : Bool) (v : Word)
  /-- PMC_CLEAR (R594). A write to PMC_CLR clears the selected counters. -/
  | pmcClear (who : Requester) (v : Word)
  /-- PMC_COUNTER_WRAP (R586). A programmable counter wraps and sets its PMC_OVF bit. -/
  | pmcCounterWrap (c : CoreId) (i : Nat)
  /-- PMC_SAMPLE (R590). A sampled core's countdown reaches 0 and the retiring instruction is recorded in the ring. -/
  | pmcSample (g k : Nat) (instr latency : Nat) (faulted : Bool)
  /-- ISLAND_POWER_OFF (R597). A write of 1 to PWR_ISL_s powers off a quiesced island, or is refused. -/
  | islandPowerOff (who : Requester) (n : Nat)
  /-- ISLAND_POWER_ON (R597). A write of 0 to PWR_ISL_s powers the island up and re-initialises it. -/
  | islandPowerOn (who : Requester) (n : Nat)
  /-- PS_ENTRY (R601). Once no command or execution is live and every controller requests it, entry into PS3 or PS4 starts. -/
  | psEntry (target : Nat)
  /-- OPERATIONAL_STATE_CHANGE (R600). A change among PS0, PS1 and PS2 caps island levels within 100 µs. -/
  | operationalStateChange (target : Nat)
  /-- PS_EXIT (R125). A command arriving in a non-operational state returns the device to an operational state. -/
  | psExit
  /-- PS4_EXIT (R605). PS4 exit powers islands up, restores rank 0 and the keeper, and reinitialises rank 1. -/
  | ps4Exit
  /-- APST_TRANSITION (R124). An autonomous power state transition changes the state that a controller requests. -/
  | apstTransition (ctl : Nat)
  /-- PWR_DEV_RESET (R620). A keyed write to PWR_DEV_RESET starts a device reset. -/
  | pwrDevReset (who : Requester) (v : Word)
  /-- KWDOG_KICK (R620). A write of 1 to PWR_KWDOG.kick restarts the keeper watchdog period. -/
  | kwdogKick (who : Requester)
  /-- KWDOG_EXPIRY (R614). The keeper watchdog expires and the KEEPER island is re-initialised, or on the third expiry the device resets. -/
  | kwdogExpiry
  /-- KEEPER_AUTO_REINIT (R613). The keeper takes rung 2 for an island not ready within 100 ms, leaving it quiesced after three attempts. -/
  | keeperAutoReinit (n : Nat)
  /-- RANKPWR_ENABLE (R627). RANKPWR_EN goes high 1 ms after power-on reset ends. -/
  | rankpwrEnable (k : Nat)
  /-- RAIL_OUT_OF_TOLERANCE (R631). A rail leaves tolerance during a dump and the dump ends incomplete. -/
  | railOutOfTolerance (rail : Nat)
  /-- TAP_RESET (R636). TRST_N low resets the boundary-scan TAP. -/
  | tapReset
  /-- TAP_IDCODE (R636). TAP instruction IDCODE selects the identification register. -/
  | tapIdcode
  /-- TAP_BYPASS (R636). TAP instruction BYPASS. -/
  | tapBypass
  /-- TAP_SAMPLE_PRELOAD (R636). TAP instruction SAMPLE/PRELOAD. -/
  | tapSamplePreload (pins cells : List Bool)
  /-- TAP_EXTEST (R636). TAP instruction EXTEST. -/
  | tapExtest (pins cells : List Bool)
  /-- TAP_HIGHZ (R636). TAP instruction HIGHZ. -/
  | tapHighz
  /-- TAP_CLAMP (R636). TAP instruction CLAMP. -/
  | tapClamp
  /-- TAP_EXTEST_PULSE (R636). TAP instruction EXTEST_PULSE on the PCIe lanes under IEEE 1149.6. -/
  | tapExtestPulse (cells : List Bool)
  /-- TAP_EXTEST_TRAIN (R636). TAP instruction EXTEST_TRAIN on the PCIe lanes under IEEE 1149.6. -/
  | tapExtestTrain (cells : List Bool)
  /-- RESET_LUN_COMPLETE (R208). A die that timed out busy becomes ready after RESET LUN within 10 ms, and the operation is retried automatically. -/
  | resetLunComplete (ch die : Nat)
  /-- POWER_OFF (R631). After a dump the board removes the rails, VDD_AON last, and RANKPWR_EN goes low at the start of the power-off. -/
  | powerOff
  /-- ASPM_L1_ENTRY (R75). A sub-link enters ASPM L1 or its L1.2 substate and HIF_LINK_STAT.pm_state changes. -/
  | aspmL1Entry (port sub : Nat) (l12 : Bool)
  /-- ASPM_L1_EXIT (R75). A sub-link leaves L1 or L1.2 through CLKREQ_N or traffic and returns to L0. -/
  | aspmL1Exit (port sub : Nat)
  /-- LINK_ERROR (R87). A lane sees receiver errors, which sets its bit in HIF_LANE_ERR, and a link error retrains the sub-link. -/
  | linkError (port sub lanes : Nat)
  /-- SUPPLY_SETPOINT_RAISE (R619). The ALWAYS-ON island raises an island's supply setpoints as it measures the island's ageing, up to 30 mV over life. -/
  | supplySetpointRaise (n mv : Nat)
  /-- LIFETIME_VALUES_UPDATE (R317). Each hour the lifetime values of log 0xC7, such as the highest and mean sensor readings, are updated. -/
  | lifetimeValuesUpdate
deriving DecidableEq, Repr

end Sys2Proof
end

