-- ==== Sys2Proof/Decode.lean ====
section
/-! DEFINITION. The word decoder over the command table. The table gives no row any bits: every command arrives from outside as itself, so no word spells one. -/

namespace Sys2Proof

/-- The command that a word of `nbits` bits spells by the table's bits. Every row of spec/opcode_table.json has an empty list
of fields, so no word spells a command. -/
def decodeTableWord (_nbits _w : Nat) : Option Instr := none

end Sys2Proof
end

