-- ==== Sys2Proof/Machine/Crypto.lean ====
section
/-! DEFINITION. The published algorithms the device uses: SHA-2 (FIPS 180-4), HMAC (FIPS 198-1), AES (FIPS 197) with CBC, CFB-128, CTR and GCM (SP 800-38A, 38D), XTS (IEEE 1619), Key Wrap (SP 800-38F), the counter KDF (SP 800-108), ECDSA over P-384 (FIPS 186-5) and CRC-32C. -/

namespace Sys2Proof.Machine

/-- Splits a list into pieces of `n` elements; the last may be shorter. -/
def chunks {α : Type} (n : Nat) (xs : List α) : List (List α) :=
  (upTo (ceilDiv xs.length n)).map fun i => (xs.drop (i * n)).take n

/-- Element `i` of a list of numbers. -/
def nth (xs : List Nat) (i : Nat) : Nat := xs.getD i 0

/-- Bytewise exclusive or, to the length of the shorter. -/
def xorBytes (a b : List Byte) : List Byte := List.zipWith (· ^^^ ·) a b

/-! ## SHA-2 -/

/-- The largest x below 2^bits with x^k ≤ n. -/
def rootBits (k n : Nat) : Nat → Nat → Nat
  | 0, x => x
  | b + 1, x => rootBits k n b (if (x + 2 ^ b) ^ k ≤ n then x + 2 ^ b else x)

/-- Whether p is prime, by trial division. -/
def isPrime (p : Nat) : Bool := decide (p ≥ 2) && (upTo p).all fun d => decide (d < 2) || p % d != 0

/-- The first 80 primes; the 80th is 409. -/
def somePrimes : List Nat := (upTo 410).filter isPrime

/-- The first `w` bits of the fraction of the k-th root of p. -/
def rootFraction (k w p : Nat) : Nat := rootBits k (p * 2 ^ (k * w)) (w + 10) 0 % 2 ^ w

/-- A SHA-2 algorithm: word width, rounds, initial values, digest bytes. -/
structure Sha where
  w : Nat
  rounds : Nat
  init : List Nat
  digest : Nat
deriving DecidableEq, Repr

/-- SHA-256, SHA-384 and SHA-512: the initial values are fractions of square roots of primes. -/
def sha256 : Sha := { w := 32, rounds := 64, init := (somePrimes.take 8).map (rootFraction 2 32), digest := 32 }
def sha384 : Sha := { w := 64, rounds := 80, init := ((somePrimes.drop 8).take 8).map (rootFraction 2 64), digest := 48 }
def sha512 : Sha := { w := 64, rounds := 80, init := (somePrimes.take 8).map (rootFraction 2 64), digest := 64 }

/-- Block length in bytes. -/
def Sha.block (h : Sha) : Nat := 2 * h.w

/-- The round constants: fractions of cube roots of primes. -/
def Sha.constants (h : Sha) : List Nat := (somePrimes.take h.rounds).map (rootFraction 3 h.w)

/-- Rotation right of a word. -/
def rotr (w x n : Nat) : Nat := (x >>> n) ||| (x <<< (w - n)) % 2 ^ w

/-- The six functions of FIPS 180-4. -/
def Sha.bigSigma0 (h : Sha) (x : Nat) : Nat :=
  if h.w = 32 then rotr 32 x 2 ^^^ rotr 32 x 13 ^^^ rotr 32 x 22 else rotr 64 x 28 ^^^ rotr 64 x 34 ^^^ rotr 64 x 39
def Sha.bigSigma1 (h : Sha) (x : Nat) : Nat :=
  if h.w = 32 then rotr 32 x 6 ^^^ rotr 32 x 11 ^^^ rotr 32 x 25 else rotr 64 x 14 ^^^ rotr 64 x 18 ^^^ rotr 64 x 41
def Sha.smallSigma0 (h : Sha) (x : Nat) : Nat :=
  if h.w = 32 then rotr 32 x 7 ^^^ rotr 32 x 18 ^^^ (x >>> 3) else rotr 64 x 1 ^^^ rotr 64 x 8 ^^^ (x >>> 7)
def Sha.smallSigma1 (h : Sha) (x : Nat) : Nat :=
  if h.w = 32 then rotr 32 x 17 ^^^ rotr 32 x 19 ^^^ (x >>> 10) else rotr 64 x 19 ^^^ rotr 64 x 61 ^^^ (x >>> 6)
def shaCh (w x y z : Nat) : Nat := (x &&& y) ^^^ ((2 ^ w - 1 - x % 2 ^ w) &&& z)
def shaMaj (x y z : Nat) : Nat := (x &&& y) ^^^ (x &&& z) ^^^ (y &&& z)

/-- The message schedule, newest first while it grows. -/
def Sha.schedule (h : Sha) : Nat → List Nat → List Nat
  | 0, ws => ws.reverse
  | n + 1, ws => Sha.schedule h n
      ((h.smallSigma1 (nth ws 1) + nth ws 6 + h.smallSigma0 (nth ws 14) + nth ws 15) % 2 ^ h.w :: ws)

/-- One round: eight working variables, a constant and a schedule word. -/
def Sha.round (h : Sha) (v : List Nat) (kw : Nat × Nat) : List Nat :=
  let t1 := nth v 7 + h.bigSigma1 (nth v 4) + shaCh h.w (nth v 4) (nth v 5) (nth v 6) + kw.1 + kw.2
  let t2 := h.bigSigma0 (nth v 0) + shaMaj (nth v 0) (nth v 1) (nth v 2)
  [(t1 + t2) % 2 ^ h.w, nth v 0, nth v 1, nth v 2, (nth v 3 + t1) % 2 ^ h.w, nth v 4, nth v 5, nth v 6]

/-- The compression of one block into the chaining values. -/
def Sha.compress (h : Sha) (chain : List Nat) (blk : List Byte) : List Nat :=
  let m := (chunks (h.w / 8) blk).map ofBe
  let ws := h.schedule (h.rounds - 16) m.reverse
  List.zipWith (fun a b => (a + b) % 2 ^ h.w) chain ((h.constants.zip ws).foldl h.round chain)

/-- Absorbs bytes: whole blocks are compressed, the rest is kept. -/
def Sha.absorb (h : Sha) (chain : List Nat) (bs : List Byte) : List Nat × List Byte :=
  let n := bs.length / h.block
  (((chunks h.block bs).take n).foldl h.compress chain, bs.drop (n * h.block))

/-- The padding of a message whose last bytes are `part` and whose whole length is `count` bytes. -/
def Sha.pad (h : Sha) (count : Nat) (part : List Byte) : List Byte :=
  let lenBytes := h.w / 4
  let z := (h.block - (part.length + 1 + lenBytes) % h.block) % h.block
  part ++ [0x80] ++ zeros z ++ beBytes lenBytes (count * 8)

/-- The chaining values as bytes, cut to the digest. -/
def Sha.output (h : Sha) (chain : List Nat) : List Byte := (chain.flatMap (beBytes (h.w / 8))).take h.digest

/-- Finishes a message. -/
def Sha.finish (h : Sha) (chain : List Nat) (count : Nat) (part : List Byte) : List Byte :=
  h.output (h.absorb chain (h.pad count part)).1

/-- The digest of a message. -/
def Sha.hash (h : Sha) (m : List Byte) : List Byte :=
  let r := h.absorb h.init m
  h.finish r.1 m.length r.2

/-- HMAC's inner and outer chaining values for a key no longer than a block. -/
def Sha.hmacStates (h : Sha) (key : List Byte) : List Nat × List Nat :=
  let k := padTo h.block key
  (h.compress h.init (k.map (· ^^^ 0x36)), h.compress h.init (k.map (· ^^^ 0x5C)))

/-- HMAC of a message (FIPS 198-1). -/
def Sha.hmac (h : Sha) (key m : List Byte) : List Byte :=
  let st := h.hmacStates key
  let r := h.absorb st.1 m
  let inner := h.finish r.1 (h.block + m.length) r.2
  h.finish st.2 (h.block + h.digest) inner

/-- The counter-mode KDF of SP 800-108 with HMAC-SHA-256 and a 32-byte output: [1] ‖ label ‖ 0 ‖ context ‖ [256] (log 17). -/
def kdf256 (key label context : List Byte) : List Byte :=
  sha256.hmac key (beBytes 4 1 ++ label ++ [0] ++ context ++ beBytes 4 256)

/-! ## AES -/

/-- Doubling in GF(2^8). -/
def gfDouble (x : Nat) : Nat := if x * 2 ≥ 256 then (x * 2 - 256) ^^^ 0x1B else x * 2

/-- Multiplication in GF(2^8), over the low `n` bits of `b`. -/
def gfMul (n a b : Nat) : Nat :=
  match n with
  | 0 => 0
  | n + 1 => (if b % 2 = 1 then a else 0) ^^^ gfMul n (gfDouble a) (b / 2)

/-- The inverse in GF(2^8), 0 for 0. -/
def gfInv (x : Nat) : Nat :=
  let sq (a : Nat) := gfMul 8 a a
  let p2 := sq x
  let p4 := sq p2
  let p8 := sq p4
  let p16 := sq p8
  let p32 := sq p16
  let p64 := sq p32
  let p128 := sq p64
  gfMul 8 p2 (gfMul 8 p4 (gfMul 8 p8 (gfMul 8 p16 (gfMul 8 p32 (gfMul 8 p64 p128)))))

/-- Rotation left of a byte. -/
def rotl8 (x n : Nat) : Nat := (x <<< n ||| x >>> (8 - n)) % 256

/-- The AES S-box and its inverse, as tables. -/
def aesSbox : List Nat := (upTo 256).map fun x =>
  let i := gfInv x
  i ^^^ rotl8 i 1 ^^^ rotl8 i 2 ^^^ rotl8 i 3 ^^^ rotl8 i 4 ^^^ 0x63
def aesInvSbox : List Nat := (upTo 256).map fun x => gfInv (rotl8 x 1 ^^^ rotl8 x 3 ^^^ rotl8 x 6 ^^^ 0x05)

/-- Exclusive or of two lists of byte values. -/
def xorNats (a b : List Nat) : List Nat := List.zipWith (· ^^^ ·) a b

/-- The key schedule: words of four bytes, newest first; `nk` words of key, `i` the number of the next word. -/
def aesExpand (nk : Nat) : Nat → Nat → Nat → List (List Nat) → List (List Nat)
  | 0, _, _, ws => ws.reverse
  | n + 1, i, rcon, ws =>
    let prev := ws.getD 0 []
    let t := if i % nk = 0 then
        xorNats ((prev.drop 1 ++ prev.take 1).map (nth aesSbox)) [rcon, 0, 0, 0]
      else if nk > 6 ∧ i % nk = 4 then prev.map (nth aesSbox) else prev
    aesExpand nk n (i + 1) (if i % nk = 0 then gfDouble rcon else rcon) (xorNats (ws.getD (nk - 1) []) t :: ws)

/-- The round keys of a key of 16, 24 or 32 bytes. -/
def aesRoundKeys (key : List Byte) : List (List Nat) :=
  let ks := chunks 4 (key.map BitVec.toNat)
  let nk := ks.length
  (chunks 4 (aesExpand nk (4 * (nk + 7) - nk) nk 1 ks.reverse)).map List.flatten

/-- ShiftRows and its inverse. -/
def aesShift (s : List Nat) : List Nat := (upTo 16).map fun i => nth s ((i + 4 * (i % 4)) % 16)
def aesUnshift (s : List Nat) : List Nat := (upTo 16).map fun i => nth s ((i + 16 - 4 * (i % 4)) % 16)

/-- MixColumns with the given coefficients. -/
def aesMix (c : List Nat) (s : List Nat) : List Nat := (chunks 4 s).flatMap fun col =>
  (upTo 4).map fun r => (upTo 4).foldl (fun x j => x ^^^ gfMul 8 (nth col j) (nth c ((j + 4 - r) % 4))) 0

/-- Encrypts a block of 16 bytes. -/
def aesEncrypt (key blk : List Byte) : List Byte :=
  let rk := aesRoundKeys key
  let s0 := xorNats (blk.map BitVec.toNat) (rk.getD 0 [])
  let mid := ((rk.drop 1).take (rk.length - 2)).foldl
    (fun s k => xorNats (aesMix [2, 3, 1, 1] (aesShift (s.map (nth aesSbox)))) k) s0
  (xorNats (aesShift (mid.map (nth aesSbox))) (rk.getLastD [])).map (BitVec.ofNat 8)

/-- Decrypts a block of 16 bytes. -/
def aesDecrypt (key blk : List Byte) : List Byte :=
  let rk := (aesRoundKeys key).reverse
  let s0 := xorNats (blk.map BitVec.toNat) (rk.getD 0 [])
  let mid := ((rk.drop 1).take (rk.length - 2)).foldl
    (fun s k => aesMix [14, 11, 13, 9] (xorNats ((aesUnshift s).map (nth aesInvSbox)) k)) s0
  (xorNats ((aesUnshift mid).map (nth aesInvSbox)) (rk.getLastD [])).map (BitVec.ofNat 8)

/-- CBC over whole blocks. -/
def cbcEncrypt (key : List Byte) (iv : List Byte) : List (List Byte) → List Byte
  | [] => []
  | b :: bs => let c := aesEncrypt key (xorBytes b iv); c ++ cbcEncrypt key c bs
def cbcDecrypt (key : List Byte) (iv : List Byte) : List (List Byte) → List Byte
  | [] => []
  | c :: cs => xorBytes (aesDecrypt key c) iv ++ cbcDecrypt key c cs

/-- CFB-128; the last piece may be short. -/
def cfbEncrypt (key : List Byte) (iv : List Byte) : List (List Byte) → List Byte
  | [] => []
  | b :: bs => let c := xorBytes b (aesEncrypt key iv); c ++ cfbEncrypt key c bs
def cfbDecrypt (key : List Byte) (iv : List Byte) : List (List Byte) → List Byte
  | [] => []
  | c :: cs => xorBytes c (aesEncrypt key iv) ++ cfbDecrypt key c cs

/-- inc32: only the low 32 bits of the counter block count (R542). -/
def inc32 (ctr : List Byte) (n : Nat) : List Byte := ctr.take 12 ++ beBytes 4 (ofBe (ctr.drop 12) + n)

/-- CTR from a counter block. -/
def ctrCrypt (key ctr data : List Byte) : List Byte :=
  (upTo (ceilDiv data.length 16)).flatMap fun i => xorBytes ((data.drop (16 * i)).take 16) (aesEncrypt key (inc32 ctr i))

/-- Multiplication in the field of GHASH. -/
def ghashMul (n x y z : Nat) : Nat :=
  match n with
  | 0 => z
  | n + 1 =>
    let z' := if (x >>> n) % 2 = 1 then z ^^^ y else z
    ghashMul n x (if y % 2 = 1 then (y / 2) ^^^ (0xE1 <<< 120) else y / 2) z'

/-- GHASH over padded data. -/
def ghash (h : Nat) (bs : List Byte) : Nat :=
  (chunks 16 bs).foldl (fun y b => ghashMul 128 (y ^^^ ofBe (padTo 16 b)) h 0) 0

/-- Zero padding to a multiple of 16. -/
def pad16 (bs : List Byte) : List Byte := padTo (roundUp bs.length 16) bs

/-- The GCM tag of a 12-byte IV, AAD and ciphertext. -/
def gcmTag (key iv aad ct : List Byte) : List Byte :=
  let h := ofBe (aesEncrypt key (zeros 16))
  let s := ghash h (pad16 aad ++ pad16 ct ++ beBytes 8 (8 * aad.length) ++ beBytes 8 (8 * ct.length))
  xorBytes (beBytes 16 s) (aesEncrypt key (iv ++ beBytes 4 1))

/-- GCM's encryption of data, and its decryption. -/
def gcmCrypt (key iv data : List Byte) : List Byte := ctrCrypt key (iv ++ beBytes 4 2) data

/-- Doubling of an XTS tweak: little-endian, reduced by 0x87. -/
def xtsDouble (t : Nat) : Nat := if t * 2 ≥ 2 ^ 128 then (t * 2 - 2 ^ 128) ^^^ 0x87 else t * 2

/-- XTS-AES over whole blocks from a tweak value. -/
def xtsBlocks (f : List Byte → List Byte) : Nat → List (List Byte) → List Byte
  | _, [] => []
  | t, b :: bs => xorBytes (f (xorBytes b (leBytes 16 t))) (leBytes 16 t) ++ xtsBlocks f (xtsDouble t) bs

/-- XTS-AES-256 encryption of a data unit: key 1 then key 2 (R530), and the 128-bit tweak. -/
def xtsEncrypt (key : List Byte) (tweak : Nat) (data : List Byte) : List Byte :=
  xtsBlocks (aesEncrypt (key.take 32)) (ofLe (aesEncrypt (key.drop 32) (leBytes 16 tweak))) (chunks 16 data)
def xtsDecrypt (key : List Byte) (tweak : Nat) (data : List Byte) : List Byte :=
  xtsBlocks (aesDecrypt (key.take 32)) (ofLe (aesEncrypt (key.drop 32) (leBytes 16 tweak))) (chunks 16 data)

/-- One step of Key Wrap: the register A, the blocks R, the block index and the step number. -/
def kwStep (key : List Byte) (p : List Byte × List (List Byte)) (i t : Nat) : List Byte × List (List Byte) :=
  let b := aesEncrypt key (p.1 ++ p.2.getD i [])
  (xorBytes (b.take 8) (beBytes 8 t), p.2.set i (b.drop 8))
def kwUnstep (key : List Byte) (p : List Byte × List (List Byte)) (i t : Nat) : List Byte × List (List Byte) :=
  let b := aesDecrypt key (xorBytes p.1 (beBytes 8 t) ++ p.2.getD i [])
  (b.take 8, p.2.set i (b.drop 8))

/-- AES Key Wrap (KW) of a multiple of 8 bytes. -/
def keyWrap (key plain : List Byte) : List Byte :=
  let r := chunks 8 plain
  let n := r.length
  let out := (upTo (6 * n)).foldl (fun p t => kwStep key p (t % n) (t + 1)) (List.replicate 8 (0xA6 : Byte), r)
  out.1 ++ out.2.flatten

/-- AES Key Unwrap: none when the integrity value is wrong. -/
def keyUnwrap (key rec : List Byte) : Option (List Byte) :=
  let r := (chunks 8 rec).drop 1
  let n := r.length
  let out := (upTo (6 * n)).reverse.foldl (fun p t => kwUnstep key p (t % n) (t + 1)) (rec.take 8, r)
  if out.1 = List.replicate 8 (0xA6 : Byte) then some out.2.flatten else none

/-! ## ECDSA over P-384 -/

/-- The field prime, the coefficient b, the order and the base point of P-384 (SP 800-186). -/
def p384P : Nat := 2 ^ 384 - 2 ^ 128 - 2 ^ 96 + 2 ^ 32 - 1
def p384B : Nat := 0xB3312FA7E23EE7E4988E056BE3F82D19181D9C6EFE8141120314088F5013875AC656398D8A2ED19D2A85C8EDD3EC2AEF
def p384N : Nat := 0xFFFFFFFFFFFFFFFFFFFFFFFFFFFFFFFFFFFFFFFFFFFFFFFFC7634D81F4372DDF581A0DB248B0A77AECEC196ACCC52973
def p384G : Nat × Nat :=
  (0xAA87CA22BE8B05378EB1C71EF320AD746E1D3B628BA79B9859F741E082542A385502F25DBF55296C3A545E3872760AB7,
   0x3617DE4A96262C6F5D9E98BF9292DC29F8F41DBD289A147CE9DA3113B5F0B8C00A60B1CE1D7E819D7A431D7C90EA0E5F)

/-- b^e mod m over `n` bits of e. -/
def powMod (m : Nat) : Nat → Nat → Nat → Nat
  | 0, _, _ => 1
  | n + 1, b, e => (if e % 2 = 1 then b else 1) * powMod m n (b * b % m) (e / 2) % m

/-- The inverse modulo a prime. -/
def invMod (m x : Nat) : Nat := powMod m 384 (x % m) (m - 2)

/-- Subtraction modulo m. -/
def subMod (m a b : Nat) : Nat := (a % m + (m - b % m)) % m

/-- A point of the curve; `none` is the point at infinity. -/
abbrev Point := Option (Nat × Nat)

/-- Point addition. -/
def pointAdd : Point → Point → Point
  | none, q => q
  | some p, none => some p
  | some (x1, y1), some (x2, y2) =>
    if x1 = x2 ∧ (y1 + y2) % p384P = 0 then none
    else
      let l := if x1 = x2 then (subMod p384P (3 * x1 * x1) 3) * invMod p384P (2 * y1) % p384P
               else subMod p384P y2 y1 * invMod p384P (subMod p384P x2 x1) % p384P
      let x3 := subMod p384P (l * l) (x1 + x2)
      some (x3, subMod p384P (l * subMod p384P x1 x3) y1)

/-- Scalar multiplication over `n` bits. -/
def pointMul : Nat → Nat → Point → Point
  | 0, _, _ => none
  | n + 1, k, q => pointAdd (if k % 2 = 1 then q else none) (pointMul n (k / 2) (pointAdd q q))

/-- A point that satisfies the curve equation. -/
def onCurve (x y : Nat) : Bool :=
  decide (x < p384P) && decide (y < p384P) && (y * y) % p384P == (subMod p384P (x * x * x + p384B) (3 * x))

/-- ECDSA verification of a SHA-384 digest. -/
def ecdsaVerify (pub : Nat × Nat) (digest : List Byte) (r s : Nat) : Bool :=
  if r = 0 ∨ r ≥ p384N ∨ s = 0 ∨ s ≥ p384N ∨ !onCurve pub.1 pub.2 then false
  else
    let w := invMod p384N s
    match pointAdd (pointMul 384 (ofBe digest * w % p384N) (some p384G)) (pointMul 384 (r * w % p384N) (some pub)) with
    | none => false
    | some (x, _) => x % p384N == r

/-! ## CRC-32C and CRC-32 -/

/-- One byte into a reflected CRC of 32 bits. -/
def crcByte (poly c : Nat) (b : Byte) : Nat :=
  (upTo 8).foldl (fun c _ => if c % 2 = 1 then c / 2 ^^^ poly else c / 2) (c ^^^ b.toNat)

/-- CRC-32C of a byte string (Castagnoli, reflected, initial and final all ones). -/
def crc32c (bs : List Byte) : Nat := (bs.foldl (crcByte 0x82F63B78) 0xFFFFFFFF) ^^^ 0xFFFFFFFF

/-- CRC-32 of a byte string (IEEE 802.3, as gzip uses it). -/
def crc32 (bs : List Byte) : Nat := (bs.foldl (crcByte 0xEDB88320) 0xFFFFFFFF) ^^^ 0xFFFFFFFF

end Sys2Proof.Machine
end

