-- ==== Sys2Proof/Machine/Deflate.lean ====
section
/-! DEFINITION. The exact compressed formats of chapter 08: matching (R326, R328), block encoding (R327, R642), framing (R330), the media block format (R332 to R334) and the decoder (R331). -/

namespace Sys2Proof.Machine

/-! ## Matching -/

/-- A literal or a match of a length at a distance. -/
inductive Token where
  | lit (b : Byte)
  | mat (len dist : Nat)
deriving DecidableEq, Repr

/-- The hash of the three bytes at a position (R326). -/
def hash3 (d : Array Byte) (p : Nat) : Nat :=
  (((d.getD p 0).toNat <<< 10) ^^^ ((d.getD (p + 1) 0).toNat <<< 5) ^^^ (d.getD (p + 2) 0).toNat) &&& 0x7FFF

/-- The hash chains: for each hash the positions inserted, nearest first. -/
abbrev Chains := Array (List Nat)

/-- Inserts a position at the head of its chain when its three bytes are supplied (R326). -/
def insertPos (d : Array Byte) (c : Chains) (p : Nat) : Chains :=
  if p + 2 < d.size then c.modify (hash3 d p) (p :: ·) else c

/-- How many bytes at `q` and `p` agree, at most `n`. -/
def agree (d : Array Byte) (q p : Nat) : Nat → Nat
  | 0 => 0
  | n + 1 => if d.getD q 0 = d.getD p 0 then agree d (q + 1) (p + 1) n + 1 else 0

/-- Follows a chain for at most `depth` candidates; the longest match, the nearest among equals (R326). -/
def walkChain (d : Array Byte) (p limit : Nat) : Nat → List Nat → Nat × Nat → Nat × Nat
  | 0, _, best => best
  | _ + 1, [], best => best
  | k + 1, q :: t, best =>
    if p - q > 32768 then best
    else
      let l := agree d q p limit
      walkChain d p limit k t (if l > best.1 then (l, p - q) else best)

/-- The match at a position: length and distance, length 0 where there is none of 3 bytes or more. -/
def findMatch (d : Array Byte) (c : Chains) (depth hi p : Nat) : Nat × Nat :=
  if p + 2 < d.size then
    let m := walkChain d p (min 258 (hi - p)) depth (c.getD (hash3 d p) []) (0, 0)
    if m.1 < 3 then (0, 0) else m
  else (0, 0)

/-- Matches from position `p` to the end `hi` of the block (R326, R328). -/
def matchFrom (d : Array Byte) (depth : Nat) (lzy : Bool) (hi : Nat) : Nat → Nat → Option (Nat × Nat) → Chains → List Token → List Token × Chains
  | 0, _, _, c, acc => (acc.reverse, c)
  | fuel + 1, p, known, c, acc =>
    if p ≥ hi then (acc.reverse, c)
    else
      let m := known.getD (findMatch d c depth hi p)
      let c1 := insertPos d c p
      if m.1 < 3 then matchFrom d depth lzy hi fuel (p + 1) none c1 (.lit (d.getD p 0) :: acc)
      else
        let m2 := if lzy && decide (m.1 < 258) && decide (p + 1 < hi) then findMatch d c1 depth hi (p + 1) else (0, 0)
        if m2.1 > m.1 then matchFrom d depth lzy hi fuel (p + 1) (some m2) c1 (.lit (d.getD p 0) :: acc)
        else
          let c2 := (upTo (m.1 - 1)).foldl (fun c i => insertPos d c (p + 1 + i)) c1
          matchFrom d depth lzy hi fuel (p + m.1) none c2 (.mat m.1 m.2 :: acc)

/-! ## Codes -/

/-- Base lengths and extra bits of the length codes 257 to 284, and of the distance codes (RFC 1951). -/
def lengthBases : List Nat := [3, 4, 5, 6, 7, 8, 9, 10, 11, 13, 15, 17, 19, 23, 27, 31, 35, 43, 51, 59, 67, 83, 99, 115, 131, 163, 195, 227, 258]
def lengthExtras : List Nat := [0, 0, 0, 0, 0, 0, 0, 0, 1, 1, 1, 1, 2, 2, 2, 2, 3, 3, 3, 3, 4, 4, 4, 4, 5, 5, 5, 5, 0]
def distBases : List Nat := [1, 2, 3, 4, 5, 7, 9, 13, 17, 25, 33, 49, 65, 97, 129, 193, 257, 385, 513, 769, 1025, 1537, 2049, 3073, 4097,
  6145, 8193, 12289, 16385, 24577]
def distExtras : List Nat := [0, 0, 0, 0, 1, 1, 2, 2, 3, 3, 4, 4, 5, 5, 6, 6, 7, 7, 8, 8, 9, 9, 10, 10, 11, 11, 12, 12, 13, 13]

/-- The number of bases not above a value, less one. -/
def codeIndex (bases : List Nat) (v : Nat) : Nat := (bases.filter (· ≤ v)).length - 1

/-- `n` bits of a value, least significant first. -/
def lsbBits (n v : Nat) : List Bool := (upTo n).map fun i => v.testBit i

/-- `n` bits of a code, most significant first. -/
def msbBits (n v : Nat) : List Bool := (lsbBits n v).reverse

/-- Canonical codes from lengths (RFC 1951): for each symbol its length and code. -/
def canonical (lens : List Nat) : List (Nat × Nat) :=
  let firsts := (upTo 16).foldl (fun (acc : List Nat × Nat) l =>
    if l = 0 then ([0], 0)
    else
      let c := (acc.2 + (if l = 1 then 0 else lens.count (l - 1))) * 2
      (acc.1 ++ [c], c)) ([], 0)
  (lens.foldl (fun (acc : List (Nat × Nat) × List Nat) l =>
    if l = 0 then ((0, 0) :: acc.1, acc.2)
    else ((l, nth acc.2 l) :: acc.1, acc.2.set l (nth acc.2 l + 1))) ([], firsts.1)).1.reverse

/-- An item of package-merge: its weight and the symbols it contains. -/
abbrev PackItem := Nat × List Nat

/-- Merges leaves and packages by weight; on equal weight a leaf comes first (R642). -/
def mergeItems : Nat → List PackItem → List PackItem → List PackItem
  | 0, _, _ => []
  | _ + 1, [], ys => ys
  | _ + 1, xs, [] => xs
  | n + 1, x :: xs, y :: ys => if x.1 ≤ y.1 then x :: mergeItems n xs (y :: ys) else y :: mergeItems n (x :: xs) ys

/-- Pairs of a list; an odd last item is dropped. -/
def pairUp : List PackItem → List PackItem
  | a :: b :: t => (a.1 + b.1, a.2 ++ b.2) :: pairUp t
  | _ => []

/-- Code lengths of an alphabet from its counts (R642, steps 2 and 3). -/
def packageMerge (counts : List Nat) (limit : Nat) : List Nat :=
  let used := (upTo counts.length).filter fun i => nth counts i != 0
  if used.length < 2 then
    let a := used.headD 0
    let b := if a = 0 then 1 else 0
    (upTo counts.length).map fun i => if i = a ∨ i = b then 1 else 0
  else
    let leaves : List PackItem := (sortBy (nth counts) used).map fun i => (nth counts i, [i])
    let items := (upTo (limit - 1)).foldl (fun l _ => let p := pairUp l; mergeItems (leaves.length + p.length) leaves p) leaves
    let chosen := (items.take (2 * leaves.length - 2)).flatMap Prod.snd
    (upTo counts.length).map fun i => chosen.count i

/-- Counts of symbols below `n`. -/
def countSyms (n : Nat) (syms : List Nat) : List Nat :=
  (syms.foldl (fun (a : Array Nat) i => a.modify i (· + 1)) (Array.replicate n 0)).toList

/-- The literal/length symbol and the distance symbol of a token. -/
def Token.litSym : Token → Nat
  | .lit b => b.toNat
  | .mat l _ => 257 + codeIndex lengthBases l
def Token.distSym : Token → Option Nat
  | .lit _ => none
  | .mat _ d => some (codeIndex distBases d)

/-- The bits of a token under two codes. -/
def tokenBits (ll dd : Array (Nat × Nat)) (t : Token) : List Bool :=
  let c := ll.getD t.litSym (0, 0)
  match t with
  | .lit _ => msbBits c.1 c.2
  | .mat l d =>
    let i := codeIndex lengthBases l
    let j := codeIndex distBases d
    let e := dd.getD j (0, 0)
    msbBits c.1 c.2 ++ lsbBits (nth lengthExtras i) (l - nth lengthBases i) ++ msbBits e.1 e.2
      ++ lsbBits (nth distExtras j) (d - nth distBases j)

/-- The fixed code lengths (RFC 1951). -/
def fixedLit : List Nat := List.replicate 144 8 ++ List.replicate 112 9 ++ List.replicate 24 7 ++ List.replicate 8 8
def fixedDist : List Nat := List.replicate 30 5

/-- A symbol of the run-length coding with its extra bits and their number (R642, step 5). -/
abbrev RunSym := Nat × Nat × Nat

/-- Repeats of a non-zero length: symbol 16 while at least 3 remain, then the length itself. -/
def repeatRun (v : Nat) : Nat → Nat → List RunSym
  | 0, _ => []
  | fuel + 1, r =>
    if r ≥ 3 then (16, min r 6 - 3, 2) :: repeatRun v fuel (r - min r 6)
    else List.replicate r (v, 0, 0)

/-- The run-length coding of a sequence of lengths (R642, step 5). -/
def runCode : Nat → List Nat → List RunSym
  | 0, _ => []
  | _ + 1, [] => []
  | fuel + 1, v :: t =>
    let n := ((v :: t).takeWhile (· == v)).length
    if v = 0 ∧ n ≥ 11 then (18, min n 138 - 11, 7) :: runCode fuel ((v :: t).drop (min n 138))
    else if v = 0 ∧ n ≥ 3 then (17, n - 3, 3) :: runCode fuel ((v :: t).drop n)
    else if v ≠ 0 ∧ n ≥ 4 then (v, 0, 0) :: repeatRun v n (n - 1) ++ runCode fuel ((v :: t).drop n)
    else (v, 0, 0) :: runCode fuel t

/-- The order of the code-length code's lengths (R642, step 6). -/
def clOrder : List Nat := [16, 17, 18, 0, 8, 7, 9, 6, 10, 5, 11, 4, 12, 3, 13, 2, 14, 1, 15]

/-- One more than the index of the last non-zero element, at least `lo`. -/
def usedLen (lo : Nat) (xs : List Nat) : Nat := max lo ((upTo xs.length).foldl (fun m i => if nth xs i ≠ 0 then i + 1 else m) 0)

/-- The bits of a block with a dynamic code after its three header bits (R642). -/
def dynamicBody (toks : List Token) : List Bool :=
  let ll := packageMerge (countSyms 286 (256 :: toks.map Token.litSym)) 15
  let dd := packageMerge (countSyms 30 (toks.filterMap Token.distSym)) 15
  let hlit := usedLen 257 ll
  let hdist := usedLen 1 dd
  let runs := runCode 316 (ll.take hlit ++ dd.take hdist)
  let cl := packageMerge (countSyms 19 (runs.map fun r => r.1)) 7
  let hclen := usedLen 4 (clOrder.map (nth cl))
  let clc := canonical cl
  let llc := (canonical ll).toArray
  let ddc := (canonical dd).toArray
  let eob := llc.getD 256 (0, 0)
  lsbBits 5 (hlit - 257) ++ lsbBits 5 (hdist - 1) ++ lsbBits 4 (hclen - 4)
    ++ ((clOrder.take hclen).flatMap fun i => lsbBits 3 (nth cl i))
    ++ (runs.flatMap fun r => let c := clc.getD r.1 (0, 0); msbBits c.1 c.2 ++ lsbBits r.2.2 r.2.1)
    ++ toks.flatMap (tokenBits llc ddc) ++ msbBits eob.1 eob.2

/-- The bits of a block with the fixed code after its header bits. -/
def fixedBody (toks : List Token) : List Bool :=
  toks.flatMap (tokenBits (canonical fixedLit).toArray (canonical fixedDist).toArray) ++ lsbBits 7 0

/-- The bits of a stored block after its header bits, from a bit position modulo 8. -/
def storedBody (pos : Nat) (bs : List Byte) : List Bool :=
  List.replicate ((8 - (pos + 3) % 8) % 8) false ++ lsbBits 16 bs.length ++ lsbBits 16 (0xFFFF - bs.length)
    ++ bs.flatMap fun b => lsbBits 8 b.toNat

/-- One block in the smallest of the three forms; ties go to stored, then to fixed (R327). The flag says it was stored. -/
def encodeBlock (stored : Bool) (pos : Nat) (fin : Bool) (bs : List Byte) (toks : List Token) : List Bool × Bool :=
  let st := storedBody pos bs
  let fx := fixedBody toks
  if bs = [] then (fin :: true :: false :: fx, false)
  else if stored then (fin :: false :: false :: st, true)
  else
    let dy := dynamicBody toks
    if st.length ≤ fx.length ∧ st.length ≤ dy.length then (fin :: false :: false :: st, true)
    else if fx.length ≤ dy.length then (fin :: true :: false :: fx, false)
    else (fin :: false :: true :: dy, false)

/-- Chain depth and lazy matching of a level (R328). -/
def levelDepth (level : Nat) : Nat := nth [0, 1, 2, 4, 8, 16, 32, 64, 128, 256] level
def levelLazy (level : Nat) : Bool := decide (level ≥ 4)

/-- The effective depth (R328): at level 0 no search is made, whatever the override. -/
def effectiveDepth (level excess : Nat) : Nat := if level = 0 then 0 else if excess = 0 then levelDepth level else excess

/-- The blocks of a stream, one after the other: for each its bits and whether it was stored. Each of the first `n` blocks
of 8,192 bytes; the last is final when `fin`. -/
def encodeBlocks (level depth : Nat) (fin : Bool) (d : Array Byte) (n : Nat) : List (List Bool × Bool) :=
  ((upTo n).foldl (fun (acc : List (List Bool × Bool) × Chains × Nat) i =>
    let lo := i * 8192
    let hi := min d.size (lo + 8192)
    let (toks, c) := if level = 0 then ([], acc.2.1) else matchFrom d depth (levelLazy level) hi (hi - lo + 1) lo none acc.2.1 []
    let b := encodeBlock (level == 0) acc.2.2 (fin && i + 1 == n) ((d.extract lo hi).toList) toks
    (b :: acc.1, c, (acc.2.2 + b.1.length) % 8)) ([], Array.replicate 32768 [], 0)).1.reverse

/-- Bits packed into bytes, least significant first; the last byte is filled with zeros. -/
def packBits (bs : List Bool) : List Byte :=
  (chunks 8 bs).map fun c => BitVec.ofNat 8 (c.foldr (fun b acc => flag b + 2 * acc) 0)

/-! ## Framing -/

/-- Adler-32 (RFC 1950). -/
def adler32 (bs : List Byte) : Nat :=
  let r := bs.foldl (fun (p : Nat × Nat) b => let a := (p.1 + b.toNat) % 65521; (a, (p.2 + a) % 65521)) (1, 0)
  r.2 * 65536 + r.1

/-- The header the compressor writes (R330). -/
def frameHead (format level : Nat) : List Byte :=
  if format = 1 then [0x78, if level ≤ 1 then 0x01 else if level ≤ 5 then 0x5E else if level = 6 then 0x9C else 0xDA]
  else if format = 2 then [0x1F, 0x8B, 8, 0, 0, 0, 0, 0, if level = 1 then 4 else if level = 9 then 2 else 0, 0xFF]
  else []

/-- The trailer of a stream (R330). -/
def frameTail (format : Nat) (input : List Byte) : List Byte :=
  if format = 1 then beBytes 4 (adler32 input)
  else if format = 2 then leBytes 4 (crc32 input) ++ leBytes 4 input.length
  else []

/-- The running check value of a continuation record (R345). -/
def runningCheck (format : Nat) (bs : List Byte) : Nat := if format = 1 then adler32 bs else if format = 2 then crc32 bs else 0

/-- The blocks of a whole stream of `n` bytes: an empty stream has one empty block. -/
def blockCount (n : Nat) : Nat := max 1 (ceilDiv n 8192)

/-- A whole stream of formats 0 to 2. -/
def deflateAll (format level depth : Nat) (input : List Byte) : List Byte :=
  frameHead format level
    ++ packBits ((encodeBlocks level depth true input.toArray (blockCount input.length)).flatMap Prod.fst)
    ++ frameTail format input

/-- The media block format: the bytes and the raw flag (R332, R333). -/
def mediaEncode (level depth : Nat) (input : List Byte) : List Byte × Bool :=
  if input = [] then ([], false)
  else
    let p := deflateAll 0 level depth input
    let l := p.length
    if ceilDiv (8 + l) 1024 ≤ ceilDiv input.length 1024 - 1 then
      (padTo (roundUp (8 + l) 1024) ([0x51, 0x01] ++ leBytes 2 input.length ++ leBytes 2 l ++ zeros 2 ++ p), false)
    else (input, true)

/-! ## Decoding -/

/-- How a decoding ends. -/
inductive InfEnd where
  | done | full | need | bad | check | header
deriving DecidableEq, Repr

/-- The decoder's position: bits read and output so far. -/
structure Inf where
  pos : Nat
  out : Array Byte
deriving Repr

/-- A bit of the input. -/
def bitOf (d : Array Byte) (i : Nat) : Nat := ((d.getD (i / 8) 0).toNat >>> (i % 8)) % 2

/-- `n` bits from a position, least significant first; none beyond the end. -/
def getBits (d : Array Byte) (pos n : Nat) : Option Nat :=
  if pos + n > d.size * 8 then none
  else some ((upTo n).foldr (fun i acc => bitOf d (pos + i) + 2 * acc) 0)

/-- A code for decoding: for each length the count of symbols, and the symbols in order of code. -/
structure HuffTab where
  counts : List Nat
  syms : Array Nat
  excess : Bool

/-- The decoding table of code lengths; `excess` marks an over-subscribed set. -/
def huffTab (lens : List Nat) : HuffTab :=
  let counts := (upTo 16).map fun l => if l = 0 then 0 else lens.count l
  let syms := (upTo 15).flatMap fun l => (upTo lens.length).filter fun i => nth lens i == l + 1
  { counts := counts, syms := syms.toArray,
    excess := decide ((upTo 16).foldl (fun k l => if l = 0 then k else k + nth counts l * 2 ^ (15 - l)) 0 > 2 ^ 15) }

/-- Decodes one symbol: `none` where the input ends, `some none` for an unassigned code. -/
def huffSym (d : Array Byte) (h : HuffTab) : Nat → Nat → Nat → Nat → Nat → Option (Option (Nat × Nat))
  | 0, _, _, _, _ => some none
  | fuel + 1, pos, code, first, index =>
    if pos ≥ d.size * 8 then none
    else
      let code := code + bitOf d pos
      let c := nth h.counts (16 - fuel - 1)
      if code < first + c then some (some (h.syms.getD (index + (code - first)) 0, pos + 1))
      else huffSym d h fuel (pos + 1) (code * 2) ((first + c) * 2) (index + c)

/-- One symbol from a position. -/
def decodeSym (d : Array Byte) (h : HuffTab) (pos : Nat) : Option (Option (Nat × Nat)) := huffSym d h 15 pos 0 0 0

/-- Copies a match, never beyond the output limit; the flag says the limit cut it. -/
def copyMatch (limit dist : Nat) : Nat → Array Byte → Array Byte × Bool
  | 0, out => (out, false)
  | n + 1, out => if out.size ≥ limit then (out, true) else copyMatch limit dist n (out.push (out.getD (out.size - dist) 0))

/-- Decodes the symbols of a block. -/
def inflateCodes (d : Array Byte) (limit : Nat) (ll dd : HuffTab) : Nat → Inf → InfEnd × Inf
  | 0, st => (.need, st)
  | fuel + 1, st =>
    match decodeSym d ll st.pos with
    | none => (.need, st)
    | some none => (.bad, st)
    | some (some (sym, pos)) =>
      if sym < 256 then
        if st.out.size ≥ limit then (.full, st)
        else inflateCodes d limit ll dd fuel { pos := pos, out := st.out.push (BitVec.ofNat 8 sym) }
      else if sym = 256 then (.done, { st with pos := pos })
      else if sym > 285 then (.bad, st)
      else
        let i := sym - 257
        match getBits d pos (nth lengthExtras i) with
        | none => (.need, st)
        | some e =>
          let pos := pos + nth lengthExtras i
          match decodeSym d dd pos with
          | none => (.need, st)
          | some none => (.bad, st)
          | some (some (ds, pos)) =>
            if ds > 29 then (.bad, st)
            else match getBits d pos (nth distExtras ds) with
              | none => (.need, st)
              | some f =>
                let pos := pos + nth distExtras ds
                let dist := nth distBases ds + f
                if dist > st.out.size ∨ dist > 32768 then (.bad, st)
                else
                  let (out, cut) := copyMatch limit dist (nth lengthBases i + e) st.out
                  if cut then (.full, { pos := pos, out := out })
                  else inflateCodes d limit ll dd fuel { pos := pos, out := out }

/-- Copies `n` stored bytes from a byte-aligned position. -/
def inflateStored (d : Array Byte) (limit : Nat) : Nat → Inf → InfEnd × Inf
  | 0, st => (.done, st)
  | n + 1, st =>
    if st.pos ≥ d.size * 8 then (.need, st)
    else if st.out.size ≥ limit then (.full, st)
    else inflateStored d limit n { pos := st.pos + 8, out := st.out.push (d.getD (st.pos / 8) 0) }

/-- Reads the code lengths of a dynamic block, run by run. -/
def readLens (d : Array Byte) (cl : HuffTab) (total : Nat) : Nat → Nat → List Nat → Option (Option (List Nat × Nat))
  | 0, _, _ => some none
  | fuel + 1, pos, acc =>
    if acc.length = total then some (some (acc.reverse, pos))
    else if acc.length > total then some none
    else match decodeSym d cl pos with
      | none => none
      | some none => some none
      | some (some (sym, pos)) =>
        if sym < 16 then readLens d cl total fuel pos (sym :: acc)
        else
          let n := if sym = 16 then 2 else if sym = 17 then 3 else 7
          let base := if sym = 18 then 11 else 3
          match getBits d pos n with
          | none => none
          | some e =>
            if sym = 16 ∧ acc = [] then some none
            else readLens d cl total fuel (pos + n) (List.replicate (base + e) (if sym = 16 then acc.headD 0 else 0) ++ acc)

/-- The codes of a dynamic block from the position after its header bits. -/
def readDynamic (d : Array Byte) (pos : Nat) : Option (Option (HuffTab × HuffTab × Nat)) :=
  match getBits d pos 5, getBits d (pos + 5) 5, getBits d (pos + 10) 4 with
  | some hl, some hd, some hc =>
    match getBits d (pos + 14) (3 * (hc + 4)) with
    | none => none
    | some w =>
      let ls := (upTo 19).map fun s => let i := clOrder.idxOf s; if i < hc + 4 then (w >>> (3 * i)) % 8 else 0
      let cl := huffTab ls
      if cl.excess || decide (hl > 29) || decide (hd > 29) then some none
      else match readLens d cl (hl + 257 + hd + 1) 400 (pos + 14 + 3 * (hc + 4)) [] with
        | none => none
        | some none => some none
        | some (some (lens, pos)) =>
          let a := huffTab (lens.take (hl + 257))
          let b := huffTab (lens.drop (hl + 257))
          if a.excess || b.excess then some none else some (some (a, b, pos))
  | _, _, _ => none

/-- Decodes blocks until the final one ends; `fuel` bounds their number. -/
def inflateBlocks (d : Array Byte) (limit : Nat) : Nat → Inf → InfEnd × Inf
  | 0, st => (.need, st)
  | fuel + 1, st =>
    match getBits d st.pos 3 with
    | none => (.need, st)
    | some h =>
      let fin := h % 2 = 1
      let ty := h / 2
      let r : InfEnd × Inf :=
        if ty = 3 then (.bad, st)
        else if ty = 0 then
          let p := roundUp (st.pos + 3) 8
          match getBits d p 16, getBits d (p + 16) 16 with
          | some n, some m => if n + m ≠ 0xFFFF then (.bad, st) else inflateStored d limit n { st with pos := p + 32 }
          | _, _ => (.need, st)
        else if ty = 1 then
          inflateCodes d limit (huffTab fixedLit) (huffTab fixedDist) (d.size * 8 + 1) { st with pos := st.pos + 3 }
        else match readDynamic d (st.pos + 3) with
          | none => (.need, st)
          | some none => (.bad, st)
          | some (some (a, b, pos)) => inflateCodes d limit a b (d.size * 8 + 1) { st with pos := pos }
      if r.1 = .done ∧ !fin then inflateBlocks d limit fuel r.2 else r

/-- The length of a zlib or gzip header, or how it fails (R331). -/
def headLength (format : Nat) (bs : List Byte) : InfEnd × Nat :=
  if format = 1 then
    if bs.length < 2 then (.need, 0)
    else
      let c := leAt bs 0 1
      let f := leAt bs 1 1
      if c % 16 ≠ 8 ∨ c / 16 > 7 ∨ f / 32 % 2 = 1 ∨ (c * 256 + f) % 31 ≠ 0 then (.header, 0) else (.done, 2)
  else if format = 2 then
    if bs.length < 10 then (.need, 0)
    else
      let flg := leAt bs 3 1
      if leAt bs 0 2 ≠ 0x8B1F ∨ leAt bs 2 1 ≠ 8 ∨ flg ≥ 32 then (.header, 0)
      else
        let p := 10 + (if flg / 4 % 2 = 1 then 2 + leAt bs 10 2 else 0)
        let skipZ (p : Nat) : Nat := p + ((bs.drop p).takeWhile (· != 0)).length + 1
        let p := if flg / 8 % 2 = 1 then skipZ p else p
        let p := if flg / 16 % 2 = 1 then skipZ p else p
        let q := if flg / 2 % 2 = 1 then p + 2 else p
        if q > bs.length then (.need, 0)
        else if flg / 2 % 2 = 1 ∧ leAt bs p 2 ≠ crc32 (bs.take p) % 65536 then (.check, 0)
        else (.done, q)
  else (.done, 0)

/-- Decodes a stream of formats 0 to 2 with an output limit: how it ends, the bytes consumed and the output (R331). -/
def inflateAll (format : Nat) (bs : List Byte) (limit : Nat) : InfEnd × Nat × List Byte :=
  match headLength format bs with
  | (.done, h) =>
    let d := (bs.drop h).toArray
    let (e, st) := inflateBlocks d limit (d.size * 8 + 1) { pos := 0, out := #[] }
    let used := h + ceilDiv st.pos 8
    let out := st.out.toList
    if e ≠ .done then (e, used, out)
    else
      let tail := if format = 1 then 4 else if format = 2 then 8 else 0
      if used + tail > bs.length then (.need, bs.length, out)
      else if sliceBytes bs used tail = frameTail format out then (.done, used + tail, out)
      else (.check, used + tail, out)
  | (e, _) => (e, 0, [])

/-- The status of a data fault of an inline or media decoding: 0x11 data error, 0x12 truncated, 0x13 check, 0x14 header (R339). -/
def mediaDecode (bs : List Byte) (inLen : Nat) : Nat × List Byte :=
  let n := leAt bs 2 2
  let l := leAt bs 4 2
  if leAt bs 0 1 ≠ 0x51 ∨ leAt bs 1 1 ≠ 1 ∨ leAt bs 6 2 ≠ 0 ∨ n = 0 ∨ n > 16384 ∨ l = 0 ∨ 8 + l > inLen then (0x14, [])
  else
    match inflateAll 0 (sliceBytes bs 8 l) 16385 with
    | (.done, _, out) => if out.length = n then (0, out) else (0x11, out)
    | (_, _, out) => (0x11, out)

/-- Decodes an MU from its start until `need` bytes have been produced (R247): the status and those bytes. What lies behind the last of them is not
looked at. -/
def mediaPrefix (bs : List Byte) (inLen need : Nat) : Nat × List Byte :=
  let n := leAt bs 2 2
  let l := leAt bs 4 2
  if leAt bs 0 1 ≠ 0x51 ∨ leAt bs 1 1 ≠ 1 ∨ leAt bs 6 2 ≠ 0 ∨ n < need ∨ n > 16384 ∨ l = 0 ∨ 8 + l > inLen then mediaDecode bs inLen
  else
    let out := (inflateAll 0 (sliceBytes bs 8 l) need).2.2
    if out.length ≥ need then (0, out.take need) else (0x11, out)

end Sys2Proof.Machine
end

