-- ==== Sys2Proof/Config.lean ====
section
/-! DEFINITION. What the manual leaves open: constants of a particular device and free values. Each is opaque, so nothing can be proved of its value. -/

namespace Sys2Proof.Config

/-- The free values, drawn in order: the draw number picks one. Used where the manual leaves a value open (log 1). -/
opaque freeNat : Nat → Nat

/-- Free byte strings: draw number, then position. -/
opaque freeByte : Nat → Nat → Byte

/-- The contents of the boot ROM, by offset (R598 gives its place and size only). -/
opaque bootRom : Nat → Byte

/-- Bytes of the device's identity that the manual leaves to the manufacturer: the draw names which (vendor id, IEEE OUI, serial number and so on). -/
opaque identity : Nat → Nat

/-- The device secret of R527, and the salts of its derivations. -/
opaque deviceSecret : Nat

/-- The random bit generator of R529: draw, then byte position. -/
opaque random : Nat → Nat → Byte

end Sys2Proof.Config
end

