-- ==== Sys2Proof/Machine/RegTable.lean ====
section
/-! DEFINITION. The register pages' block registers: for each page the registers it holds, their offsets, fields, access codes (R8), reset values and reset domains (R9), as the page maps and field tables of the manual's chapters list them. -/

namespace Sys2Proof.Machine

/-- Access codes (R8). -/
inductive Acc where
  | ro | rw | wo | w1c | w1s | rwk | rwl
deriving DecidableEq, Repr

/-- Reset domains (R9); `none`: the register holds nothing. -/
inductive Dom where
  | p | d | c | i | none
deriving DecidableEq, Repr

/-- A field: bits `hi` to `lo`, its access and its reset value. -/
structure FieldD where
  hi : Nat
  lo : Nat
  acc : Acc
  reset : Nat := 0
deriving DecidableEq, Repr

/-- A register, or an array of `count` registers `stride` bytes apart. Bits no field covers are reserved (R6). -/
structure RegD where
  name : String
  off : Nat
  stride : Nat := 0
  count : Nat := 1
  dom : Dom
  fields : List FieldD
deriving DecidableEq, Repr

/-- Registers of the class `top`. -/
def topRegs : List RegD := [
  { name := "TOP_ID", off := 0x040, dom := .p, fields := [{ hi := 31, lo := 20, acc := .ro, reset := 0xc5e }, { hi := 19, lo := 12, acc := .ro, reset := 0x3b }, { hi := 11, lo := 4, acc := .ro }, { hi := 3, lo := 0, acc := .ro }] },
  { name := "TOP_REV", off := 0x044, dom := .p, fields := [{ hi := 15, lo := 8, acc := .ro, reset := 2 }, { hi := 7, lo := 0, acc := .ro, reset := 1 }] },
  { name := "TOP_UID_LO", off := 0x048, dom := .p, fields := [{ hi := 31, lo := 0, acc := .ro }] },
  { name := "TOP_UID_HI", off := 0x04C, dom := .p, fields := [{ hi := 31, lo := 0, acc := .ro }] }]

/-- Registers of the class `hifPort`. -/
def hifPortRegs : List RegD := [
  { name := "HIF_MWIN_RD", off := 0x040, dom := .d, fields := [{ hi := 15, lo := 0, acc := .rwk, reset := 1 }] },
  { name := "HIF_MWIN_WR", off := 0x044, dom := .d, fields := [{ hi := 15, lo := 0, acc := .rwk }] },
  { name := "HIF_PORT_CFG", off := 0x048, dom := .d, fields := [{ hi := 31, lo := 0, acc := .ro }] }]

/-- Registers of the class `hifLink`. -/
def hifLinkRegs : List RegD := [
  { name := "HIF_LINK_STAT", off := 0x080, dom := .i, fields := [{ hi := 31, lo := 0, acc := .ro }] },
  { name := "HIF_LINK_CTRL", off := 0x084, dom := .i, fields := [{ hi := 3, lo := 1, acc := .rwk }, { hi := 0, lo := 0, acc := .rwk }] },
  { name := "HIF_LANE_ERR", off := 0x088, dom := .i, fields := [{ hi := 15, lo := 0, acc := .w1c }] },
  { name := "HIF_CPL_TO_CNT", off := 0x08C, dom := .i, fields := [{ hi := 31, lo := 0, acc := .ro }] }]

/-- Registers of the class `acc16`. -/
def acc16Regs : List RegD := [
  { name := "ACC_CTX_TOTAL", off := 0x040, dom := .p, fields := [{ hi := 31, lo := 0, acc := .ro, reset := 0x20000 }] },
  { name := "ACC_CTX_INUSE", off := 0x044, dom := .i, fields := [{ hi := 17, lo := 0, acc := .ro }] },
  { name := "ACC_CTX_RESERVE", off := 0x048, dom := .d, fields := [{ hi := 10, lo := 0, acc := .rwl, reset := 0x100 }] }]

/-- Registers of the class `acc17`. -/
def acc17Regs : List RegD := [
  { name := "ACC_CTL_WEIGHT", off := 0x040, stride := 0x4, count := 128, dom := .d, fields := [{ hi := 7, lo := 0, acc := .rwk, reset := 1 }] }]

/-- Registers of the class `wng`. -/
def wngRegs : List RegD := [
  { name := "WNG_CTRL", off := 0x040, dom := .i, fields := [{ hi := 0, lo := 0, acc := .rwk }] },
  { name := "WNG_STAT", off := 0x044, dom := .i, fields := [{ hi := 27, lo := 16, acc := .ro }, { hi := 11, lo := 0, acc := .ro }] },
  { name := "WNG_LIVE_DIES", off := 0x048, dom := .i, fields := [{ hi := 7, lo := 0, acc := .ro }] },
  { name := "WNG_GEOM_A", off := 0x04C, dom := .i, fields := [{ hi := 22, lo := 20, acc := .ro }, { hi := 18, lo := 16, acc := .ro }, { hi := 14, lo := 0, acc := .ro }] },
  { name := "WNG_GEOM_B", off := 0x050, dom := .i, fields := [{ hi := 17, lo := 16, acc := .ro }, { hi := 14, lo := 0, acc := .ro }] }]

/-- Registers of the class `fch`. -/
def fchRegs : List RegD := [
  { name := "FCH_CFG", off := 0x040, dom := .d, fields := [{ hi := 8, lo := 8, acc := .rwk }, { hi := 2, lo := 0, acc := .rwk, reset := 5 }] },
  { name := "FCH_STAT", off := 0x044, dom := .i, fields := [{ hi := 12, lo := 8, acc := .ro }, { hi := 7, lo := 4, acc := .ro }, { hi := 2, lo := 0, acc := .ro }] },
  { name := "FCH_DIE_PRESENT", off := 0x048, dom := .i, fields := [{ hi := 15, lo := 0, acc := .ro }] },
  { name := "FCH_DIE_FENCED", off := 0x04C, dom := .d, fields := [{ hi := 15, lo := 0, acc := .ro }] },
  { name := "FCH_DIE_CTRL", off := 0x050, dom := .i, fields := [{ hi := 31, lo := 31, acc := .rwk }, { hi := 23, lo := 16, acc := .rwk }, { hi := 11, lo := 8, acc := .rwk }, { hi := 3, lo := 0, acc := .rwk }] },
  { name := "FCH_DIE_STAT", off := 0x054, dom := .i, fields := [{ hi := 11, lo := 8, acc := .ro }, { hi := 7, lo := 0, acc := .ro }] },
  { name := "FCH_TMO", off := 0x058, dom := .d, fields := [{ hi := 15, lo := 0, acc := .rwk, reset := 0x32 }] },
  { name := "FCH_SUSPEND_CFG", off := 0x05C, dom := .d, fields := [{ hi := 31, lo := 16, acc := .rwk, reset := 0x64 }, { hi := 7, lo := 4, acc := .rwk, reset := 8 }, { hi := 3, lo := 0, acc := .rwk, reset := 4 }] },
  { name := "FCH_VERIFY_THR", off := 0x060, dom := .d, fields := [{ hi := 7, lo := 0, acc := .rwk, reset := 0x50 }] },
  { name := "FCH_SOFT_CNT", off := 0x064, dom := .i, fields := [{ hi := 31, lo := 0, acc := .ro }] },
  { name := "FCH_UNC_CNT", off := 0x068, dom := .i, fields := [{ hi := 31, lo := 0, acc := .ro }] },
  { name := "FCH_FENCE_RESP", off := 0x06C, dom := .d, fields := [{ hi := 31, lo := 0, acc := .ro }] },
  { name := "FCH_BUF_INUSE", off := 0x070, dom := .i, fields := [{ hi := 5, lo := 0, acc := .ro }] }]

/-- Registers of the class `cur`. -/
def curRegs : List RegD := [
  { name := "CUR_SETS", off := 0x040, dom := .i, fields := [{ hi := 31, lo := 16, acc := .ro }, { hi := 15, lo := 0, acc := .ro }] },
  { name := "CUR_RES_FREE", off := 0x044, dom := .i, fields := [{ hi := 31, lo := 0, acc := .ro }] },
  { name := "CUR_RES_EMERG", off := 0x048, dom := .i, fields := [{ hi := 31, lo := 0, acc := .ro }] },
  { name := "CUR_LENT", off := 0x04C, dom := .i, fields := [{ hi := 31, lo := 0, acc := .ro }] },
  { name := "CUR_BORROWED", off := 0x050, dom := .i, fields := [{ hi := 31, lo := 0, acc := .ro }] },
  { name := "CUR_GC_CFG", off := 0x054, dom := .d, fields := [{ hi := 15, lo := 8, acc := .rwk, reset := 0x28 }, { hi := 7, lo := 0, acc := .rwk, reset := 0x14 }] },
  { name := "CUR_GC_AGE", off := 0x058, dom := .d, fields := [{ hi := 15, lo := 0, acc := .rwk, reset := 0xa8 }] },
  { name := "CUR_PACK_TMO", off := 0x05C, dom := .d, fields := [{ hi := 15, lo := 0, acc := .rwk, reset := 0xc8 }] },
  { name := "CUR_LEDGER", off := 0x060, dom := .i, fields := [{ hi := 31, lo := 16, acc := .ro }, { hi := 15, lo := 0, acc := .ro }] }]

/-- Registers of the class `curDev`. -/
def curDevRegs : List RegD := [
  { name := "CUR_DEV_STAT", off := 0x080, dom := .i, fields := [{ hi := 15, lo := 8, acc := .ro }, { hi := 2, lo := 2, acc := .ro }, { hi := 1, lo := 1, acc := .ro }, { hi := 0, lo := 0, acc := .ro }] },
  { name := "CUR_LEND_FLOOR", off := 0x084, dom := .d, fields := [{ hi := 7, lo := 0, acc := .rwk, reset := 0x19 }] },
  { name := "CUR_BUDGET_LO", off := 0x088, dom := .i, fields := [{ hi := 31, lo := 0, acc := .ro }] },
  { name := "CUR_BUDGET_HI", off := 0x08C, dom := .i, fields := [{ hi := 31, lo := 0, acc := .ro }] },
  { name := "CUR_DIRTY_LO", off := 0x090, dom := .i, fields := [{ hi := 31, lo := 0, acc := .ro }] },
  { name := "CUR_DIRTY_HI", off := 0x094, dom := .i, fields := [{ hi := 31, lo := 0, acc := .ro }] },
  { name := "CUR_HU_MEAS", off := 0x098, dom := .d, fields := [{ hi := 31, lo := 0, acc := .ro }] },
  { name := "CUR_HU_CTRL", off := 0x09C, dom := .d, fields := [{ hi := 15, lo := 8, acc := .rwk, reset := 0x18 }, { hi := 0, lo := 0, acc := .w1s }] },
  { name := "CUR_HU_MIN", off := 0x0A0, dom := .d, fields := [{ hi := 15, lo := 0, acc := .rwk, reset := 0x400 }] },
  { name := "CUR_JNL_MAX", off := 0x0A4, dom := .d, fields := [{ hi := 12, lo := 0, acc := .rwk, reset := 0x400 }] }]

/-- Registers of the class `curCnt`. -/
def curCntRegs : List RegD := [
  { name := "CUR_RELOC_LO", off := 0x040, dom := .i, fields := [{ hi := 31, lo := 0, acc := .ro }] },
  { name := "CUR_RELOC_HI", off := 0x044, dom := .i, fields := [{ hi := 31, lo := 0, acc := .ro }] },
  { name := "CUR_REBUILD", off := 0x048, dom := .i, fields := [{ hi := 31, lo := 0, acc := .ro }] },
  { name := "CUR_VERIFY_FAIL", off := 0x04C, dom := .i, fields := [{ hi := 31, lo := 0, acc := .ro }] },
  { name := "CUR_INFLIGHT_WAIT", off := 0x050, dom := .i, fields := [{ hi := 31, lo := 0, acc := .ro }] },
  { name := "CUR_RAW_MU", off := 0x054, dom := .i, fields := [{ hi := 31, lo := 0, acc := .ro }] }]

/-- Registers of the class `con176`. -/
def con176Regs : List RegD := [
  { name := "CON_CTRL", off := 0x040, dom := .d, fields := [{ hi := 6, lo := 6, acc := .rwk, reset := 1 }, { hi := 5, lo := 5, acc := .rwk, reset := 1 }, { hi := 4, lo := 4, acc := .rwk, reset := 1 }, { hi := 3, lo := 3, acc := .rwk, reset := 1 }, { hi := 2, lo := 2, acc := .rwk, reset := 1 }, { hi := 1, lo := 1, acc := .rwk, reset := 1 }, { hi := 0, lo := 0, acc := .rwk, reset := 1 }] },
  { name := "CON_STAT", off := 0x044, dom := .i, fields := [{ hi := 31, lo := 24, acc := .ro, reset := 0x1e }, { hi := 23, lo := 16, acc := .ro, reset := 0x1e }, { hi := 15, lo := 12, acc := .ro }, { hi := 9, lo := 8, acc := .ro }, { hi := 0, lo := 0, acc := .ro }] },
  { name := "CON_REWRITE_THR", off := 0x048, dom := .d, fields := [{ hi := 7, lo := 0, acc := .rwk, reset := 0x40 }] },
  { name := "CON_RETAIN", off := 0x04C, dom := .d, fields := [{ hi := 15, lo := 0, acc := .rwk, reset := 0xb4 }] },
  { name := "CON_PATROL", off := 0x050, dom := .d, fields := [{ hi := 15, lo := 0, acc := .rwk, reset := 0xe }] },
  { name := "CON_CAL", off := 0x054, dom := .d, fields := [{ hi := 23, lo := 16, acc := .rwk, reset := 0x10 }, { hi := 15, lo := 0, acc := .rwk, reset := 0xa8 }] },
  { name := "CON_RETRAIN", off := 0x058, dom := .d, fields := [{ hi := 31, lo := 24, acc := .rwk, reset := 1 }, { hi := 23, lo := 16, acc := .rwk, reset := 8 }, { hi := 15, lo := 8, acc := .rwk, reset := 0x18 }, { hi := 7, lo := 0, acc := .rwk, reset := 0xa }] },
  { name := "CON_DVFS", off := 0x05C, dom := .d, fields := [{ hi := 15, lo := 8, acc := .rwk, reset := 0x50 }, { hi := 7, lo := 0, acc := .rwk, reset := 0x28 }] }]

/-- Registers of the class `con177`. -/
def con177Regs : List RegD := [
  { name := "CON_TEMP", off := 0x040, stride := 0x4, count := 42, dom := .i, fields := [{ hi := 15, lo := 0, acc := .ro }] },
  { name := "CON_SUPPLY", off := 0x100, stride := 0x4, count := 42, dom := .i, fields := [{ hi := 15, lo := 0, acc := .ro }] }]

/-- Registers of the class `con178`. -/
def con178Regs : List RegD := [
  { name := "CON_LVL", off := 0x040, stride := 0x4, count := 42, dom := .d, fields := [{ hi := 31, lo := 31, acc := .ro }, { hi := 9, lo := 8, acc := .rwk, reset := 3 }, { hi := 1, lo := 0, acc := .ro }] }]

/-- Registers of the class `cmp`. -/
def cmpRegs : List RegD := [
  { name := "CMP_CFG", off := 0x040, dom := .d, fields := [{ hi := 20, lo := 16, acc := .rwk }, { hi := 12, lo := 8, acc := .rwk }, { hi := 3, lo := 0, acc := .rwk, reset := 4 }] },
  { name := "CMP_STAT", off := 0x044, dom := .i, fields := [{ hi := 28, lo := 24, acc := .ro }, { hi := 20, lo := 16, acc := .ro }, { hi := 12, lo := 8, acc := .ro }, { hi := 4, lo := 0, acc := .ro }] },
  { name := "CMP_IN_LO", off := 0x048, dom := .i, fields := [{ hi := 31, lo := 0, acc := .ro }] },
  { name := "CMP_IN_HI", off := 0x04C, dom := .i, fields := [{ hi := 31, lo := 0, acc := .ro }] },
  { name := "CMP_OUT_LO", off := 0x050, dom := .i, fields := [{ hi := 31, lo := 0, acc := .ro }] },
  { name := "CMP_OUT_HI", off := 0x054, dom := .i, fields := [{ hi := 31, lo := 0, acc := .ro }] },
  { name := "DCM_OUT_LO", off := 0x058, dom := .i, fields := [{ hi := 31, lo := 0, acc := .ro }] },
  { name := "DCM_OUT_HI", off := 0x05C, dom := .i, fields := [{ hi := 31, lo := 0, acc := .ro }] },
  { name := "CMP_STORED_CNT", off := 0x060, dom := .i, fields := [{ hi := 31, lo := 0, acc := .ro }] },
  { name := "CMP_DATA_ERR", off := 0x064, dom := .i, fields := [{ hi := 31, lo := 0, acc := .ro }] }]

/-- Registers of the class `cmpRing`. -/
def cmpRingRegs : List RegD := [
  { name := "CMP_RING_BASE_LO", off := 0x040, stride := 0x20, count := 16, dom := .i, fields := [{ hi := 31, lo := 6, acc := .rwk }] },
  { name := "CMP_RING_BASE_HI", off := 0x044, stride := 0x20, count := 16, dom := .i, fields := [{ hi := 15, lo := 0, acc := .rwk }] },
  { name := "CMP_RING_CFG", off := 0x048, stride := 0x20, count := 16, dom := .i, fields := [{ hi := 31, lo := 31, acc := .rwk }, { hi := 24, lo := 16, acc := .rwk }, { hi := 11, lo := 8, acc := .rwk, reset := 4 }, { hi := 2, lo := 1, acc := .rwk }, { hi := 0, lo := 0, acc := .rwk }] },
  { name := "CMP_RING_TAIL", off := 0x04C, stride := 0x20, count := 16, dom := .i, fields := [{ hi := 11, lo := 0, acc := .rwk }] },
  { name := "CMP_RING_HEAD", off := 0x050, stride := 0x20, count := 16, dom := .i, fields := [{ hi := 11, lo := 0, acc := .ro }] },
  { name := "CMP_RING_DONE", off := 0x054, stride := 0x20, count := 16, dom := .i, fields := [{ hi := 31, lo := 0, acc := .ro }] }]

/-- Registers of the class `cat200`. -/
def cat200Regs : List RegD := [
  { name := "CAT_STAT", off := 0x040, dom := .i, fields := [{ hi := 31, lo := 16, acc := .ro }, { hi := 5, lo := 0, acc := .ro }] },
  { name := "CAT_CMD", off := 0x044, dom := .i, fields := [{ hi := 31, lo := 31, acc := .rwk }, { hi := 26, lo := 24, acc := .rwk }, { hi := 19, lo := 16, acc := .rwk }] },
  { name := "CAT_IDX", off := 0x048, dom := .i, fields := [{ hi := 16, lo := 0, acc := .rwk }] },
  { name := "CAT_IDX2", off := 0x04C, dom := .i, fields := [{ hi := 16, lo := 0, acc := .rwk }] },
  { name := "CAT_CMD_STAT", off := 0x050, dom := .i, fields := [{ hi := 31, lo := 31, acc := .ro }, { hi := 2, lo := 0, acc := .ro }] },
  { name := "CAT_CMD_RESULT", off := 0x054, dom := .i, fields := [{ hi := 31, lo := 0, acc := .ro }] },
  { name := "CAT_SCRUB", off := 0x058, dom := .d, fields := [{ hi := 15, lo := 0, acc := .rwk, reset := 0x40 }] },
  { name := "CAT_PERR_CNT", off := 0x05C, dom := .i, fields := [{ hi := 31, lo := 0, acc := .ro }] }]

/-- Registers of the class `cat201`. -/
def cat201Regs : List RegD := [
  { name := "CAT_CHAIN", off := 0x040, stride := 0x4, count := 16, dom := .i, fields := [{ hi := 31, lo := 31, acc := .rwk }, { hi := 23, lo := 16, acc := .rwk, reset := 0xff }, { hi := 14, lo := 12, acc := .rwk }, { hi := 11, lo := 6, acc := .rwk }, { hi := 4, lo := 0, acc := .rwk }] }]

/-- Registers of the class `cat202`. -/
def cat202Regs : List RegD := [
  { name := "CAT_ENT_VAL", off := 0x040, stride := 0x4, count := 18, dom := .i, fields := [{ hi := 31, lo := 0, acc := .rwk }] },
  { name := "CAT_ENT_CARE", off := 0x0C0, stride := 0x4, count := 18, dom := .i, fields := [{ hi := 31, lo := 0, acc := .rwk }] },
  { name := "CAT_ENT_META", off := 0x140, dom := .i, fields := [{ hi := 31, lo := 31, acc := .rwk }, { hi := 15, lo := 0, acc := .rwk }] }]

/-- Registers of the class `cat203`. -/
def cat203Regs : List RegD := [
  { name := "CAT_PORT_SRCH", off := 0x040, stride := 0x4, count := 16, dom := .i, fields := [{ hi := 31, lo := 0, acc := .ro }] },
  { name := "CAT_PORT_HIT", off := 0x080, stride := 0x4, count := 16, dom := .i, fields := [{ hi := 31, lo := 0, acc := .ro }] }]

/-- Registers of the class `doc`. -/
def docRegs : List RegD := [
  { name := "DOC_CORE_ACTIVE", off := 0x040, dom := .d, fields := [{ hi := 16, lo := 0, acc := .ro, reset := 0xffff }] },
  { name := "DOC_CORE_BUSY", off := 0x044, dom := .i, fields := [{ hi := 16, lo := 0, acc := .ro }] },
  { name := "DOC_CORE_FENCED", off := 0x048, dom := .d, fields := [{ hi := 16, lo := 0, acc := .ro }] },
  { name := "DOC_SPARE", off := 0x04C, dom := .d, fields := [{ hi := 4, lo := 0, acc := .ro, reset := 0x10 }] },
  { name := "DOC_ICACHE_INV", off := 0x050, dom := .none, fields := [{ hi := 0, lo := 0, acc := .wo }] },
  { name := "DOC_FAULT_CNT", off := 0x054, dom := .i, fields := [{ hi := 31, lo := 0, acc := .ro }] }]

/-- Registers of the class `kpr`. -/
def kprRegs : List RegD := [
  { name := "KPR_RUN", off := 0x040, dom := .d, fields := [{ hi := 3, lo := 0, acc := .rwk, reset := 1 }] },
  { name := "KPR_STAT", off := 0x044, dom := .i, fields := [{ hi := 11, lo := 8, acc := .ro }, { hi := 7, lo := 4, acc := .ro }, { hi := 3, lo := 0, acc := .ro }] },
  { name := "KPR_START", off := 0x048, stride := 0x4, count := 4, dom := .d, fields := [{ hi := 31, lo := 2, acc := .rwk }] },
  { name := "KPR_IRQ_SEL_0", off := 0x058, dom := .d, fields := [{ hi := 20, lo := 0, acc := .rwk, reset := 0x1fffff }] },
  { name := "KPR_IRQ_SEL", off := 0x05C, stride := 0x4, count := 3, dom := .d, fields := [{ hi := 20, lo := 0, acc := .rwk }] },
  { name := "KPR_IRQ_PEND", off := 0x068, dom := .i, fields := [{ hi := 20, lo := 0, acc := .ro }] }]

/-- Registers of the class `rgs232`. -/
def rgs232Regs : List RegD := [
  { name := "RGS_CFG", off := 0x040, dom := .d, fields := [{ hi := 3, lo := 0, acc := .rwk, reset := 2 }] },
  { name := "RGS_LIVE", off := 0x044, dom := .i, fields := [{ hi := 18, lo := 0, acc := .ro }] },
  { name := "RGS_EXEC_LIVE", off := 0x048, dom := .i, fields := [{ hi := 12, lo := 0, acc := .ro }] },
  { name := "RGS_REFUSE", off := 0x04C, dom := .i, fields := [{ hi := 31, lo := 20, acc := .ro }, { hi := 7, lo := 0, acc := .ro }] },
  { name := "RGS_REFUSE_CNT", off := 0x050, dom := .i, fields := [{ hi := 31, lo := 0, acc := .ro }] },
  { name := "RGS_POST_DROP", off := 0x054, dom := .i, fields := [{ hi := 31, lo := 0, acc := .ro }] },
  { name := "RGS_DISPATCH_LO", off := 0x058, dom := .i, fields := [{ hi := 31, lo := 0, acc := .ro }] },
  { name := "RGS_DISPATCH_HI", off := 0x05C, dom := .i, fields := [{ hi := 31, lo := 0, acc := .ro }] },
  { name := "RGS_FENCE_CNT", off := 0x060, dom := .i, fields := [{ hi := 31, lo := 0, acc := .ro }] },
  { name := "RGS_EXEC_CANCEL", off := 0x064, dom := .none, fields := [{ hi := 31, lo := 31, acc := .wo }, { hi := 12, lo := 0, acc := .wo }] },
  { name := "RGS_SLOT_CANCEL", off := 0x068, dom := .none, fields := [{ hi := 31, lo := 31, acc := .wo }, { hi := 17, lo := 0, acc := .wo }] }]

/-- Registers of the class `rgs233`. -/
def rgs233Regs : List RegD := [
  { name := "RGS_CTX_SEL", off := 0x040, dom := .i, fields := [{ hi := 11, lo := 0, acc := .rwk }] },
  { name := "RGS_CTX_CMD", off := 0x044, dom := .i, fields := [{ hi := 31, lo := 31, acc := .ro }, { hi := 11, lo := 8, acc := .ro }, { hi := 1, lo := 0, acc := .rwk }] },
  { name := "RGS_CTX_DATA", off := 0x080, stride := 0x4, count := 32, dom := .i, fields := [{ hi := 31, lo := 0, acc := .rwk }] }]

/-- Registers of the class `rgs235`. -/
def rgs235Regs : List RegD := [
  { name := "RGS_DL_PERIOD", off := 0x040, stride := 0x4, count := 16, dom := .d, fields := [{ hi := 19, lo := 0, acc := .rwk }] },
  { name := "RGS_DL_TICK", off := 0x080, stride := 0x4, count := 16, dom := .i, fields := [{ hi := 31, lo := 0, acc := .ro }] },
  { name := "RGS_DL_DEPTH", off := 0x0C0, stride := 0x4, count := 16, dom := .i, fields := [{ hi := 18, lo := 0, acc := .ro }] }]

/-- Registers of the class `rgs236`. -/
def rgs236Regs : List RegD := [
  { name := "RGS_GAL_OWNER", off := 0x040, stride := 0x4, count := 16, dom := .d, fields := [{ hi := 7, lo := 0, acc := .rwk, reset := 0xff }] },
  { name := "RGS_GAL_DROP", off := 0x080, stride := 0x4, count := 16, dom := .i, fields := [{ hi := 31, lo := 0, acc := .ro }] },
  { name := "RGS_GAL_LOAD", off := 0x0C0, stride := 0x4, count := 16, dom := .i, fields := [{ hi := 9, lo := 0, acc := .ro }] }]

/-- Registers of the class `rgs237`. -/
def rgs237Regs : List RegD := [
  { name := "RGS_LIST_SEL", off := 0x040, dom := .i, fields := [{ hi := 12, lo := 0, acc := .rwk }] },
  { name := "RGS_LIST_DEPTH", off := 0x044, dom := .i, fields := [{ hi := 18, lo := 0, acc := .ro }] },
  { name := "RGS_LIST_WAIT", off := 0x048, dom := .i, fields := [{ hi := 31, lo := 0, acc := .ro }] },
  { name := "RGS_FLOW_SEL", off := 0x04C, dom := .i, fields := [{ hi := 11, lo := 0, acc := .rwk }] },
  { name := "RGS_FLOW_STAT", off := 0x050, dom := .i, fields := [{ hi := 31, lo := 31, acc := .ro }, { hi := 18, lo := 0, acc := .ro }] }]

/-- Registers of the class `drc`. -/
def drcRegs : List RegD := [
  { name := "DRC_TOPO", off := 0x040, dom := .d, fields := [{ hi := 23, lo := 20, acc := .ro }, { hi := 16, lo := 12, acc := .ro }, { hi := 9, lo := 8, acc := .ro }, { hi := 7, lo := 4, acc := .ro }, { hi := 3, lo := 0, acc := .ro }] },
  { name := "DRC_STAT", off := 0x044, dom := .i, fields := [{ hi := 26, lo := 24, acc := .ro }, { hi := 19, lo := 19, acc := .ro }, { hi := 13, lo := 12, acc := .ro }, { hi := 11, lo := 10, acc := .ro }, { hi := 7, lo := 4, acc := .ro }, { hi := 3, lo := 0, acc := .ro }] },
  { name := "DRC_ARB", off := 0x048, dom := .d, fields := [{ hi := 7, lo := 0, acc := .rwk, reset := 8 }] },
  { name := "DRC_SCRUB", off := 0x04C, dom := .d, fields := [{ hi := 15, lo := 0, acc := .rwk, reset := 0x18 }] },
  { name := "DRC_INIT_FRONT", off := 0x050, dom := .i, fields := [{ hi := 31, lo := 31, acc := .ro }, { hi := 24, lo := 0, acc := .ro }] },
  { name := "DRC_RETRAIN", off := 0x054, dom := .i, fields := [{ hi := 31, lo := 31, acc := .ro }, { hi := 0, lo := 0, acc := .w1s }] },
  { name := "DRC_CE_CNT", off := 0x058, dom := .i, fields := [{ hi := 31, lo := 0, acc := .ro }] },
  { name := "DRC_UE_CNT", off := 0x05C, dom := .i, fields := [{ hi := 31, lo := 0, acc := .ro }] },
  { name := "DRC_CA_RETRY", off := 0x060, dom := .i, fields := [{ hi := 31, lo := 0, acc := .ro }] },
  { name := "DRC_RT_PREEMPT", off := 0x064, dom := .i, fields := [{ hi := 31, lo := 0, acc := .ro }] },
  { name := "DRC_INIT_SKIP", off := 0x068, dom := .d, fields := [{ hi := 31, lo := 31, acc := .w1s }, { hi := 24, lo := 0, acc := .rwk }] }]

/-- Registers of the class `sce`. -/
def sceRegs : List RegD := [
  { name := "SCE_LOCK", off := 0x040, dom := .i, fields := [{ hi := 31, lo := 31, acc := .wo }, { hi := 30, lo := 30, acc := .wo }, { hi := 8, lo := 8, acc := .ro }, { hi := 7, lo := 0, acc := .ro, reset := 0xff }] },
  { name := "SCE_CTRL", off := 0x044, dom := .i, fields := [{ hi := 31, lo := 31, acc := .rwk }, { hi := 27, lo := 24, acc := .rwk }, { hi := 23, lo := 23, acc := .rwk }, { hi := 22, lo := 22, acc := .rwk }, { hi := 5, lo := 0, acc := .rwk }] },
  { name := "SCE_STAT", off := 0x048, dom := .i, fields := [{ hi := 31, lo := 31, acc := .ro }, { hi := 7, lo := 0, acc := .ro }] },
  { name := "SCE_MSG_LEN", off := 0x04C, dom := .i, fields := [{ hi := 31, lo := 0, acc := .rwk }] },
  { name := "SCE_AAD_LEN", off := 0x050, dom := .i, fields := [{ hi := 31, lo := 0, acc := .rwk }] },
  { name := "SCE_FORCE", off := 0x054, dom := .none, fields := [{ hi := 31, lo := 16, acc := .wo }, { hi := 0, lo := 0, acc := .wo }] },
  { name := "SCE_INVOC", off := 0x058, dom := .i, fields := [{ hi := 31, lo := 0, acc := .ro }] },
  { name := "SCE_SRC_LO", off := 0x060, dom := .i, fields := [{ hi := 31, lo := 0, acc := .rwk }] },
  { name := "SCE_SRC_HI", off := 0x064, dom := .i, fields := [{ hi := 15, lo := 0, acc := .rwk }] },
  { name := "SCE_DST_LO", off := 0x068, dom := .i, fields := [{ hi := 31, lo := 0, acc := .rwk }] },
  { name := "SCE_DST_HI", off := 0x06C, dom := .i, fields := [{ hi := 15, lo := 0, acc := .rwk }] },
  { name := "SCE_AAD_LO", off := 0x070, dom := .i, fields := [{ hi := 31, lo := 0, acc := .rwk }] },
  { name := "SCE_AAD_HI", off := 0x074, dom := .i, fields := [{ hi := 15, lo := 0, acc := .rwk }] },
  { name := "SCE_IV", off := 0x080, stride := 0x4, count := 4, dom := .i, fields := [{ hi := 31, lo := 0, acc := .rwk }] },
  { name := "SCE_TAG", off := 0x090, stride := 0x4, count := 4, dom := .i, fields := [{ hi := 31, lo := 0, acc := .rwk }] }]

/-- Registers of the class `dge`. -/
def dgeRegs : List RegD := [
  { name := "DGE_CTRL", off := 0x040, stride := 0x40, count := 2, dom := .i, fields := [{ hi := 31, lo := 31, acc := .rwk }, { hi := 30, lo := 28, acc := .rwk }, { hi := 27, lo := 24, acc := .rwk }, { hi := 23, lo := 23, acc := .rwk }, { hi := 22, lo := 22, acc := .rwk }, { hi := 21, lo := 21, acc := .rwk }, { hi := 5, lo := 0, acc := .rwk }] },
  { name := "DGE_STAT", off := 0x044, stride := 0x40, count := 2, dom := .i, fields := [{ hi := 31, lo := 31, acc := .ro }, { hi := 7, lo := 0, acc := .ro }] },
  { name := "DGE_SRC_LO", off := 0x048, stride := 0x40, count := 2, dom := .i, fields := [{ hi := 31, lo := 0, acc := .rwk }] },
  { name := "DGE_SRC_HI", off := 0x04C, stride := 0x40, count := 2, dom := .i, fields := [{ hi := 15, lo := 0, acc := .rwk }] },
  { name := "DGE_LEN_LO", off := 0x050, stride := 0x40, count := 2, dom := .i, fields := [{ hi := 31, lo := 0, acc := .rwk }] },
  { name := "DGE_LEN_HI", off := 0x054, stride := 0x40, count := 2, dom := .i, fields := [{ hi := 15, lo := 0, acc := .rwk }] },
  { name := "DGE_REC_LO", off := 0x058, stride := 0x40, count := 2, dom := .i, fields := [{ hi := 31, lo := 0, acc := .rwk }] },
  { name := "DGE_REC_HI", off := 0x05C, stride := 0x40, count := 2, dom := .i, fields := [{ hi := 15, lo := 0, acc := .rwk }] },
  { name := "DGE_DATA", off := 0x060, stride := 0x40, count := 2, dom := .i, fields := [{ hi := 31, lo := 0, acc := .wo }] },
  { name := "DGE_LAST_CNT", off := 0x064, stride := 0x40, count := 2, dom := .i, fields := [{ hi := 2, lo := 0, acc := .rwk, reset := 4 }] },
  { name := "DGE_LAST", off := 0x068, stride := 0x40, count := 2, dom := .i, fields := [{ hi := 31, lo := 0, acc := .wo }] },
  { name := "DGE_OUT_0", off := 0x100, stride := 0x4, count := 16, dom := .i, fields := [{ hi := 31, lo := 0, acc := .ro }] },
  { name := "DGE_OUT_1", off := 0x140, stride := 0x4, count := 16, dom := .i, fields := [{ hi := 31, lo := 0, acc := .ro }] }]

/-- Registers of the class `key250`. -/
def key250Regs : List RegD := [
  { name := "KEY_CMD", off := 0x040, dom := .i, fields := [{ hi := 31, lo := 31, acc := .rwk }, { hi := 30, lo := 28, acc := .rwk }, { hi := 27, lo := 27, acc := .rwk }, { hi := 26, lo := 25, acc := .rwk }, { hi := 23, lo := 16, acc := .rwk }, { hi := 9, lo := 0, acc := .rwk }] },
  { name := "KEY_STAT", off := 0x044, dom := .i, fields := [{ hi := 31, lo := 31, acc := .ro }, { hi := 7, lo := 0, acc := .ro }] },
  { name := "KEY_SLOT_INFO", off := 0x048, dom := .i, fields := [{ hi := 31, lo := 31, acc := .ro }, { hi := 30, lo := 30, acc := .ro }, { hi := 29, lo := 29, acc := .ro }, { hi := 28, lo := 27, acc := .ro }, { hi := 23, lo := 16, acc := .ro }] },
  { name := "KEY_FIXED_LO", off := 0x04C, dom := .i, fields := [{ hi := 31, lo := 0, acc := .ro }] },
  { name := "KEY_FIXED_HI", off := 0x050, dom := .i, fields := [{ hi := 31, lo := 0, acc := .ro }] },
  { name := "KEY_INVOC", off := 0x054, dom := .i, fields := [{ hi := 31, lo := 0, acc := .ro }] },
  { name := "KEY_ROLLBACK", off := 0x058, dom := .p, fields := [{ hi := 5, lo := 0, acc := .rwk }] },
  { name := "KEY_WRAP", off := 0x080, stride := 0x4, count := 22, dom := .i, fields := [{ hi := 31, lo := 0, acc := .rwk }] }]

/-- Registers of the class `key251`. -/
def key251Regs : List RegD := [
  { name := "KEY_MEDIA_VALID", off := 0x040, stride := 0x4, count := 32, dom := .i, fields := [{ hi := 31, lo := 0, acc := .ro }] },
  { name := "KEY_SCE_VALID", off := 0x0C0, stride := 0x4, count := 2, dom := .i, fields := [{ hi := 31, lo := 0, acc := .ro }] },
  { name := "KEY_PK_REVOKE", off := 0x0D0, dom := .p, fields := [{ hi := 3, lo := 0, acc := .rwk }] },
  { name := "KEY_PKH_0", off := 0x100, stride := 0x4, count := 12, dom := .p, fields := [{ hi := 31, lo := 0, acc := .ro }] },
  { name := "KEY_PKH_1", off := 0x130, stride := 0x4, count := 12, dom := .p, fields := [{ hi := 31, lo := 0, acc := .ro }] },
  { name := "KEY_PKH_2", off := 0x160, stride := 0x4, count := 12, dom := .p, fields := [{ hi := 31, lo := 0, acc := .ro }] },
  { name := "KEY_PKH_3", off := 0x190, stride := 0x4, count := 12, dom := .p, fields := [{ hi := 31, lo := 0, acc := .ro }] }]

/-- Registers of the class `alm`. -/
def almRegs : List RegD := [
  { name := "ALM_STAT", off := 0x040, dom := .d, fields := [{ hi := 31, lo := 31, acc := .ro }, { hi := 8, lo := 8, acc := .ro }, { hi := 4, lo := 0, acc := .ro }] },
  { name := "ALM_LIVE", off := 0x044, dom := .d, fields := [{ hi := 4, lo := 0, acc := .ro }] },
  { name := "ALM_REARM", off := 0x048, dom := .d, fields := [{ hi := 31, lo := 31, acc := .rwk }, { hi := 7, lo := 0, acc := .ro }] },
  { name := "ALM_COUNT", off := 0x04C, dom := .d, fields := [{ hi := 7, lo := 0, acc := .ro }] },
  { name := "ALM_LAST", off := 0x050, dom := .p, fields := [{ hi := 15, lo := 8, acc := .ro }, { hi := 7, lo := 0, acc := .ro, reset := 0xff }] },
  { name := "ALM_LAST_TSC_LO", off := 0x054, dom := .p, fields := [{ hi := 31, lo := 0, acc := .ro }] },
  { name := "ALM_LAST_TSC_HI", off := 0x058, dom := .p, fields := [{ hi := 31, lo := 0, acc := .ro }] }]

/-- Registers of the class `mbx252`. -/
def mbx252Regs : List RegD := [
  { name := "MBX_REFUSED_CNT", off := 0x040, dom := .d, fields := [{ hi := 31, lo := 0, acc := .ro }] },
  { name := "MBX_DROP_CNT", off := 0x044, dom := .d, fields := [{ hi := 31, lo := 0, acc := .ro }] },
  { name := "MBX_TIMEOUT_CNT", off := 0x048, dom := .d, fields := [{ hi := 31, lo := 0, acc := .ro }] },
  { name := "MBX_RECALL", off := 0x04C, dom := .none, fields := [{ hi := 31, lo := 31, acc := .wo }, { hi := 8, lo := 0, acc := .wo }] }]

/-- Registers of the class `mbx`. -/
def mbxRegs : List RegD := [
  { name := "MBX_CFG", off := 0x100, stride := 0x8, count := 128, dom := .d, fields := [{ hi := 31, lo := 30, acc := .rwk }, { hi := 19, lo := 16, acc := .rwk }, { hi := 15, lo := 0, acc := .rwk }] },
  { name := "MBX_STAT", off := 0x104, stride := 0x8, count := 128, dom := .d, fields := [{ hi := 31, lo := 31, acc := .ro }, { hi := 30, lo := 30, acc := .ro }, { hi := 23, lo := 0, acc := .ro }] }]

/-- Registers of the class `mon`. -/
def monRegs : List RegD := [
  { name := "MON_CFG", off := 0x800, stride := 0x80, count := 16, dom := .i, fields := [{ hi := 31, lo := 31, acc := .rwk }, { hi := 16, lo := 16, acc := .rwk }, { hi := 15, lo := 8, acc := .rwk }, { hi := 7, lo := 0, acc := .rwk }] },
  { name := "MON_BIN", off := 0x804, stride := 0x80, count := 16, dom := .i, fields := [{ hi := 31, lo := 8, acc := .rwk }, { hi := 4, lo := 0, acc := .rwk }] },
  { name := "MON_PERIOD", off := 0x808, stride := 0x80, count := 16, dom := .i, fields := [{ hi := 15, lo := 0, acc := .rwk }] },
  { name := "MON_CLR", off := 0x80C, stride := 0x80, count := 16, dom := .i, fields := [{ hi := 0, lo := 0, acc := .wo }] },
  { name := "MON_COUNT_LO", off := 0x810, stride := 0x80, count := 16, dom := .i, fields := [{ hi := 31, lo := 0, acc := .ro }] },
  { name := "MON_COUNT_HI", off := 0x814, stride := 0x80, count := 16, dom := .i, fields := [{ hi := 31, lo := 0, acc := .ro }] },
  { name := "MON_SUM_LO", off := 0x818, stride := 0x80, count := 16, dom := .i, fields := [{ hi := 31, lo := 0, acc := .ro }] },
  { name := "MON_SUM_HI", off := 0x81C, stride := 0x80, count := 16, dom := .i, fields := [{ hi := 31, lo := 0, acc := .ro }] },
  { name := "MON_MIN", off := 0x820, stride := 0x80, count := 16, dom := .i, fields := [{ hi := 31, lo := 0, acc := .ro, reset := 0xffffffff }] },
  { name := "MON_MAX", off := 0x824, stride := 0x80, count := 16, dom := .i, fields := [{ hi := 31, lo := 0, acc := .ro }] },
  { name := "MON_BIN_0", off := 0x828, stride := 0x80, count := 16, dom := .i, fields := [{ hi := 31, lo := 0, acc := .ro }] },
  { name := "MON_BIN_1", off := 0x82C, stride := 0x80, count := 16, dom := .i, fields := [{ hi := 31, lo := 0, acc := .ro }] },
  { name := "MON_BIN_2", off := 0x830, stride := 0x80, count := 16, dom := .i, fields := [{ hi := 31, lo := 0, acc := .ro }] },
  { name := "MON_BIN_3", off := 0x834, stride := 0x80, count := 16, dom := .i, fields := [{ hi := 31, lo := 0, acc := .ro }] },
  { name := "MON_BIN_4", off := 0x838, stride := 0x80, count := 16, dom := .i, fields := [{ hi := 31, lo := 0, acc := .ro }] },
  { name := "MON_BIN_5", off := 0x83C, stride := 0x80, count := 16, dom := .i, fields := [{ hi := 31, lo := 0, acc := .ro }] },
  { name := "MON_BIN_6", off := 0x840, stride := 0x80, count := 16, dom := .i, fields := [{ hi := 31, lo := 0, acc := .ro }] },
  { name := "MON_BIN_7", off := 0x844, stride := 0x80, count := 16, dom := .i, fields := [{ hi := 31, lo := 0, acc := .ro }] },
  { name := "MON_BIN_8", off := 0x848, stride := 0x80, count := 16, dom := .i, fields := [{ hi := 31, lo := 0, acc := .ro }] },
  { name := "MON_BIN_9", off := 0x84C, stride := 0x80, count := 16, dom := .i, fields := [{ hi := 31, lo := 0, acc := .ro }] },
  { name := "MON_BIN_10", off := 0x850, stride := 0x80, count := 16, dom := .i, fields := [{ hi := 31, lo := 0, acc := .ro }] },
  { name := "MON_BIN_11", off := 0x854, stride := 0x80, count := 16, dom := .i, fields := [{ hi := 31, lo := 0, acc := .ro }] },
  { name := "MON_BIN_12", off := 0x858, stride := 0x80, count := 16, dom := .i, fields := [{ hi := 31, lo := 0, acc := .ro }] },
  { name := "MON_BIN_13", off := 0x85C, stride := 0x80, count := 16, dom := .i, fields := [{ hi := 31, lo := 0, acc := .ro }] },
  { name := "MON_BIN_14", off := 0x860, stride := 0x80, count := 16, dom := .i, fields := [{ hi := 31, lo := 0, acc := .ro }] },
  { name := "MON_BIN_15", off := 0x864, stride := 0x80, count := 16, dom := .i, fields := [{ hi := 31, lo := 0, acc := .ro }] },
  { name := "MON_LAST", off := 0x868, stride := 0x80, count := 16, dom := .i, fields := [{ hi := 31, lo := 0, acc := .ro }] }]

/-- Registers of the class `pmc256`. -/
def pmc256Regs : List RegD := [
  { name := "PMC_SEL", off := 0x040, dom := .i, fields := [{ hi := 12, lo := 12, acc := .rwk }, { hi := 11, lo := 8, acc := .rwk }, { hi := 4, lo := 0, acc := .rwk }] },
  { name := "PMC_EVSEL_LO", off := 0x048, dom := .i, fields := [{ hi := 31, lo := 0, acc := .rwk }] },
  { name := "PMC_EVSEL_HI", off := 0x04C, dom := .i, fields := [{ hi := 31, lo := 0, acc := .rwk }] },
  { name := "PMC_CYC_LO", off := 0x050, dom := .i, fields := [{ hi := 31, lo := 0, acc := .ro }] },
  { name := "PMC_CYC_HI", off := 0x054, dom := .i, fields := [{ hi := 31, lo := 0, acc := .ro }] },
  { name := "PMC_CNT_LO", off := 0x058, stride := 0x8, count := 8, dom := .i, fields := [{ hi := 31, lo := 0, acc := .ro }] },
  { name := "PMC_CNT_HI", off := 0x05C, stride := 0x8, count := 8, dom := .i, fields := [{ hi := 15, lo := 0, acc := .ro }] },
  { name := "PMC_OVF", off := 0x098, dom := .i, fields := [{ hi := 7, lo := 0, acc := .w1c }] },
  { name := "PMC_CLR", off := 0x09C, dom := .none, fields := [{ hi := 8, lo := 8, acc := .wo }, { hi := 7, lo := 0, acc := .wo }] }]

/-- Registers of the class `pmc257`. -/
def pmc257Regs : List RegD := [
  { name := "PMC_SAMPLE_CORES", off := 0x040, stride := 0x10, count := 16, dom := .i, fields := [{ hi := 16, lo := 0, acc := .rwk }] },
  { name := "PMC_SAMPLE_PER", off := 0x044, stride := 0x10, count := 16, dom := .i, fields := [{ hi := 19, lo := 0, acc := .rwk }] },
  { name := "PMC_RING_HEAD", off := 0x048, stride := 0x10, count := 16, dom := .i, fields := [{ hi := 31, lo := 0, acc := .ro }] }]

/-- Registers of the class `pwr`. -/
def pwrRegs : List RegD := [
  { name := "PWR_STATE", off := 0x040, dom := .d, fields := [{ hi := 10, lo := 10, acc := .ro }, { hi := 8, lo := 8, acc := .ro }, { hi := 6, lo := 4, acc := .ro }, { hi := 2, lo := 0, acc := .ro }] },
  { name := "PWR_RESET_CAUSE", off := 0x044, dom := .p, fields := [{ hi := 5, lo := 5, acc := .ro }, { hi := 4, lo := 4, acc := .ro }, { hi := 3, lo := 3, acc := .ro }, { hi := 2, lo := 2, acc := .ro }, { hi := 0, lo := 0, acc := .ro, reset := 1 }] },
  { name := "PWR_DEV_RESET", off := 0x048, dom := .none, fields := [{ hi := 31, lo := 16, acc := .wo }, { hi := 0, lo := 0, acc := .wo }] },
  { name := "PWR_KWDOG", off := 0x04C, dom := .d, fields := [{ hi := 31, lo := 31, acc := .wo }, { hi := 15, lo := 0, acc := .rwk, reset := 0x3e8 }] },
  { name := "PWR_GPIO_OE", off := 0x050, dom := .d, fields := [{ hi := 15, lo := 0, acc := .rwk }] },
  { name := "PWR_GPIO_OUT", off := 0x054, dom := .d, fields := [{ hi := 15, lo := 0, acc := .rwk }] },
  { name := "PWR_GPIO_IN", off := 0x058, dom := .d, fields := [{ hi := 15, lo := 0, acc := .ro }] },
  { name := "PWR_ISL", off := 0x100, stride := 0x4, count := 42, dom := .d, fields := [{ hi := 0, lo := 0, acc := .rwk }] }]

/-- Registers of the class `tsc`. -/
def tscRegs : List RegD := [
  { name := "TSC_LO", off := 0x040, dom := .p, fields := [{ hi := 31, lo := 0, acc := .ro }] },
  { name := "TSC_HI", off := 0x044, dom := .p, fields := [{ hi := 31, lo := 0, acc := .ro }] }]

end Sys2Proof.Machine
end

