-- ==== Sys2Proof/Machine/CoreTypes.lean ====
section
/-! DEFINITION. State of the cores and galleries (chapter 09), of programs and the Registrar (chapter 10), of the Catalogue (chapter 11) and of the mailboxes and counters (chapter 14). -/

namespace Sys2Proof.Machine

/-- A product on its way to MLO and MHI (R379, R380). -/
structure Product where
  /-- The core cycle at which it lands. -/
  lands : Nat
  lo : BitVec 512
  hi : BitVec 512
deriving DecidableEq, Repr

/-- A core: Docent or keeper (R358, R404, R586). Index registers are held in 48 bits; a Docent core uses the low 32. -/
structure Core where
  /-- Accumulator, 512 bits (R358). 0 at dispatch (R359). -/
  a : BitVec 512 := 0
  /-- Index registers X and Y (R358). -/
  x : BitVec 48 := 0
  y : BitVec 48 := 0
  /-- Context base G (R358). -/
  g : BitVec 48 := 0
  /-- Address of the current instruction (R358). -/
  pc : BitVec 48 := 0
  /-- Link register (R358). -/
  lk : BitVec 48 := 0
  /-- FL.flags: Z, N, C, V (R358, R364). -/
  z : Bool := false
  n : Bool := false
  c : Bool := false
  v : Bool := false
  /-- FL.mask, 64 bits (R358, R363). -/
  mask : BitVec 64 := 0
  /-- MLO and MHI, 512 bits each (R358, R379). -/
  mlo : BitVec 512 := 0
  mhi : BitVec 512 := 0
  /-- Core clock cycles so far: the time base of R380. -/
  cycle : Nat := 0
  /-- Products that have not landed, oldest first (R380). -/
  products : List Product := []
  /-- The instruction at PC waits (R369, R387, R391, R408). -/
  stalled : Bool := false
  /-- EPC, EFL, EMASK, ECAUSE, EADDR, IEN, VBASE of keeper mode (R404). Reset 0. -/
  epc : BitVec 48 := 0
  efl : BitVec 4 := 0
  emask : BitVec 64 := 0
  ecause : BitVec 32 := 0
  eaddr : BitVec 48 := 0
  ien : Bool := false
  vbase : BitVec 48 := 0
  /-- KPR_STAT.running, waiting, halted (R413). Reset 0. -/
  running : Bool := false
  waiting : Bool := false
  halted : Bool := false
  /-- The ticket slot a Docent core serves (R438), and the domain of its last ticket (R439). -/
  serving : Option Nat := none
  lastDomain : Nat := 0xFF
  /-- A stop has been sent to it, at this TSC (R453, R455). -/
  stopAt : Option Nat := none
  /-- Search key, 576 bits (R472). 0 at dispatch. -/
  key : BitVec 576 := 0
  /-- A search is outstanding: its RESULT word when it comes back (R474, R477). -/
  searching : Option Word := none
  /-- RESULT of the last search (R391). None: no search started. -/
  result : Option Word := none
  /-- POST_RESULT (R582). 0 at dispatch. -/
  postResult : Word := 0
  /-- Cycle counter, 64 bits (R586). -/
  pmcCycles : Nat := 0
  /-- Programmable counters 0 to 7, 48 bits (R586). -/
  pmc : Tab Nat := []
  /-- Events selected, counters 0 to 7 (R587). -/
  pmcSel : Tab Nat := []
  /-- PMC_OVF (R586). Reset 0. -/
  pmcOvf : BitVec 8 := 0
  /-- Instructions left to the next sample (R590). -/
  sampleLeft : Nat := 0
deriving DecidableEq, Repr

/-- A half of a stream window (R386 to R390). -/
structure Half where
  filled : Bool := false
  err : Bool := false
  /-- The core that holds it. -/
  holder : Option Nat := none
  data : List Byte := []
  /-- Order of filling (R447). -/
  order : Nat := 0
deriving DecidableEq, Repr

/-- A stream window (R386). -/
structure Window where
  /-- The move slot bound to it (R447). -/
  bound : Option Nat := none
  ended : Bool := false
  half0 : Half := {}
  half1 : Half := {}
  /-- Halves filled so far. -/
  fills : Nat := 0
deriving DecidableEq, Repr

/-- A gallery (R411, R459). -/
structure Gallery where
  cores : Tab Core := []
  windows : Tab Window := []
  /-- DOC_CORE_ACTIVE (R411). Reset 0x0_FFFF. -/
  active : List Nat := [0, 1, 2, 3, 4, 5, 6, 7, 8, 9, 10, 11, 12, 13, 14, 15]
  /-- DOC_CORE_FENCED (R411). Reset 0. -/
  fenced : List Nat := []
  /-- DOC_SPARE (R411). Reset 16; none: 0x1F. -/
  spare : Option Nat := some 16
  /-- Cores that failed the last self-test (R459). -/
  failedTest : List Nat := []
  /-- Instruction cache lines invalidated since the last fetch (R371, R411). -/
  icacheInvs : Nat := 0
  /-- RGS_GAL_DROP capture made since arming (R458). -/
  dropCaptured : Bool := false
deriving DecidableEq, Repr

/-- How a live slot stands (R431). -/
inductive SlotState where
  | held (arrived : Nat)
  | delayed (list expiry : Nat)
  | flowWaiting
  | ready (since : Nat)
  | inService (g k : Nat)
  | moving
deriving DecidableEq, Repr

/-- A live ticket (R426, R431). -/
structure Ticket where
  /-- The descriptor as accepted, 64 bytes, with slot and priority as resolved. -/
  desc : List Byte
  state : SlotState
  /-- The execution it belongs to; 0 for keeper tickets (R428). -/
  exec : Nat
  /-- Times it has been re-dispatched (R457). -/
  redispatched : Nat := 0
  /-- Acceptance order (R443). -/
  order : Nat := 0
  /-- TSC of its dispatch (R455). -/
  dispatched : Nat := 0
deriving DecidableEq, Repr

/-- A move in a slot (R446 to R449). -/
structure Move where
  kind : Nat
  ctx : Nat
  exec : Nat
  gallery : Nat
  window : Nat
  recLen : Nat
  nsid : Nat
  src : Nat
  length : Nat
  dst : Nat
  post : Option Nat
  /-- Bytes delivered so far, halves that failed, and the end (R447, R448). -/
  delivered : Nat := 0
  failedHalves : Nat := 0
  ended : Bool := false
  /-- An out-move has started (R453), and the order of acceptance. -/
  started : Bool := false
  order : Nat := 0
  /-- The stream has been stopped by a cancellation (R453). -/
  stopped : Bool := false
deriving DecidableEq, Repr

/-- A flow (R441). -/
structure Flow where
  busy : Option Nat := none
  queue : List Nat := []
deriving DecidableEq, Repr

/-- Why an execution was cancelled (R453, R454). -/
inductive CancelCause where
  | endFF | runLimit | register | registrarReset | controllerReset | sanitize
deriving DecidableEq, Repr

/-- An execution record (R450 to R454). -/
structure Execution where
  ref : CmdRef
  ctx : Nat
  root : Nat
  start : Nat
  failed : Nat := 0
  lastStatus : Nat := 0
  cancel : Option CancelCause := none
deriving DecidableEq, Repr

/-- A fault record of log 0xC9 (R398, R461). -/
structure FaultRecord where
  code : Nat
  sub : Nat
  gallery : Nat
  core : Nat
  pc : Nat
  instr : Nat
  ea : Nat
  tsc : Nat
  slot : Nat
deriving DecidableEq, Repr

/-- A delay list (R442 to R444). -/
structure DelayList where
  base : Nat := 0
  /-- Tick counter, 32 bits. -/
  ticks : Nat := 0
  /-- Ticks since the base, not wrapped. -/
  total : Nat := 0
deriving DecidableEq, Repr

/-- A loaded program (R421 to R423). -/
structure Program where
  image : List Byte
  /-- Code area address (gallery mode) and length of code and read-only sections. -/
  base : Nat
  size : Nat
  /-- Section addresses, by section number. -/
  sections : List Nat
  /-- Context while active (R423). -/
  ctx : Option Nat := none
  /-- Shared data range while active: gallery-mode address and length. -/
  data : Nat := 0
  dataLen : Nat := 0
  /-- The Deactivate command that waits for its executions (R417). -/
  stopping : Option CmdRef := none
deriving DecidableEq, Repr

/-- A memory range set (R420): namespace, ranges as (start, length). -/
structure RangeSet where
  nsid : Nat
  ranges : List (Nat × Nat)
deriving DecidableEq, Repr

/-- An Execute Program that waits unstarted (R450). -/
structure ExecWait where
  ref : CmdRef
  nsid : Nat
  program : Nat
  rangeSet : Nat
  params : List Byte
deriving DecidableEq, Repr

/-- The Registrar and the programs. -/
structure Registrar where
  /-- Live slots (R431). -/
  tickets : Tab Ticket := []
  moves : Tab Move := []
  /-- Ready lists, by set × 8 + priority (R434). -/
  lists : Tab (List Nat) := []
  flows : Tab Flow := []
  delays : Tab DelayList := []
  /-- Context records, 128 bytes each (R424). Domain D. -/
  contexts : Tab (List Byte) := []
  /-- Executions 1 to 8,191 (R450). -/
  execs : Tab Execution := []
  waiting : List ExecWait := []
  /-- The gallery chosen last (R436), and the list set served last at each priority (R435). Reset 0 (DESIGN CHOICE, log 14). -/
  lastGallery : Nat := 0
  lastSet : Tab Nat := []
  nextOrder : Nat := 0
  /-- Log 0xC9, newest first, 1,024 records, and records ever (R461). -/
  faults : List FaultRecord := []
  faultTotal : Nat := 0
  /-- Loaded programs by NSID × 64 + index (R420). -/
  programs : Tab Program := []
  rangeSets : Tab RangeSet := []
  nextRangeSet : Nat := 1
  /-- Busy core time of each gallery over the last 1 ms, in 1/1,000 (R463). -/
  loads : Tab Nat := []
deriving DecidableEq, Repr

/-- A row of a Catalogue bank (R465). -/
structure CatRow where
  value : BitVec 144 := 0
  care : BitVec 144 := 0
  valid : Bool := false
  tag : Nat := 0
  /-- The entry was invalidated by a parity failure and has not been rewritten (R483, R484). -/
  mark : Bool := false
deriving DecidableEq, Repr

/-- The Catalogue (R465 to R489). Its chain registers and staging registers stand among the page registers. -/
structure Catalogue where
  /-- Rows by bank × 4096 + row. -/
  rows : Tab CatRow := []
  /-- The command that runs: op, chain and, for an invalidate-tag, the tag it was given (R479, R481). -/
  running : Option (Nat × Nat × Nat) := none
  /-- Rows done by an invalidate-tag (R481). -/
  progress : Nat := 0
  /-- The next row the scrub reads (R482). Reset 0 (DESIGN CHOICE, log 15). -/
  scrubRow : Nat := 0
deriving DecidableEq, Repr

/-- A mailbox channel (R571). Its configuration stands in MBX_CFG_n. -/
structure Mailbox where
  word : Word
  /-- Bits [55:32] of R574: block, instance, core. -/
  stamp : Nat
  timedOut : Bool := false
  /-- TSC from which the timeout runs (R575, R592). -/
  since : Nat
deriving DecidableEq, Repr

end Sys2Proof.Machine
end

