-- ==== Sys2Proof/Machine/HostTypes.lean ====
section
/-! DEFINITION. State of the islands, crossings and register pages (chapters 01, 02, 15) and of the host link, the NVMe controllers and the admin side (chapters 03, 04). -/

namespace Sys2Proof.Machine

/-- A request that stands in a crossing (R22 to R27). -/
structure CrossReq where
  id : Nat
  src : Island
  dst : Island
  /-- The requester's re-initialisation count when it sent the request (R28). -/
  epoch : Nat
  op : CrossOp
  place : CrossPlace
  /-- The keeper core that sent a page access; no core: the island itself. -/
  core : Option Nat := none
deriving DecidableEq, Repr

/-- A response on its way back through a crossing (R22, R25, R28): the R59 code (0: none), whether it answers a read, and the
data read. -/
structure CrossResp where
  id : Nat
  dest : Island
  epoch : Nat
  error : Nat
  /-- It answers a read: data of all ones stands for an error (R640). -/
  read : Bool
  data : List Byte
deriving DecidableEq, Repr

/-- The common header of one register page, held in the ALWAYS-ON mirror (R48 to R58). -/
structure PageHdr where
  /-- PG_CTRL.enable (R48). Reset 1. -/
  enable : Bool := true
  /-- PG_CTRL.lock (R50). Reset 0. -/
  lock : Bool := false
  /-- PG_CTRL.quiesce_req (R52). Reset 0. -/
  quiesceReq : Bool := false
  /-- PG_STAT.ready. Reset 0. -/
  ready : Bool := false
  /-- PG_STAT.quiesced. Reset 0. -/
  quiesced : Bool := false
  /-- PG_STAT.fenced, domain D (R55). Reset 0. -/
  fenced : Bool := false
  /-- PG_STAT.busy and PG_CTRL.reinit: re-initialisation in progress. Reset 0. -/
  busy : Bool := false
  /-- PG_IRQ_STAT (R56). Reset 0. -/
  irqStat : Word := 0
  /-- PG_IRQ_EN (R56). Reset 0. -/
  irqEn : Word := 0
  /-- PG_ERR_CAP.code (R57). Reset 0. -/
  errCode : Nat := 0
  /-- PG_ERR_CAP.count, saturating at 0xFFFF (R57). Reset 0. -/
  errCount : Nat := 0
  /-- PG_ERR_ADDR, 48 bits (R58). Reset 0. -/
  errAddr : Nat := 0
  /-- PG_SCRATCH, domain D. Reset 0. -/
  scratch : Word := 0
deriving DecidableEq, Repr

/-- Clock and power of one island, by its sensor number (R302, R596, R304). -/
structure IslandHdr where
  /-- PG_PWR.state: 0 off, 1 powering up, 2 on, 3 clock-gated, 4 powering down (R596). Reset 2. -/
  power : Nat := 2
  /-- PG_PWR.wake_pending (R24, R577). Reset 0. -/
  wakePending : Bool := false
  /-- The level the utilisation DVFS has chosen (R308). Reset 0. -/
  utilLevel : Nat := 0
  /-- The level the thermal loop holds (R306). Reset 0. -/
  thermLevel : Nat := 0
  /-- The level the NVMe power state holds it at (R600). Reset 0. -/
  psLevel : Nat := 0
  /-- Re-initialisations so far: tells a stale response (R28). Reset 0. -/
  epoch : Nat := 0
  /-- Automatic re-initialisations of the last 3,600 s, by TSC (R613). Reset none. -/
  autoReinits : List Nat := []
  /-- Ageing adjustment of the supply setpoint in mV, 0 to 30 (R619). Reset 0. -/
  ageMv : Nat := 0
deriving DecidableEq, Repr

/-- Islands, crossings and pages. -/
structure Fabric where
  /-- Requests that wait in crossings, in the order sent (R23). Reset none. -/
  requests : List CrossReq := []
  /-- Responses on their way (R22). Reset none. -/
  responses : List CrossResp := []
  /-- Page headers by page number (R48); an unlisted page has the reset header. -/
  pages : Tab PageHdr := []
  /-- Islands by sensor number (R302); an unlisted island has the reset values. -/
  islands : Tab IslandHdr := []
  /-- Block registers, by page × 4096 + offset, that differ from their reset value (R43). -/
  regs : Tab Word := []
  /-- Latched high halves, by the address of the _HI register (R58, R65, R288, R622). -/
  latches : Tab Word := []
  /-- The highest TSC value that a read has returned (R21). The model's own. -/
  tscSeen : Nat := 0
deriving DecidableEq, Repr

/-- What a non-posted request of the device to the host is for (R78). -/
inductive ReqCause where
  | sqe (ctl sq : Nat)
  | data (ref : CmdRef)
deriving DecidableEq, Repr

/-- A non-posted request outstanding on a sub-link (R76 to R78, R643). `ended` is set once a reset has ended it. -/
structure LinkReq where
  tag : Nat
  ctl : Nat
  cause : ReqCause
  ended : Bool
deriving DecidableEq, Repr

/-- One sub-link of a port (R68, R72 to R77, R86). -/
structure SubLink where
  /-- HIF_LINK_STAT.rate: 0 down, 1 to 6 (R86). Reset 0. -/
  rate : Nat := 0
  /-- HIF_LINK_STAT.width: lanes in use (R86). Reset 0. -/
  width : Nat := 0
  /-- HIF_LINK_STAT.flit. Reset 0. -/
  flit : Bool := false
  /-- HIF_LINK_STAT.reversed. Reset 0. -/
  reversed : Bool := false
  /-- HIF_LINK_STAT.width_degraded. Reset 0. -/
  degraded : Bool := false
  /-- HIF_LINK_STAT.pm_state: 0 L0, 1 L1, 2 L1.2. Reset 0. -/
  pm : Nat := 0
  /-- The link is in Detect or training (R599). Reset 0. -/
  training : Bool := false
  /-- Outstanding non-posted requests, at most 8,192 (R76). Reset none. -/
  reqs : List LinkReq := []
  /-- The next tag tried (R76). Reset 0 (DESIGN CHOICE, log 3). -/
  nextTag : Nat := 0
deriving DecidableEq, Repr

/-- A submission queue (R94, R99, R107). -/
structure Sq where
  /-- Entries, not 0's-based. -/
  size : Nat
  /-- The CQ it is attached to (R99). -/
  cqid : Nat
  /-- QPRIO: 0 urgent, 1 high, 2 medium, 3 low (R104, R294). -/
  prio : Nat
  /-- Index of the next entry to fetch. -/
  head : Nat := 0
  /-- Tail as last written by the doorbell (R94). -/
  tail : Nat := 0
  /-- The Delete command that waits for this queue's last CQE (R119). -/
  deleting : Option CmdRef := none
  /-- Doorbell writes not yet fetched up to: tail and TSC, oldest first (R294). -/
  bells : List (Nat × Nat) := []
deriving DecidableEq, Repr

/-- A completion queue (R94, R112, R128). -/
structure Cq where
  size : Nat
  vector : Nat
  ien : Bool
  head : Nat := 0
  tail : Nat := 0
  phase : Bool := true
deriving DecidableEq, Repr

/-- A completion: status code type, status code, Do Not Retry, and the two result dwords. -/
structure Completion where
  sct : Nat := 0
  sc : Nat := 0
  dnr : Bool := false
  dw0 : Nat := 0
  dw1 : Nat := 0
deriving DecidableEq, Repr

/-- How far a fetched command has got (R107, R108, R113). -/
inductive CmdPhase where
  | fetching | fetched | started | executed | held
deriving DecidableEq, Repr

/-- A command context of ACCESSION (R102, R113). -/
structure Cmd where
  ref : CmdRef
  opcode : Nat := 0
  fuse : Nat := 0
  nsid : Nat := 0
  phase : CmdPhase := .fetching
  /-- Its identifier was outstanding when it arrived (R114). -/
  dup : Bool := false
  /-- The status it will complete with, once known. -/
  cpl : Option Completion := none
  /-- It runs on without a CQE (R120). -/
  silent : Bool := false
  /-- It waits for dirty-data budget and counts as not started (R35, R117). -/
  waitsCharge : Bool := false
  /-- It started while its namespace was attached, and runs to its end there (R143). The model's own. -/
  onNs : Bool := false
  /-- TSC at the doorbell write that covered it (R294). -/
  doorbellTsc : Nat := 0
deriving DecidableEq, Repr

/-- An asynchronous event (R143, R152, R166, R95): NVMe type, information and the log page. -/
structure AsyncEvent where
  type : Nat
  info : Nat
  lid : Nat
deriving DecidableEq, Repr

/-- An entry of the Error Information log (R115, R145, R236, R249). -/
structure ErrEntry where
  count : Nat
  sqid : Nat
  cid : Nat
  status : Nat
  lba : Nat
  nsid : Nat
deriving DecidableEq, Repr

/-- The configuration space of a function (R75 to R77, R81 to R84, R121). -/
structure ConfigSpace where
  /-- Memory space enable: the BARs answer (R81, R641). Reset 0 (PRESUMED: PCI Express, log 4). -/
  barEnable : Bool := false
  /-- Max_Payload_Size encoding, 0 to 2 (R76). Reset 0 (PRESUMED: PCI Express, log 4). -/
  maxPayload : Nat := 0
  /-- Max_Read_Request_Size encoding, 0 to 5 (R76). Reset 2 (PRESUMED: PCI Express, log 4). -/
  maxReadRequest : Nat := 2
  /-- Completion Timeout Value (R77). Reset 0, the default range. -/
  ctoValue : Nat := 0
  /-- Completion Timeout Disable (R77). Reset 0. -/
  ctoDisable : Bool := false
  /-- NumVFs of the SR-IOV capability (R82). Reset 0. -/
  numVFs : Nat := 0
  /-- VF Enable (R82). Reset 0. -/
  vfEnable : Bool := false
  /-- MSI-X Enable (R131). Reset 0. -/
  msixEnable : Bool := false
  /-- MSI-X Function Mask (R131). Reset 0. -/
  functionMask : Bool := false
deriving DecidableEq, Repr

/-- One NVMe controller (R89 to R101). -/
structure Controller where
  /-- CC (R90). Reset 0. -/
  cc : Word := 0
  /-- AQA (R93). Reset 0. -/
  aqa : Word := 0
  /-- ASQ, 64 bits. Reset 0. -/
  asq : BitVec 64 := 0
  /-- ACQ, 64 bits. Reset 0. -/
  acq : BitVec 64 := 0
  /-- CSTS.RDY (R92). Reset 0. -/
  rdy : Bool := false
  /-- CSTS.CFS (R78, R91). Reset 0. -/
  cfs : Bool := false
  /-- CSTS.SHST (R607). Reset 0. -/
  shst : Nat := 0
  /-- Fetching stopped for a shutdown (R607). Reset 0. -/
  shut : Bool := false
  /-- VQ resources: I/O queue pairs allocated (R97 to R99). -/
  vq : Nat := 0
  /-- VI resources: vectors other than 0 allocated (R97, R98). -/
  vi : Nat := 0
  /-- A secondary controller is online (R97, R98). Reset 0. -/
  online : Bool := false
  /-- Submission queues; 0 is the admin SQ. -/
  sqs : Tab Sq := []
  /-- Completion queues; 0 is the admin CQ. -/
  cqs : Tab Cq := []
  /-- Outstanding Asynchronous Event Requests (R135), by identifier, oldest first. -/
  aers : List Nat := []
  /-- Events that wait for a request (R143). -/
  events : List AsyncEvent := []
  /-- Current feature values that differ from their default, by FID × 65536 + sub-index (R154). Domain C. -/
  feats : Tab Nat := []
  /-- The current APST table, feature 0x0C data, 32 entries (R124, R154). -/
  apst : List Nat := []
  /-- Completions that wait for their coalesced message, by vector (R129). -/
  coalesce : Tab Nat := []
  /-- MSI-X table: message address and data by vector (R81, R128). PCI Express gives them no reset value: 0 (log 137). -/
  msixTable : Tab (Nat × Nat) := []
  /-- Vectors whose MSI-X table entry is masked (R131). PCI Express resets the mask bits to 1; the model lists the unmasked ones. -/
  unmasked : List Nat := []
  /-- Pending bits, by vector (R131). -/
  pba : List Nat := []
  /-- Error Information log, newest first, 256 entries (R145). -/
  errors : List ErrEntry := []
  /-- Errors ever logged. -/
  errCount : Nat := 0
  /-- Changed Namespace List (R145). -/
  changedNs : List Nat := []
  /-- The last capture of log 0xC5 for this controller (R315). -/
  monSnap : Option (List Byte) := none
  /-- The namespaces attached (R143). -/
  attached : List Nat := []
  /-- Configuration space. -/
  cfg : ConfigSpace := {}
  /-- The state an autonomous transition asks for (R124). Reset none. -/
  apstState : Option Nat := none
  /-- The operational state it last requested (R125). Reset 0. -/
  lastOp : Nat := 0
  /-- TSC since which no command has been outstanding (R124). -/
  idleSince : Nat := 0
deriving DecidableEq, Repr

/-- Weighted round robin credits of a controller (R104). -/
structure ArbCredits where
  /-- The SQ whose turn it is. -/
  turn : Nat := 0
  /-- Commands it may still start in this turn. -/
  left : Nat := 0
  /-- Credits left of the high, medium and low class. -/
  high : Nat := 0
  med : Nat := 0
  low : Nat := 0
deriving DecidableEq, Repr

/-- A firmware slot of the boot flash (R160 to R165). -/
structure FwImage where
  bytes : List Byte
  digest : List Byte
  signature : List Byte
  pkIndex : Nat
deriving DecidableEq, Repr

/-- An activation in progress (R166, R167). -/
structure Activation where
  ref : CmdRef
  slot : Nat
  image : FwImage
  /-- Fetching has stopped, at this TSC. -/
  stopped : Option Nat := none
deriving DecidableEq, Repr

/-- An entry of log 0xCA (R153). -/
structure FwEvent where
  tsc : Nat
  prev : List Byte
  next : List Byte
  slot : Nat
  action : Nat
  result : Nat
  ctl : Nat
  pauseUs : Nat
deriving DecidableEq, Repr

/-- A sanitize in progress or failed (R170 to R172). -/
inductive SanState where
  | idle | blockErase | cryptoErase | failed | done
deriving DecidableEq, Repr

/-- A namespace (R141 to R144, R224, R418). -/
structure Namespace where
  /-- Command set: 0 NVM, 3 subsystem local memory (R418). -/
  csi : Nat := 0
  /-- Size in logical blocks (bytes for an SLM namespace). -/
  nsze : Nat
  /-- LBA format: 0 is 4,096 bytes, 1 is 512 (R140). -/
  lbaf : Nat
  /-- Compress attribute (R141). -/
  compress : Bool
  /-- Sustained-parity attribute (R141). -/
  sustained : Bool
  /-- Map segments, by namespace segment (R224). -/
  segs : List Nat
  /-- Media key slot (R243). -/
  keySlot : Nat := 0
  /-- Where the contents of an SLM namespace lie in DRAM (R229, R419). -/
  slmBase : Nat := 0
  /-- Being formatted or recovered: reports not ready (R174). -/
  notReady : Bool := false
  /-- A format recorded in the journal and not yet ended: LBA format and SES (R174). -/
  formatting : Option (Nat × Nat) := none
  /-- That format has begun: its new key, if any, is made (R173, R174). The model's own. -/
  formatBegun : Bool := false
  /-- The delete that waits for its started commands (R143). -/
  deleting : Option CmdRef := none
  /-- Time limited error recovery, feature 0x05 (R154). Reset 0. -/
  tler : Nat := 0
deriving DecidableEq, Repr

/-- An extent of log 0xC3 (R151). -/
structure LostExtent where
  nsid : Nat
  lba : Nat
  blocks : Nat
deriving DecidableEq, Repr

/-- A self-test entry of log 0x06 (R175). -/
structure SelfTestEntry where
  code : Nat
  result : Nat
  tsc : Nat
deriving DecidableEq, Repr

/-- An island record of log 0xC6 (R316, R613). -/
structure IslandRecord where
  sensor : Nat
  errCap : Nat
  errAddr : Nat
  tsc : Nat
deriving DecidableEq, Repr

/-- ACCESSION: command contexts, arbitration and the reasons fetching stands still. -/
structure Accession where
  /-- Contexts in use, in the order of fetch (R102, R113). -/
  cmds : List Cmd := []
  /-- Controllers by index (R71). -/
  ctls : Tab Controller := []
  /-- The controller whose admin SQ is tried next (R104). Reset 0. -/
  adminTurn : Nat := 0
  /-- The controller whose I/O turn it is, and how many commands it may still start (R104). Reset 0. -/
  ioTurn : Nat := 0
  ioLeft : Nat := 0
  /-- Turns within each controller (R104). -/
  credits : Tab ArbCredits := []
  /-- Fetching stopped by a power failure or a device reset (R275, R609). -/
  stopPower : Bool := false
  /-- Fetching stopped by a firmware activation (R123). -/
  stopActivation : Bool := false
  /-- The controllers whose fetching has stopped for want of a context (R102, R134). -/
  exhausted : List Nat := []
  /-- Window counts of each class: completions and completions above the guard (R294). -/
  windowDone : Tab Nat := []
  windowLate : Tab Nat := []
deriving DecidableEq, Repr

/-- A Namespace Attachment or Management command that waits for the last started command (R143). -/
structure NsWait where
  ref : CmdRef
  nsid : Nat
  ctls : List Nat
  /-- The namespace is being deleted. -/
  delete : Bool
deriving DecidableEq, Repr

/-- The admin side: namespaces, logs, features, firmware, sanitize and self-test (chapter 04). -/
structure Admin where
  /-- Namespaces by NSID, at most 1,024 (R142). -/
  namespaces : Tab Namespace := []
  /-- Detach and delete commands that wait (R143). -/
  nsWaits : List NsWait := []
  /-- Device feature values that differ from their default, by FID × 65536 + sub-index (R154, R155). Domain D. -/
  feats : Tab Nat := []
  /-- Saved device features (R159). Kept through every reset. -/
  featsSaved : Tab Nat := []
  /-- Saved controller features, by controller × 2^32 + key (R159). -/
  ctlSaved : Tab Nat := []
  /-- Saved APST tables by controller. -/
  apstSaved : Tab (List Nat) := []
  /-- Download buffer: pieces by offset (R161). -/
  download : List Piece := []
  /-- Boot flash slots 1 and 2 (R160). -/
  slots : Tab FwImage := []
  /-- The boot-select record (R163, R164). -/
  bootSelect : Nat := 1
  /-- The commit action of the last commit that changed the boot-select record (R153). Reset 0. -/
  commitAction : Nat := 0
  /-- The running slot and revision. -/
  runningSlot : Nat := 1
  runningRev : List Byte := []
  /-- The activation in progress (R166). -/
  activation : Option Activation := none
  /-- Log 0xCA (R153), newest first, 16 entries. -/
  fwLog : List FwEvent := []
  /-- Sanitize state (R170 to R172). -/
  sanitize : SanState := .idle
  /-- The format in progress: its command and the namespaces it acts on (R173, R174). -/
  format : Option (CmdRef × List Nat) := none
  /-- Self-test in progress: STC (R175). -/
  selfTest : Option Nat := none
  /-- Results of log 0x06, newest first, 20 entries. -/
  selfTests : List SelfTestEntry := []
  /-- Log 0xC3: extents of lost blocks, oldest first (R151, R152). -/
  lost : List LostExtent := []
  /-- An event has been raised since the last read of log 0xC3 (R152). -/
  lostEvent : Bool := false
  /-- Island records of log 0xC6 (R316). -/
  islandRecords : List IslandRecord := []
  /-- SMART counters in bytes and counts (R147). Kept. -/
  bytesRead : Nat := 0
  bytesWritten : Nat := 0
  integrityErrors : Nat := 0
  unsafeShutdowns : Nat := 0
  /-- Milliseconds at or above WCTEMP and CCTEMP (R147). -/
  warnMs : Nat := 0
  critMs : Nat := 0
  /-- User bytes scanned by programs (R150). -/
  scannedBytes : Nat := 0
  /-- What the sideband last saw refreshed: warnings, temperature, percentage used (R177, R178). None: the drive is not ready. -/
  sideband : Option (Nat × Nat × Nat) := none
  /-- The SMBus arbitration bit of the status flags: a block read has completed (R177; NVMe-MI: PRESUMED, log 27). Reset 0. -/
  smbusArb : Bool := false
deriving DecidableEq, Repr

/-- The host link. -/
structure HostLink where
  /-- Sub-links by 4 × port + sub-link (R68). -/
  links : Tab SubLink := []
  /-- Bifurcation in effect, by port (R68 to R70, R85). -/
  bifurcation : Tab Nat := []
  /-- The link is trained: not after a fuse alarm or a missing SFDP table (R67, R635). -/
  trainable : Bool := false
  /-- The keeper firmware runs: configuration requests complete normally (R599). -/
  firmwareRuns : Bool := false
deriving DecidableEq, Repr

end Sys2Proof.Machine
end

