-- ==== Sys2Proof/Machine/PlatTypes.lean ====
section
/-! DEFINITION. State of the DRAM channels (chapter 12), of the SECURITY island (chapter 13), of power, reset and pins (chapters 15, 16), and the board: fuses and boot image. -/

namespace Sys2Proof.Machine

/-- A request that waits on a DRAM channel (R497): its client, its address, what it asks for, and the symbols in error that a read
of its first burst meets (R510). -/
structure DramReq where
  client : DramClient
  addr : Nat
  op : DramOp
  symbols : Nat
deriving DecidableEq, Repr

/-- One DRAM channel (R490 to R526). -/
structure DramChan where
  /-- DRC_STAT.state (R525). Reset 0. -/
  state : Nat := 0
  /-- DRC_TOPO: rate code, row bits, ranks, density, width, once trained (R525). Reset 0. -/
  rate : Nat := 0
  rowBits : Nat := 0
  ranks : Nat := 0
  density : Nat := 0
  width : Nat := 0
  /-- Training failures so far (R514). -/
  fails : Nat := 0
  /-- Level of RANKPWR_EN for this channel (R518). Reset 0. -/
  rank1Power : Bool := false
  /-- Rate indication of each rank: 0 1×, 1 2×, 2 beyond range (R505). Reset 0. -/
  ind0 : Nat := 0
  ind1 : Nat := 0
  /-- Refresh debt of each rank (R503). Reset 0. -/
  debt0 : Nat := 0
  debt1 : Nat := 0
  /-- The rank of the last real-time chunk, and its TSC: a burst uses the rank until 100 ns after it (R504). -/
  rtLast : Option (Nat × Nat) := none
  /-- Zeroing has started, and the frontier in 64-byte bursts of channel-local address (R516). -/
  zeroing : Bool := false
  frontier : Nat := 0
  /-- DRC_INIT_SKIP.go held until training ends (R516). -/
  heldGo : Bool := false
  /-- The skip in effect, in 4 KiB units (R516). -/
  skip : Nat := 0
  /-- Every rank initialised (R525). Reset 0. -/
  initDone : Bool := false
  /-- Bursts below the skip that have been written whole (R517). -/
  whole : List Nat := []
  /-- Bursts that are uncorrectable (R511). -/
  poisoned : List Nat := []
  /-- Commands in the retry buffer, oldest first: TSC of issue and burst (R507). -/
  retry : List (Nat × Nat) := []
  /-- Replays in a row of the command that fails parity (R509). -/
  replays : Nat := 0
  /-- Command/address retraining in progress (R509). -/
  caRetrain : Bool := false
  /-- Steps left of a retraining slice (R515). -/
  slice : Option Nat := none
  /-- Position of the patrol scrub, in bursts (R513). -/
  scrubAt : Nat := 0
  /-- Requests that wait, in order of arrival (R497, R498). Reset none. -/
  waiting : List DramReq := []
  /-- The bank of the access issued last, whose row is closing (R495, R497; log 133). Reset none. -/
  lastBank : Option Nat := none
  /-- What background requests that wait have earned of DRC_ARB.bg_share, in 1/256 of an issue slot (R497). Reset 0. -/
  bgCredit : Nat := 0
  /-- DRC_RETRAIN.go (R8, R525; log 132). Reset 0. -/
  retrainGo : Bool := false
  /-- TSC of the last refresh issued to each rank (R515). Reset none. -/
  refreshed0 : Option Nat := none
  refreshed1 : Option Nat := none
deriving DecidableEq, Repr

/-- The DRAM channels. -/
structure Dram where
  chans : Tab DramChan := []
  /-- Extents of DRAM that firmware has written whole with zeros below a skip (R419, R517): start and end. -/
  filled : List (Nat × Nat) := []
  /-- Background requests and zeroing stopped by a power failure (R522). -/
  stopped : Bool := false
deriving DecidableEq, Repr

/-- A key slot (R530, R532). -/
structure KeySlot where
  kind : Nat
  len : Nat
  key : List Byte
  fixed : Nat := 0
  invoc : Nat := 0
deriving DecidableEq, Repr

/-- What a status command loads (R532, R560). Reset 0. -/
structure KeyShown where
  /-- KEY_SLOT_INFO. -/
  info : Word := 0
  /-- KEY_FIXED. -/
  fixed : Nat := 0
  /-- KEY_INVOC. -/
  invoc : Nat := 0
deriving DecidableEq, Repr

/-- A message in the SCE (R539 to R546): what it will do when it ends. -/
structure SceMsg where
  slot : Nat
  status : Nat
  /-- Bytes it writes to the destination. -/
  dst : Nat
  bytes : List Byte
  /-- The tag it leaves (GCM encryption). -/
  tag : List Byte
  /-- The IV it leaves (R543). -/
  iv : List Byte
deriving DecidableEq, Repr

/-- A digest engine (R549 to R553). -/
structure Dge where
  /-- Mode of the message held: 0 none, 1 to 3, 5 to 7 (R555). -/
  mode : Nat := 0
  /-- The chaining words, inner state for HMAC. -/
  chain : List Nat := []
  /-- The outer state for HMAC. -/
  outer : List Nat := []
  /-- Bytes of the message so far. -/
  count : Nat := 0
  /-- Partial block. -/
  part : List Byte := []
  /-- SCE slot whose key the message took (R551). -/
  slot : Nat := 0
  /-- DGE_STAT.busy and status (R555). Reset 0. -/
  busy : Bool := false
  status : Nat := 0
  /-- The part in service finishes the message. -/
  last : Bool := false
  /-- The part in service comes by words (R550). -/
  wordMode : Bool := false
  /-- Bytes of the DMA part in service (R549). -/
  input : List Byte := []
  /-- DGE_OUT (R555). Reset 0. -/
  digest : List Byte := []
deriving DecidableEq, Repr

/-- An entry of log 0xC8 (R567). -/
structure AlarmEntry where
  tsc : Nat
  source : Nat
  detector : Nat
  outcome : Nat
  owner : Nat
  tscRearm : Nat
deriving DecidableEq, Repr

/-- The SECURITY island. -/
structure Security where
  /-- Media slots 0 to 1023, and SCE slots from 1024 (R530). -/
  slots : Tab KeySlot := []
  /-- SCE lock owner: keeper core, 0xFF free (R547). Reset 0xFF. -/
  owner : Nat := 0xFF
  /-- The message in service, SCE_STAT.status and SCE_INVOC (R547). Reset 0. -/
  msg : Option SceMsg := none
  sceStatus : Nat := 0
  sceInvoc : Nat := 0
  dge0 : Dge := {}
  dge1 : Dge := {}
  /-- KEY_STAT.result, and KEY_SLOT_INFO, KEY_FIXED and KEY_INVOC as the last status command loaded them (R532). Reset 0. -/
  keyResult : Nat := 0
  shown : KeyShown := {}
  /-- ALM_STAT.armed (R568). Reset 0. -/
  armed : Bool := false
  /-- ALM_STAT.fuse (R67). Reset 0. -/
  fuseAlarm : Bool := false
  /-- ALM_STAT.source: latched sources (R568). Reset none. -/
  latched : List Nat := []
  /-- ALM_LIVE (R568). Reset none. -/
  live : List Nat := []
  /-- ALM_REARM.result (R568). Reset 0. -/
  rearmResult : Nat := 0
  /-- ALM_COUNT (R568). Reset 0. -/
  count : Nat := 0
  /-- ALM_LAST: source, detector, TSC; domain P (R568). Reset 0xFF, 0, 0. -/
  lastSource : Nat := 0xFF
  lastDetector : Nat := 0
  lastTsc : Nat := 0
  /-- The wrapped records of the namespaces' media keys, by slot, in the flash system area (R531). Kept through every reset. -/
  records : Tab (List Byte) := []
  /-- Log 0xC8, newest first, 64 entries, and alarms ever (R567). -/
  log : List AlarmEntry := []
  total : Nat := 0
deriving DecidableEq, Repr

/-- The fuses (R1, R67, R558, R559). -/
structure Fuses where
  /-- Variant index of R1. -/
  variant : Nat := 0x01
  /-- Package code of the bonding: 0xB or 0xC. -/
  package : Nat := 0xB
  /-- TOP_UID, 64 bits. -/
  uid : Nat := 1
  /-- Revoked key indices (R559). -/
  revoked : List Nat := []
  /-- Rollback floor (R559). -/
  rollback : Nat := 0
  /-- Fused key hashes 0 to 3, 48 bytes each (R558). -/
  hashes : List (List Byte) := []
deriving DecidableEq, Repr

/-- The boot configuration image (R69, R83, R269, R491, R558) and whether the boot flash has an SFDP table (R635). -/
structure BootImage where
  /-- Bifurcation asked for each port (R68, R70). -/
  bifurcation0 : Nat := 0
  bifurcation1 : Nat := 0
  /-- Identity that the image may give: vendor, subsystem vendor and subsystem identifiers, IEEE OUI and model number (R83). -/
  vendorId : Option Nat := none
  subsystemVendorId : Option Nat := none
  subsystemId : Option Nat := none
  ieee : Option Nat := none
  modelNumber : Option (List Byte) := none
  /-- DRAM declaration: width, density code, ranks, rate code (R491). -/
  dramWidth : Nat := 4
  dramDensity : Nat := 1
  dramRanks : Nat := 2
  dramRate : Nat := 5
  /-- Hold-up bank: µF, mV, V_min in mV, efficiency in 1/1000, P_dump in W, I_test in mA (R269). -/
  capacitance : Nat := 1200000
  voltage : Nat := 12000
  vMin : Nat := 8000
  efficiency : Nat := 850
  pDump : Nat := 150
  iTest : Nat := 2000
  /-- Declared SLC endurance (R276). Default 30,000. -/
  slcEndurance : Nat := 30000
  /-- Program-key list: SHA-384 hashes (R558). -/
  programKeys : List (List Byte) := []
  /-- The boot flash answers with an SFDP table (R635). -/
  sfdp : Bool := true
deriving DecidableEq, Repr

/-- Power state, resets and pins. -/
structure Power where
  /-- Core supplies are up (R608). -/
  on : Bool := true
  /-- PWR_STATE.ps, target, busy, ret (R620). Reset 0. -/
  ps : Nat := 0
  target : Nat := 0
  busy : Bool := false
  ret : Bool := false
  /-- PWR_RESET_CAUSE (R620), domain P. Reset power_on. -/
  cause : ResetCause := .powerOn
  /-- PERST_N and PFAIL_N pins, high or low (R625, R626). -/
  perstN : Bool := false
  pfailN : Bool := true
  /-- DUMP_ACT (R625). Reset low. -/
  dumpAct : Bool := false
  /-- RANKPWR_EN[3:0] (R518, R627). Reset low. -/
  rankPower : List Bool := [false, false, false, false]
  /-- THERM_N driven low (R307). Reset released. -/
  thermLow : Bool := false
  /-- WAKE_N asserted (R625). Reset released. -/
  wake : Bool := false
  /-- The device is held in reset: islands other than HOST wait for a reset dump or for PERST_N (R609, R630). -/
  inReset : Bool := true
  /-- The start-up sequence has run since the last reset (R598). -/
  started : Bool := false
  /-- TSC of the last watchdog kick (R614, R620). -/
  kicked : Nat := 0
  /-- TSCs of watchdog expiries in the last 3,600 s (R614). -/
  expiries : List Nat := []
  /-- A command arrived during a PS4 entry, which is then exited at once (R126). -/
  exitAfter : Bool := false
  /-- TSC at which PS3 or PS4 was entered (R606). -/
  sleptAt : Nat := 0
  /-- Hours of that state already weighed, and the sum of their weights (R298, R606). -/
  sleptHours : Nat := 0
  sleptWeight : Nat := 0
  /-- Fields of domain C, D and P saved at PS4 entry (R603). -/
  saved : Option (Tab Word) := none
  /-- A shutdown made everything durable: a power loss now is no unsafe shutdown (R607). -/
  safeOff : Bool := false
  /-- A dump runs for a reset with this cause (R609). -/
  resetDump : Option ResetCause := none
deriving DecidableEq, Repr

/-- An instruction of the TAP (R636). -/
inductive TapInstr where
  | idcode | bypass | samplePreload | extest | highz | clamp | extestPulse | extestTrain
deriving DecidableEq, Repr

/-- The test access port (R636). -/
structure Tap where
  /-- The instruction in effect. Reset IDCODE (IEEE 1149.1). -/
  instr : TapInstr := .idcode
  /-- The shift register selected, and the boundary cells' update latches by ball number. -/
  shift : List Bool := []
  cells : List Bool := []
  /-- Balls are driven from the cells, or are all in high impedance. -/
  driving : Bool := false
  floating : Bool := false
deriving DecidableEq, Repr

end Sys2Proof.Machine
end

