-- ==== Sys2Proof/Machine/State.lean ====
section
/-! DEFINITION. The state of the block, its faults and refusals, and its state after reset. -/

namespace Sys2Proof.Machine

/-- Why the block stops with a fault. No command of the manual stops the block: the manual ends every access in a defined
response (R25, R30, R640), so nothing raises this constructor; it keeps the type inhabited. Safe. -/
inductive Fault where
  | unreachable
deriving DecidableEq, Repr

/-- Why a command has no meaning. -/
inductive Refusal where
  /-- Raised by an arm of exec whose command has no meaning yet. Safe. -/
  | notModelled (mnemonic : String)
deriving DecidableEq, Repr

/-- What the block sends out. -/
inductive Out where
  /-- A configuration completion: value, or Configuration Request Retry Status (R599), or Unsupported Request. -/
  | config (value : Nat)
  | configRetry
  | unsupportedRequest
  /-- A memory read completed on PCI Express with this data (R44, R62, R640). -/
  | hostRead (v : Nat)
  /-- A register or memory read answered to a keeper, a Docent core or an engine. -/
  | coreRead (v : Nat)
  /-- An error response with a code of R59. -/
  | errorResponse (code : Nat)
  /-- Data of a command written to host memory. -/
  | hostData (ref : CmdRef) (bytes : List Byte)
  /-- A read request to host memory: sub-link and tag (R76). -/
  | hostRequest (link tag : Nat)
  /-- A completion queue entry written to host memory (R108, R112). -/
  | cqe (ctl cq slot cid sqid sqhd status dw0 dw1 : Nat) (phase : Bool)
  /-- An MSI-X message (R128): function, vector, and the address and data of its table entry. -/
  | msix (ctl vec addr data : Nat)
  /-- An SMBus answer (R177), or no acknowledge. -/
  | smbus (bytes : List Byte)
  | smbusNack
  /-- Bits shifted out of the TAP (R636). -/
  | tdo (bits : List Bool)
  /-- An instruction or a job wrote these bytes to host memory by a completion or an out-move. -/
  | hostWrite (addr : Nat) (bytes : List Byte)
deriving DecidableEq, Repr

/-- The state of the block: every register, queue, counter, mode and pin the manual gives it, and the queue of commands that wait. -/
structure State where
  /-- Commands that wait, first in, first out. The model's own. -/
  pending : List Instr := []
  /-- Everything sent out so far, oldest first. The model's own. -/
  out : List Out := []
  /-- The TSC, 64 bits (R20, R622). Reset 0. -/
  tsc : Nat := 0
  /-- The number of the next free value (log 1). The model's own. -/
  free : Nat := 0
  /-- Fuses and bonding (R1, R67, R558). -/
  fuses : Fuses := {}
  /-- The boot configuration image (R69). -/
  boot : BootImage := {}
  /-- Islands, crossings and register pages. -/
  fab : Fabric := {}
  /-- The host links. -/
  link : HostLink := {}
  /-- ACCESSION and the controllers. -/
  acc : Accession := {}
  /-- The admin side. -/
  adm : Admin := {}
  /-- The flash side. -/
  flash : Flash := {}
  /-- The Curator. -/
  cur : Curator := {}
  /-- The Conservator and the monitors. -/
  care : Care := {}
  /-- The compression islands. -/
  cmp : Compress := {}
  /-- Galleries 0 to 15. -/
  gals : Tab Gallery := []
  /-- Keeper cores 0 to 3. -/
  kprs : Tab Core := []
  /-- The Registrar and the programs. -/
  rgs : Registrar := {}
  /-- The Catalogue. -/
  cat : Catalogue := {}
  /-- Full mailbox channels 0 to 511 (R571). -/
  mbx : Tab Mailbox := []
  /-- The DRAM channels. -/
  dram : Dram := {}
  /-- The SECURITY island and the alarms. -/
  sec : Security := {}
  /-- Power, resets and pins. -/
  pwr : Power := {}
  /-- The test access port. -/
  tap : Tap := {}
  /-- Memory: DRAM, gallery and keeper memories by internal address (R29); an unlisted byte reads 0. -/
  mem : List Host.Cell := []
deriving DecidableEq, Repr

/-- The block right after power-on, with PERST_N low: a CN9632-AC whose start-up sequence (R598) waits for PERST_RELEASE. -/
def State.reset : State := {}

/-- The reset values of a gallery (R411). -/
def resetGallery : Gallery := {}

/-- The reset values of a core (R404). -/
def resetCore : Core := {}

/-- The memory holds its addresses strictly rising and lists no zero byte. -/
def Memory.wf : List Host.Cell → Bool
  | [] => true
  | [(_, b)] => b != 0
  | (a, b) :: (c, d) :: t => (b != 0) && decide (a < c) && Memory.wf ((c, d) :: t)

end Sys2Proof.Machine
end

