-- ==== Sys2Proof/Machine/Ops.lean ====
section
/-! DEFINITION. The named operations every meaning is built from: variants and islands, free values, memory, page headers, error capture and the stored register fields. -/

namespace Sys2Proof.Machine

/-! ## Variants and islands -/

/-- What a variant provides (R1). -/
structure Variant where
  channels : Nat
  wings : Nat
  lanes : Nat
  ports : Nat
  dram : Nat
  galleries : Nat
  docents : Nat
  banks : Nat
  crypto : Bool
  gradeI : Bool
  package : Nat
deriving DecidableEq, Repr

/-- The variant table (R1). An index outside it sets the fuse alarm (R67); the model then gives the whole die (log 6). -/
def variantOf : Nat → Variant
  | 0x02 => { channels := 96, wings := 8, lanes := 32, ports := 2, dram := 8, galleries := 16, docents := 256, banks := 32, crypto := true, gradeI := true, package := 0xB }
  | 0x03 => { channels := 96, wings := 8, lanes := 32, ports := 2, dram := 8, galleries := 16, docents := 256, banks := 32, crypto := false, gradeI := false, package := 0xB }
  | 0x04 => { channels := 96, wings := 8, lanes := 16, ports := 1, dram := 8, galleries := 16, docents := 256, banks := 32, crypto := true, gradeI := false, package := 0xB }
  | 0x05 => { channels := 96, wings := 8, lanes := 32, ports := 2, dram := 8, galleries := 8, docents := 128, banks := 16, crypto := true, gradeI := false, package := 0xB }
  | 0x06 => { channels := 72, wings := 6, lanes := 32, ports := 2, dram := 8, galleries := 12, docents := 192, banks := 24, crypto := true, gradeI := false, package := 0xB }
  | 0x07 => { channels := 72, wings := 6, lanes := 16, ports := 1, dram := 8, galleries := 12, docents := 192, banks := 24, crypto := true, gradeI := false, package := 0xB }
  | 0x08 => { channels := 72, wings := 6, lanes := 16, ports := 1, dram := 8, galleries := 12, docents := 192, banks := 24, crypto := true, gradeI := true, package := 0xB }
  | 0x09 => { channels := 48, wings := 4, lanes := 16, ports := 1, dram := 4, galleries := 8, docents := 128, banks := 16, crypto := true, gradeI := false, package := 0xC }
  | 0x0A => { channels := 48, wings := 4, lanes := 16, ports := 1, dram := 4, galleries := 8, docents := 128, banks := 16, crypto := true, gradeI := true, package := 0xC }
  | 0x0B => { channels := 48, wings := 4, lanes := 16, ports := 1, dram := 4, galleries := 8, docents := 128, banks := 16, crypto := false, gradeI := false, package := 0xC }
  | 0x0C => { channels := 48, wings := 4, lanes := 8, ports := 1, dram := 4, galleries := 4, docents := 64, banks := 8, crypto := true, gradeI := false, package := 0xC }
  | _ => { channels := 96, wings := 8, lanes := 32, ports := 2, dram := 8, galleries := 16, docents := 256, banks := 32, crypto := true, gradeI := false, package := 0xB }

/-- The variant of this device. -/
def variant (s : State) : Variant := variantOf s.fuses.variant

/-- The fuse alarm condition (R67). -/
def fuseBad (s : State) : Bool :=
  s.fuses.variant == 0 || decide (s.fuses.variant > 0x0C) || (variantOf s.fuses.variant).package != s.fuses.package

/-- The controllers the variant offers: 64 to a port (R1, R71). -/
def controllerCount (s : State) : Nat := 64 * (variant s).ports

/-- The sensor number of an island (R302). -/
def Island.sensor : Island → Nat
  | .host p => p
  | .accession => 2
  | .wing w => 3 + w
  | .gallery g => 11 + g
  | .keeper => 27
  | .registrar => 28
  | .catalogue => 29
  | .compress c => 30 + c
  | .dram n => 32 + n
  | .security => 40
  | .alwaysOn => 41

/-- The island of a sensor (R302). -/
def islandOfSensor (n : Nat) : Option Island :=
  if n < 2 then some (.host n) else if n = 2 then some .accession
  else if n < 11 then some (.wing (n - 3)) else if n < 27 then some (.gallery (n - 11))
  else if n = 27 then some .keeper else if n = 28 then some .registrar else if n = 29 then some .catalogue
  else if n < 32 then some (.compress (n - 30)) else if n < 40 then some (.dram (n - 32))
  else if n = 40 then some .security else if n = 41 then some .alwaysOn else none

/-- Whether the variant provides an island (R16, R17). -/
def islandPresent (s : State) : Island → Bool
  | .host p => decide (p < (variant s).ports)
  | .wing w => decide (w < (variant s).wings)
  | .gallery g => decide (g < (variant s).galleries)
  | .dram n => decide (n < (variant s).dram)
  | .compress c => decide (c < 2)
  | .accession => true
  | .keeper => true
  | .registrar => true
  | .catalogue => true
  | .security => true
  | .alwaysOn => true

/-- The island that owns a page; `none`: the page is not in the page index (R15, R46). -/
def pageIsland (page : Nat) : Option Island :=
  if page < 4 then some .alwaysOn
  else if 8 ≤ page ∧ page < 16 then some (.host ((page - 8) / 4))
  else if 16 ≤ page ∧ page < 32 then some .accession
  else if 32 ≤ page ∧ page < 40 then some (.wing (page - 32))
  else if 64 ≤ page ∧ page < 160 then some (.wing ((page - 64) / 12))
  else if 160 ≤ page ∧ page < 176 then some (.wing ((page - 160) / 2))
  else if 176 ≤ page ∧ page < 192 then some .keeper
  else if 192 ≤ page ∧ page < 200 then some (.compress ((page - 192) / 4))
  else if 200 ≤ page ∧ page < 208 then some .catalogue
  else if 208 ≤ page ∧ page < 224 then some (.gallery (page - 208))
  else if 224 ≤ page ∧ page < 232 then some .keeper
  else if 232 ≤ page ∧ page < 240 then some .registrar
  else if 240 ≤ page ∧ page < 248 then some (.dram (page - 240))
  else if 248 ≤ page ∧ page < 252 then some .security
  else if 252 ≤ page ∧ page < 256 then some .alwaysOn
  else if 256 ≤ page ∧ page < 264 then some .keeper
  else none

/-- Block type code and first page of the block that owns a page (R46). -/
def pageBlock (page : Nat) : Nat × Nat :=
  if page = 0 then (0x0001, 0) else if page = 1 then (0x0002, 1) else if page = 2 then (0x0003, 2)
  else if page = 3 then (0x0004, 3) else if page < 16 then (0x0010, 8) else if page < 32 then (0x0011, 16)
  else if page < 40 then (0x0020, 32) else if page < 160 then (0x0021, 64) else if page < 176 then (0x0022, 160)
  else if page < 192 then (0x0030, 176) else if page < 200 then (0x0040, 192) else if page < 208 then (0x0041, 200)
  else if page < 224 then (0x0050, 208) else if page < 232 then (0x0051, 224) else if page < 240 then (0x0052, 232)
  else if page < 248 then (0x0060, 240) else if page = 248 then (0x0070, 248) else if page = 249 then (0x0071, 249)
  else if page < 252 then (0x0072, 250) else if page < 256 then (0x0080, 252) else (0x0090, 256)

/-- The maintenance window group of a page (R46); `none`: the host never reaches it. -/
def pageGroup (page : Nat) : Option Nat :=
  if page < 4 then some page else if page < 16 then some 4 else if page < 32 then some 5 else if page < 40 then some 6
  else if page < 160 then some 7 else if page < 176 then some 8 else if page < 192 then some 9
  else if page < 200 then some 10 else if page < 208 then some 11 else if page < 224 then some 12
  else if page < 232 then none else if page < 240 then some 13 else if page < 248 then some 14
  else if page < 256 then none else some 15

/-- The primary page of an island (R47). The ALWAYS-ON island is restored by device reset only; its first page is 0. -/
def Island.primary : Island → Nat
  | .host p => 8 + 4 * p
  | .accession => 16
  | .wing w => 32 + w
  | .gallery g => 208 + g
  | .keeper => 224
  | .registrar => 232
  | .catalogue => 200
  | .compress c => 192 + 4 * c
  | .dram n => 240 + n
  | .security => 249
  | .alwaysOn => 0

/-- A page is in the page index and its resource is provided (R3, R16, R17, R570). -/
def pagePresent (s : State) (page : Nat) : Bool :=
  match pageIsland page with
  | none => false
  | some i => islandPresent s i && !(!(variant s).crypto && (page == 248 || page == 250 || page == 251))

/-- Every page of an island. -/
def pagesOf (i : Island) : List Nat := (upTo 264).filter fun n => pageIsland n == some i

/-- A page of the ALWAYS-ON island. -/
def alwaysOnPage (page : Nat) : Bool := pageIsland page == some .alwaysOn

/-! ## Free values and outputs -/

/-- Draws a free value (log 1). -/
def draw (s : State) : Nat × State := (Config.freeNat s.free, { s with free := s.free + 1 })

/-- Draws `n` free bytes. -/
def drawBytes (s : State) (n : Nat) : List Byte × State :=
  ((upTo n).map (Config.freeByte s.free), { s with free := s.free + 1 })

/-- Draws `n` bytes from the random bit generator (R529). -/
def drawRandom (s : State) (n : Nat) : List Byte × State :=
  ((upTo n).map (Config.random s.free), { s with free := s.free + 1 })

/-- Sends an output. -/
def emit (o : Out) (s : State) : State := { s with out := s.out ++ [o] }

/-- A list of effects in order. -/
def doAll {α : Type} (f : α → State → State) (xs : List α) (s : State) : State := xs.foldl (fun t x => f x t) s

/-- An effect that a condition guards. -/
def onlyIf (b : Bool) (f : State → State) (s : State) : State := if b then f s else s

/-- One tick of an idle block: the TSC counts (R20). -/
def idleTick (s : State) : State := { s with tsc := (s.tsc + 1) % 2 ^ 64 }

/-! ## Memory -/

/-- A byte of memory; one that nothing has written reads 0 (log 2). -/
def memGet : List Host.Cell → Nat → Byte
  | [], _ => 0
  | (k, v) :: t, a => if k = a then v else if a < k then 0 else memGet t a

/-- Writes a byte, keeping the canonical form. -/
def memPut : List Host.Cell → Nat → Byte → List Host.Cell
  | [], a, b => if b = 0 then [] else [(a, b)]
  | (k, v) :: t, a, b =>
    if a < k then (if b = 0 then (k, v) :: t else (a, b) :: (k, v) :: t)
    else if a = k then (if b = 0 then t else (a, b) :: t)
    else (k, v) :: memPut t a b

/-- Writes bytes from an address on. -/
def memPutBytes (m : List Host.Cell) (a : Nat) : List Byte → List Host.Cell
  | [] => m
  | b :: bs => memPutBytes (memPut m a b) (a + 1) bs

/-- Reads `n` bytes from an address on. -/
def memGetBytes (m : List Host.Cell) (a n : Nat) : List Byte := (upTo n).map fun i => memGet m (a + i)

/-- Zeroes the bytes from `a` up to, not including, `b`. -/
def memClear (m : List Host.Cell) (a b : Nat) : List Host.Cell := m.filter fun c => decide (c.1 < a) || decide (b ≤ c.1)

/-- Writes bytes of memory. -/
def writeMem (a : Nat) (bs : List Byte) (s : State) : State := { s with mem := memPutBytes s.mem a bs }

/-- Reads bytes of memory. -/
def readMem (s : State) (a n : Nat) : List Byte := memGetBytes s.mem a n

/-- A little-endian number of `k` bytes in memory. -/
def readLe (s : State) (a k : Nat) : Nat := ofLe (readMem s a k)

/-- Zeroes a range of memory. -/
def clearMem (a b : Nat) (s : State) : State := { s with mem := memClear s.mem a b }

/-- The 48-bit address space (R29). -/
def addrMask (a : Nat) : Nat := a % 2 ^ 48

/-! ## Islands and page headers -/

/-- The header of a page. -/
def hdr (s : State) (page : Nat) : PageHdr := Tab.getD s.fab.pages page {}

/-- Changes the header of a page. -/
def setHdr (page : Nat) (f : PageHdr → PageHdr) (s : State) : State :=
  { s with fab := { s.fab with pages := Tab.update s.fab.pages page {} f } }

/-- Clock and power of an island. -/
def isl (s : State) (i : Island) : IslandHdr := Tab.getD s.fab.islands i.sensor {}

/-- Changes clock and power of an island. -/
def setIsl (i : Island) (f : IslandHdr → IslandHdr) (s : State) : State :=
  { s with fab := { s.fab with islands := Tab.update s.fab.islands i.sensor {} f } }

/-- Sets status bits of a page (R56). -/
def raiseIrq (page : Nat) (w : Word) (s : State) : State := setHdr page (fun h => { h with irqStat := h.irqStat ||| w }) s

/-- Captures an error in a page: the first since arming with its address, every one in the count (R57). -/
def capture (page code addr : Nat) (s : State) : State :=
  setHdr page (fun h =>
    let h := { h with errCount := satAdd 0xFFFF h.errCount 1, irqStat := h.irqStat ||| 1 }
    if h.errCode = 0 then { h with errCode := code, errAddr := addrMask addr } else h) s

/-- The address of a register. -/
def pageAddr (page off : Nat) : Nat := 0x020000000000 + page * 0x1000 + off

/-- Sets or clears ready, raising ready_change on a change (R55). -/
def setReady (page : Nat) (b : Bool) (s : State) : State :=
  if (hdr s page).ready == b then s else raiseIrq page 0x2 (setHdr page (fun h => { h with ready := b }) s)

/-- The island takes no work: its primary page is quiesced, fenced, disabled, absent or re-initialising, or the island is off (R25, R597). -/
def islandRefuses (s : State) (i : Island) : Bool :=
  let h := hdr s i.primary
  !islandPresent s i || h.quiesced || h.fenced || h.busy || !h.enable || (isl s i).power == 0

/-- The unit of a page takes no work (R25, R48). -/
def pageRefuses (s : State) (page : Nat) : Bool :=
  match pageIsland page with
  | none => true
  | some i => !pagePresent s page || islandRefuses s i || (hdr s page).fenced || !(hdr s page).enable

/-- The block registers of a page are not served: it is absent or its unit disabled, or its island takes no work (R25, R30, R48). -/
def regsRefuse (s : State) (page : Nat) : Bool :=
  match pageIsland page with
  | none => true
  | some i => !pagePresent s page || islandRefuses s i || !(hdr s page).enable

/-- The island of a page is being quiesced: it takes no new request (R26). -/
def quiescing (s : State) (page : Nat) : Bool :=
  match pageIsland page with
  | none => false
  | some i => (hdr s i.primary).quiesceReq

/-- PG_STAT.ready: the unit accepts work (R48, R54). -/
def pageReady (s : State) (page : Nat) : Bool :=
  let h := hdr s page
  h.ready && !h.quiesced && !h.quiesceReq && !h.busy && !h.fenced && !regsRefuse s page && !quiescing s page

/-- Raises ready_change on every page of an island whose ready an effect changes. -/
def noteReady (i : Island) (f : State → State) (s : State) : State :=
  let t := f s
  doAll (raiseIrq · 0x2) ((pagesOf i).filter fun p => pageReady s p != pageReady t p) t

/-- Sets quiesced, raising quiesce_done when it becomes 1. -/
def setQuiesced (page : Nat) (b : Bool) (s : State) : State :=
  let s' := setHdr page (fun h => { h with quiesced := b }) s
  if b && !(hdr s page).quiesced then raiseIrq page 0x4 s' else s'

/-- Fences a page, raising the fenced bit when it becomes 1, and ready_change when ready follows (R55). -/
def setFenced (page : Nat) (b : Bool) (s : State) : State :=
  let t := setHdr page (fun h => { h with fenced := b }) s
  let t := if b && !(hdr s page).fenced then raiseIrq page 0x8 t else t
  if pageReady s page != pageReady t page then raiseIrq page 0x2 t else t


/-- The level in effect: the largest of the utilisation level, the thermal level and the level of the power state (R308, R600). -/
def levelOf (s : State) (i : Island) : Nat :=
  let h := isl s i
  max h.utilLevel (max h.thermLevel h.psLevel)

/-- The maximum clock of an island in MHz (R19). -/
def maxMhz : Island → Nat
  | .accession | .wing _ => 1200
  | .gallery _ | .keeper | .registrar => 1600
  | .alwaysOn => 100
  | .host _ | .catalogue | .compress _ | .dram _ | .security => 1000

/-- The clock that runs, in MHz (R304, R596). -/
def clockMhz (s : State) (i : Island) : Nat :=
  if (isl s i).power = 0 then 0 else maxMhz i * (4 - levelOf s i) / 4

/-! ## Stored registers -/

/-- The block registers of a page. -/
def regsOfPage (page : Nat) : List RegD :=
  if page = 0 then topRegs else if page = 1 then pwrRegs else if page = 2 then almRegs else if page = 3 then tscRegs
  else if 8 ≤ page ∧ page < 16 then (if page % 4 = 0 then hifPortRegs ++ hifLinkRegs else hifLinkRegs)
  else if page = 16 then acc16Regs else if page = 17 then acc17Regs
  else if 32 ≤ page ∧ page < 40 then wngRegs
  else if 64 ≤ page ∧ page < 160 then fchRegs
  else if page = 160 then curRegs ++ curDevRegs
  else if 160 < page ∧ page < 176 then (if page % 2 = 0 then curRegs else curCntRegs)
  else if page = 176 then con176Regs else if page = 177 then con177Regs else if page = 178 then con178Regs
  else if 192 ≤ page ∧ page < 200 then (if page % 4 = 0 then cmpRegs else if page % 4 = 3 then [] else cmpRingRegs)
  else if page = 200 then cat200Regs else if page = 201 then cat201Regs else if page = 202 then cat202Regs
  else if page = 203 then cat203Regs
  else if 208 ≤ page ∧ page < 224 then docRegs
  else if page = 224 then kprRegs
  else if page = 232 then rgs232Regs else if page = 233 then rgs233Regs else if page = 235 then rgs235Regs
  else if page = 236 then rgs236Regs else if page = 237 then rgs237Regs
  else if 240 ≤ page ∧ page < 248 then drcRegs
  else if page = 248 then sceRegs else if page = 249 then dgeRegs else if page = 250 then key250Regs
  else if page = 251 then key251Regs
  else if page = 252 then mbx252Regs ++ mbxRegs
  else if 252 < page ∧ page < 256 then mbxRegs
  else if page = 256 then pmc256Regs ++ monRegs
  else if page = 257 then pmc257Regs ++ monRegs
  else if 257 < page ∧ page < 264 then monRegs
  else []

/-- The offset is one of a register's. -/
def RegD.holds (r : RegD) (off : Nat) : Bool :=
  if r.count = 1 then off == r.off
  else decide (r.off ≤ off) && (off - r.off) % r.stride == 0 && decide ((off - r.off) / r.stride < r.count)

/-- The register at an offset of a page. -/
def findReg (page off : Nat) : Option RegD := (regsOfPage page).find? fun r => r.holds off

/-- The reset value of a register. -/
def RegD.resetWord (r : RegD) : Word := r.fields.foldl (fun w f => putBits w f.hi f.lo f.reset) 0

/-- The reset value of the register at an offset; 0 where there is none. -/
def regReset (page off : Nat) : Word :=
  match findReg page off with
  | some r => r.resetWord
  | none => 0

/-- The table key of a register. -/
def regKey (page off : Nat) : Nat := page * 4096 + off

/-- The stored value of a register (R43). -/
def getReg (s : State) (page off : Nat) : Word :=
  match Tab.get? s.fab.regs (regKey page off) with
  | some w => w
  | none => regReset page off

/-- Stores a register, listing it only while it differs from its reset value. -/
def putReg (page off : Nat) (w : Word) (s : State) : State :=
  { s with fab := { s.fab with regs := Tab.put s.fab.regs (regKey page off) (if w = regReset page off then none else some w) } }

/-- A field of a stored register. -/
def regField (s : State) (page off hi lo : Nat) : Nat := bits (getReg s page off) hi lo

/-- A bit of a stored register. -/
def regBit (s : State) (page off n : Nat) : Bool := bit (getReg s page off) n

/-- Changes a field of a stored register. -/
def putField (page off hi lo v : Nat) (s : State) : State := putReg page off (putBits (getReg s page off) hi lo v) s

/-- Adds to a 32-bit count held in a register; it saturates at all ones. -/
def bumpReg (page off n : Nat) (s : State) : State :=
  putReg page off (word (satAdd 0xFFFFFFFF (getReg s page off).toNat n)) s

/-- Adds to a 32-bit count that wraps. -/
def bumpWrap (page off n : Nat) (s : State) : State := putReg page off (getReg s page off + word n) s

/-- Adds to a 64-bit count held in a register pair, low half first; it saturates at all ones. -/
def bumpReg64 (page off n : Nat) (s : State) : State :=
  let v := satAdd (2 ^ 64 - 1) ((getReg s page off).toNat + 2 ^ 32 * (getReg s page (off + 4)).toNat) n
  putReg page (off + 4) (word (v / 2 ^ 32)) (putReg page off (word v) s)

/-- A stored register survives a reset that restores the registers that pass. -/
def keepsReg (p : Nat → RegD → Bool) (key : Nat) : Bool :=
  match findReg (key / 4096) (key % 4096) with
  | some r => !p (key / 4096) r
  | none => true

/-- Restores the reset value of every stored register that passes (R9, R10). -/
def resetRegs (p : Nat → RegD → Bool) (s : State) : State :=
  { s with fab := { s.fab with regs := Tab.keep s.fab.regs (fun k _ => keepsReg p k) } }

/-- A keeper has switched the island off (R597). -/
def switchedOff (s : State) (i : Island) : Bool := regBit s 1 (0x100 + 4 * i.sensor) 0

/-- The island sleeps in a low-power state (R24, R596). One that a keeper has switched off does not: it takes no work (R597). What
sleeps holds its requests also where it is quiesced (DESIGN CHOICE, log 147). -/
def islandAsleep (s : State) (i : Island) : Bool :=
  let p := (isl s i).power
  (p == 3 || ((p == 0 || p == 4) && !switchedOff s i)) && decide (s.pwr.ps ≥ 3)

/-! ## Requesters -/

/-- The requester is a keeper core (R8, R63). -/
def Requester.isKeeper : Requester → Bool
  | .keeper _ => true
  | .docent _ _ | .host _ | .engine _ => false

/-- How a failed read is answered (R44, R640): all ones to the host, an error response to any other requester. -/
def refuseRead (who : Requester) (code : Nat) (s : State) : State :=
  match who with
  | .host _ => emit (.hostRead 0xFFFFFFFF) s
  | .keeper _ | .docent _ _ | .engine _ => emit (.errorResponse code) s

/-- How a failed write is answered: nothing on PCI Express, an error response to any other requester. -/
def refuseWrite (who : Requester) (code : Nat) (s : State) : State :=
  match who with
  | .host _ => s
  | .keeper _ | .docent _ _ | .engine _ => emit (.errorResponse code) s

/-- The maintenance window of a port lets the host reach a page (R46, R61, R62). -/
def windowOpen (s : State) (port page : Nat) (write : Bool) : Bool :=
  match pageGroup page with
  | none => false
  | some g => regBit s (8 + 4 * port) 0x40 g && (!write || regBit s (8 + 4 * port) 0x44 g)

/-- The port of a requester whose window is closed to a page. -/
def shutPort (s : State) (who : Requester) (page : Nat) (write : Bool) : Option Nat :=
  match who with
  | .host p => if windowOpen s p page write then none else some p
  | .keeper _ | .docent _ _ | .engine _ => none

/-- A register with a field that every writer may write (R8). -/
def openReg (page off : Nat) : Bool :=
  match findReg page off with
  | some r => r.fields.any fun f => f.acc != .ro && f.acc != .rwk
  | none => false

/-- The word a write brings: a field that the writer may not write keeps its value (R8). -/
def takenWord (who : Requester) (page off : Nat) (v : Word) (s : State) : Word :=
  if who.isKeeper then v
  else
    match findReg page off with
    | some r => r.fields.foldl (fun w f => if f.acc = .rwk then putBits w f.hi f.lo (regField s page off f.hi f.lo) else w) v
    | none => v


end Sys2Proof.Machine
end

