-- ==== Sys2Proof/Machine/DramOps.lean ====
section
/-! DEFINITION. The DRAM channels' operations (chapter 12) and the internal address map (R29). -/

namespace Sys2Proof.Machine

/-- A DRAM channel. -/
def drc (s : State) (n : Nat) : DramChan := Tab.getD s.dram.chans n {}

/-- Changes a DRAM channel. -/
def setDrc (n : Nat) (f : DramChan → DramChan) (s : State) : State :=
  { s with dram := { s.dram with chans := Tab.update s.dram.chans n {} f } }

/-- Register page of a channel. -/
def drcPage (n : Nat) : Nat := 240 + n

/-- GiB of a rank built from devices of a width and density code (R490); 0: not supported. -/
def rankGiB (width density : Nat) : Nat :=
  if width = 8 ∧ density = 1 then 16 else if width = 4 ∧ density = 1 then 32 else if width = 8 ∧ density = 2 then 32 else 0

/-- Row bits r of a device type (R490). -/
def rowBitsOf (width density : Nat) : Nat := if rankGiB width density = 16 then 16 else if rankGiB width density = 32 then 17 else 0

/-- Bytes of a rank, of a channel and of the whole as the boot image declares it (R490, R491). -/
def rankBytes (s : State) : Nat := rankGiB s.boot.dramWidth s.boot.dramDensity * 2 ^ 30
def channelBytes (s : State) : Nat := rankBytes s * s.boot.dramRanks
def installedBytes (s : State) : Nat := channelBytes s * (variant s).dram

/-- Width c of the channel field (R493). -/
def channelBits (s : State) : Nat := if (variant s).dram = 8 then 3 else 2

/-- The channel of a DRAM address (R493). -/
def dramChannelOf (s : State) (a : Nat) : Nat := (a / 256) % 2 ^ channelBits s

/-- The channel-local address: the channel field removed (R493). -/
def dramLocal (s : State) (a : Nat) : Nat := a / 2 ^ (8 + channelBits s) * 256 + a % 256

/-- The DRAM address of a channel-local one. -/
def dramGlobal (s : State) (n loc : Nat) : Nat := (loc / 256 * 2 ^ channelBits s + n) * 256 + loc % 256

/-- The fields an address maps to (R493). -/
structure DramPlace where
  byte : Nat
  sub : Nat
  channel : Nat
  bankGroup : Nat
  bank : Nat
  burst : Nat
  row : Nat
  rank : Nat
deriving DecidableEq, Repr

/-- The mapping of R493 for c channel bits and r row bits. -/
def dramPlace (c r a : Nat) : DramPlace :=
  { byte := a % 64, sub := a / 64 % 2, channel := a / 256 % 2 ^ c, bankGroup := a / 2 ^ (8 + c) % 8,
    bank := a / 2 ^ (11 + c) % 4, burst := a / 2 ^ (13 + c) % 32 * 2 + a / 128 % 2, row := a / 2 ^ (18 + c) % 2 ^ r,
    rank := a / 2 ^ (18 + c + r) % 2 }

/-- The rank of a channel-local address (R494). -/
def rankOf (s : State) (loc : Nat) : Nat := if rankBytes s = 0 then 0 else loc / rankBytes s

/-- A channel is trained (R525). -/
def drcTrained (c : DramChan) : Bool := decide (c.state ≥ 2)

/-- Every present channel is trained: the interleave needs them all (R491). -/
def dramTrained (s : State) : Bool := (upTo (variant s).dram).all fun n => drcTrained (drc s n)

/-- A DRAM client meets not-ready while any channel is untrained, quiesced or re-initialising (R491, R523). -/
def dramRefuses (s : State) : Bool :=
  !dramTrained s || (upTo (variant s).dram).any fun n => islandRefuses s (.dram n)

/-- A real-time burst uses a rank: its last real-time chunk is no more than 100 ns old (R504). -/
def rtActive (s : State) (c : DramChan) (rank : Nat) : Bool :=
  match c.rtLast with
  | some (r, t) => r == rank && decide (s.tsc ≤ t + 100)
  | none => false

/-- How a burst stands (R511, R516, R517). -/
inductive BurstState where
  | valid | poisoned | unwritten | waits | failedChannel
deriving DecidableEq, Repr

/-- The state of a burst of a channel-local address. -/
def burstState (c : DramChan) (loc : Nat) : BurstState :=
  let b := loc / 64
  if c.state = 6 then .failedChannel
  else if !c.initDone && decide (b ≥ c.frontier) then .waits
  else if c.poisoned.contains b then .poisoned
  else if decide (loc < c.skip * 4096) && !c.whole.contains b then .unwritten
  else .valid

/-- The state of the burst of a DRAM address. -/
def burstAt (s : State) (a : Nat) : BurstState :=
  match burstState (drc s (dramChannelOf s a)) (dramLocal s a) with
  | .unwritten => if s.dram.filled.any fun e => decide (e.1 ≤ a / 64 * 64) && decide (a / 64 * 64 + 64 ≤ e.2) then .valid else .unwritten
  | .valid => .valid
  | .poisoned => .poisoned
  | .waits => .waits
  | .failedChannel => .failedChannel

/-- An answer of DRAM to a client: an R59 code (0: done) and the bytes of a read. -/
structure DramAns where
  code : Nat
  bytes : List Byte
deriving DecidableEq, Repr

/-- Captures an uncorrectable burst (R511). -/
def noteUncorrectable (n loc : Nat) (s : State) : State :=
  let s := setDrc n (fun c => { c with poisoned := if c.poisoned.contains (loc / 64) then c.poisoned else c.poisoned ++ [loc / 64] }) s
  capture (drcPage n) 0x23 (dramGlobal s n (loc / 64 * 64)) (raiseIrq (drcPage n) 0x400 (bumpReg (drcPage n) 0x5C 1 s))

/-- The code check of one burst read with `symbols` symbols in error: corrected, or uncorrectable (R510, R511). -/
def checkBurst (n loc symbols : Nat) (s : State) : State :=
  if symbols = 0 then s
  else if symbols = 1 then bumpReg (drcPage n) 0x58 1 s
  else noteUncorrectable n loc s

/-- Reads the part of one burst: code, bytes and the state after (R499, R509, R511, R517). -/
def readBurst (a len symbols : Nat) (s : State) : Nat × List Byte × State :=
  let n := dramChannelOf s a
  let loc := dramLocal s a
  match burstAt s a with
  | .waits => (2, [], capture (drcPage n) 2 a s)
  | .failedChannel => (9, [], capture (drcPage n) 9 a s)
  | .unwritten => (9, [], capture (drcPage n) 0x27 (a / 64 * 64) s)
  | .poisoned => (9, [], noteUncorrectable n loc s)
  | .valid =>
    let s' := checkBurst n loc symbols s
    if symbols ≥ 2 then (9, [], s') else (0, readMem s a len, s')

/-- Writes the part of one burst: a whole burst is written at once and becomes valid; a part of one is a read, merge and
write, and fails on a poisoned or unwritten burst (R499, R509, R511, R517). -/
def writeBurst (a : Nat) (bs : List Byte) (symbols : Nat) (s : State) : Nat × State :=
  let n := dramChannelOf s a
  let loc := dramLocal s a
  let b := loc / 64
  if bs.length = 64 ∧ a % 64 = 0 then
    match burstAt s a with
    | .waits => (2, capture (drcPage n) 2 a s)
    | .failedChannel => (0, s)
    | .valid | .poisoned => (0, writeMem a bs (setDrc n (fun c => { c with poisoned := c.poisoned.filter (· != b) }) s))
    | .unwritten => (0, writeMem a bs (setDrc n (fun c => { c with poisoned := c.poisoned.filter (· != b), whole := b :: c.whole }) s))
  else
    match burstAt s a with
    | .waits => (2, capture (drcPage n) 2 a s)
    | .failedChannel => (0, s)
    | .unwritten => (9, capture (drcPage n) 0x27 (a / 64 * 64) s)
    | .poisoned => (9, noteUncorrectable n loc s)
    | .valid =>
      let s' := checkBurst n loc symbols s
      if symbols ≥ 2 then (9, s') else (0, writeMem a bs s')

/-- The bursts that `len` bytes from `a` touch: for each its address and length. -/
def burstsOf (a len : Nat) : List (Nat × Nat) :=
  if len = 0 then [] else
  (upTo ((a + len - 1) / 64 - a / 64 + 1)).map fun i =>
    let lo := max a ((a / 64 + i) * 64)
    let hi := min (a + len) ((a / 64 + i + 1) * 64)
    (lo, hi - lo)

/-- The worse of two answers: the first error stands. -/
def firstCode (a b : Nat) : Nat := if a = 0 then b else a

/-- Reads DRAM burst by burst; `symbols` symbols of the first burst are in error. An unreadable burst delivers no data. -/
def readBursts (symbols : Nat) (s : State) : List (Nat × Nat) → Nat × List Byte × State
  | [] => (0, [], s)
  | (a, l) :: t =>
    let (c, bs, s1) := readBurst a l symbols s
    let (c', bs', s2) := readBursts 0 s1 t
    (firstCode c c', (if c = 0 then bs else zeros l) ++ bs', s2)

/-- Writes DRAM burst by burst. -/
def writeBursts (symbols a0 : Nat) (data : List Byte) (s : State) : List (Nat × Nat) → Nat × State
  | [] => (0, s)
  | (a, l) :: t =>
    let (c, s1) := writeBurst a (sliceBytes data (a - a0) l) symbols s
    let (c', s2) := writeBursts 0 a0 data s1 t
    (firstCode c c', s2)

/-- A client's read of DRAM: R59 code and bytes. -/
def dramRead (symbols a len : Nat) (s : State) : DramAns × State :=
  if a + len > installedBytes s then ({ code := 1, bytes := [] }, capture 0 1 a s)
  else if dramRefuses s then ({ code := 2, bytes := [] }, capture (drcPage (dramChannelOf s a)) 2 a s)
  else
    let (c, bs, s') := readBursts symbols s (burstsOf a len)
    ({ code := c, bytes := bs }, s')

/-- A client's write of DRAM: R59 code. -/
def dramWrite (symbols a : Nat) (data : List Byte) (s : State) : Nat × State :=
  if a + data.length > installedBytes s then (1, capture 0 1 a s)
  else if dramRefuses s then (2, capture (drcPage (dramChannelOf s a)) 2 a s)
  else writeBursts symbols a data s (burstsOf a data.length)

/-- An engine's write of its own data to DRAM, past the frontier (log 16): the bursts become whole and valid. -/
def dramFill (a : Nat) (data : List Byte) (s : State) : State :=
  let mark (p : Nat × Nat) (s : State) : State :=
    let n := dramChannelOf s p.1
    let b := dramLocal s p.1 / 64
    setDrc n (fun c => { c with poisoned := c.poisoned.filter (· != b),
                                whole := if decide (b * 64 < c.skip * 4096) && !c.whole.contains b then b :: c.whole else c.whole }) s
  writeMem a data (doAll mark ((burstsOf a data.length).filter fun p => p.2 == 64) s)

/-- Firmware writes an extent of DRAM whole with zeros: every burst of it is valid. -/
def dramZero (a b : Nat) (s : State) : State :=
  let keep (n loc : Nat) : Bool := let g := dramGlobal s n (loc * 64)
    !(decide (a ≤ g) && decide (g < b))
  let s := clearMem a b { s with dram := { s.dram with chans := Tab.mapVals s.dram.chans fun n c => { c with poisoned := c.poisoned.filter (keep n) } } }
  { s with dram := { s.dram with filled := if s.dram.filled.contains (a, b) then s.dram.filled else (a, b) :: s.dram.filled } }

/-! ## Scheduling (R496 to R498) -/

/-- A rank was refreshed within the last 500 ns (R515). -/
def justRefreshed (s : State) (c : DramChan) : Bool :=
  (c.refreshed0.any fun t => decide (s.tsc < t + 500)) || (c.refreshed1.any fun t => decide (s.tsc < t + 500))

/-- Notes the refresh that takes the debt of a rank from `before` to `after`. -/
def noteRefresh (n rank before after : Nat) (s : State) : State :=
  if after ≥ before then s
  else setDrc n (fun c => if rank = 0 then { c with refreshed0 := some s.tsc } else { c with refreshed1 := some s.tsc }) s

/-- The request is not issued yet: its channel sleeps in a low-power state (R24) or is held for command/address retraining
(R509), background work and zeroing have stopped at a power failure (R522), or a burst of it lies at or above the frontier (R516). -/
def dramHolds (r : DramReq) (s : State) : Bool :=
  let n := dramChannelOf s r.addr
  let c := drc s n
  (islandPresent s (.dram n) && islandAsleep s (.dram n)) || c.caRetrain
    || (s.dram.stopped && (r.client.cls == 2 || r.client == .zeroing))
    || (r.client != .zeroing && drcTrained c && decide (r.addr + r.op.len ≤ installedBytes s)
        && (burstsOf r.addr r.op.len).any fun b => burstAt s b.1 == .waits)

/-- Two requests touch one burst (R498). -/
def DramReq.meets (x y : DramReq) : Bool :=
  decide (x.addr / 64 * 64 < y.addr + y.op.len) && decide (y.addr / 64 * 64 < x.addr + x.op.len)

/-- The requests that a channel may issue now: not held, and behind no earlier request to one of their bursts (R498). -/
def issuable (s : State) : List DramReq → List DramReq → List DramReq
  | _, [] => []
  | before, r :: rs =>
    let rest := issuable s (r :: before) rs
    if dramHolds r s || before.any r.meets then rest else r :: rest

/-- The bank that a request opens, by rank, bank group and bank (R493). -/
def dramBank (s : State) (a : Nat) : Nat :=
  let p := dramPlace (channelBits s) (drc s (dramChannelOf s a)).rowBits a
  (p.rank * 8 + p.bankGroup) * 4 + p.bank

/-- The next access of a channel (R497), and whether a background request takes a slot of its share. Where every bank that is asked
for is closing, the oldest of the class goes (log 133). -/
def nextAccess (s : State) (n : Nat) : Option (DramReq × Bool) :=
  let c := drc s n
  let all := issuable s [] c.waiting
  let free (r : DramReq) : Bool := c.lastBank != some (dramBank s r.addr)
  let bg := all.filter fun r => r.client.cls == 2
  let rt := all.filter fun r => r.client.cls == 0
  let maps := all.filter fun r => r.client == .mapRead
  let bulk := all.filter fun r => r.client.cls == 1 && r.client != .mapRead
  let pick (xs : List DramReq) : Option DramReq := xs.find? free
  let other := (pick rt).or (maps.head?.or ((pick bulk).or (rt.head?.or bulk.head?)))
  match bg.head?, other with
  | some b, some o => if c.bgCredit ≥ 256 then some (b, true) else some (o, false)
  | some b, none => some (b, false)
  | none, some o => some (o, false)
  | none, none => none

/-- A command is issued: it stands in the retry buffer for 30 ns and waits while that is full (R507), ends a run of replays, opens
its bank, and a real-time one marks its rank's burst (R504). -/
def noteIssue (client : DramClient) (a : Nat) (s : State) : State :=
  let n := dramChannelOf s a
  let loc := dramLocal s a
  let rank := rankOf s loc
  let live (t : Nat) : List (Nat × Nat) := (drc s n).retry.filter fun e => decide (t ≤ e.1 + 30)
  let now := if (live s.tsc).length < 64 then s.tsc else (((live s.tsc).head?.map Prod.fst).getD s.tsc) + 31
  let bank := dramBank s a
  setDrc n (fun c => { c with
    retry := live now ++ [(now, loc / 64)], replays := 0, lastBank := some bank,
    rtLast := if client.cls = 0 then some (rank, now) else c.rtLast }) { s with tsc := now % 2 ^ 64 }

/-- Zeroing writes the bursts at its frontier, which moves on over them (R516). -/
def zeroAt (r : DramReq) (s : State) : State :=
  let n := dramChannelOf s r.addr
  let first := dramLocal s r.addr / 64
  setDrc n (fun c => if c.zeroing && !c.initDone && first == c.frontier then
    { c with frontier := min (channelBytes s / 64) (first + ceilDiv r.op.len 64) } else c) s

/-- A request is performed and answered (R497 to R499). -/
def dramPerform (r : DramReq) (s : State) : State :=
  let s0 := noteIssue r.client r.addr s
  if r.client == .zeroing then zeroAt r s0 else
  match r.op with
  | .read len =>
    let (a, s1) := dramRead r.symbols r.addr len s0
    emit (if a.code = 0 then .coreRead (ofLe a.bytes) else .errorResponse a.code) s1
  | .write bs =>
    let (c, s1) := dramWrite r.symbols r.addr bs s0
    if c = 0 then s1 else emit (.errorResponse c) s1

/-- One issue slot of a channel: background requests that wait earn their share of it (R497). -/
def issueSlot (n : Nat) (s : State) : State :=
  match nextAccess s n with
  | none => s
  | some (r, share) =>
    let waits := (drc s n).waiting.any fun x => x.client.cls == 2
    let earned := if waits then regField s (drcPage n) 0x48 7 0 else 0
    dramPerform r (setDrc n (fun c => { c with
      waiting := dropFirst (· == r) c.waiting, bgCredit := if share then c.bgCredit - 256 else min 511 (c.bgCredit + earned) }) s)

/-- A channel serves what waits until nothing can be issued. -/
def dramServe (n : Nat) (s : State) : State := (upTo (drc s n).waiting.length).foldl (fun t _ => issueSlot n t) s

/-- A request reaches its channel. -/
def dramRequest (r : DramReq) (s : State) : State :=
  let n := dramChannelOf s r.addr
  let s := setDrc n (fun c => { c with waiting := c.waiting ++ [r] }) s
  if islandPresent s (.dram n) && islandAsleep s (.dram n) then setIsl (.dram n) (fun h => { h with wakePending := true }) s else dramServe n s

/-- The preemption and the boundary refresh once a rank's debt is known: at 4 during a real-time burst one refresh is issued
at the next 256-byte boundary (R504); above 4 the burst is preempted until the debt is 3 (R506). -/
def settleDebt (n rank debt : Nat) (s : State) : Nat × State :=
  if rtActive s (drc s n) rank then
    if debt > 4 then (3, capture (drcPage n) 0x24 (pageAddr (drcPage n) 0x44) (raiseIrq (drcPage n) 0x200 (bumpReg (drcPage n) 0x64 1 s)))
    else if debt = 4 then (3, s) else (debt, s)
  else (0, s)

/-- The debt and rate indication of a rank. -/
def debtOf (c : DramChan) (rank : Nat) : Nat := if rank = 0 then c.debt0 else c.debt1
def indOf (c : DramChan) (rank : Nat) : Nat := if rank = 0 then c.ind0 else c.ind1
def setDebt (n rank v : Nat) (s : State) : State :=
  setDrc n (fun c => if rank = 0 then { c with debt0 := v } else { c with debt1 := v }) s
def setInd (n rank v : Nat) (s : State) : State :=
  setDrc n (fun c => if rank = 0 then { c with ind0 := v } else { c with ind1 := v }) s

/-- The state a channel that serves traffic stands in: initialising or running (R525). -/
def servingState (c : DramChan) : Nat := if c.initDone then 3 else 2

/-- A channel's memory loses its contents (R511, R516). -/
def clearChannel (n fromLoc : Nat) (s : State) : State :=
  { s with mem := s.mem.filter fun c => !(decide (c.1 < 2 ^ 39) && dramChannelOf s c.1 == n && decide (dramLocal s c.1 ≥ fromLoc)) }

/-- Zeroing starts at the skip in effect (R516, R517). -/
def startZeroing (n : Nat) (s : State) : State :=
  let skip := regField s (drcPage n) 0x68 24 0
  let s := clearChannel n 0 s
  setDrc n (fun c => { c with zeroing := true, heldGo := false, skip := skip, frontier := skip * 64, whole := [], poisoned := [] }) s

/-- Starts a retraining slice of 128 steps (R515); DRC_RETRAIN.go is set until it ends (log 132). -/
def startSlice (n : Nat) (s : State) : State :=
  let c := drc s n
  if c.slice.isSome then s
  else if !(c.state == 2 || c.state == 3) then setDrc n (fun c => { c with retrainGo := true }) s
  else setDrc n (fun c => { c with slice := some 128, state := 4, retrainGo := true }) s

/-- DRC_INIT_SKIP (R516, R525): the skip is set unless zeroing runs, and go starts zeroing, or is held until training ends. -/
def writeInitSkip (n : Nat) (v : Word) (s : State) : State :=
  let c := drc s n
  let running := c.zeroing && !c.initDone
  let s1 := if running then capture (drcPage n) 0x26 (pageAddr (drcPage n) 0x68) s
            else putField (drcPage n) 0x68 24 0 (bits v 24 0) s
  if !bit v 31 || c.zeroing then s1
  else if drcTrained c then dramServe n (startZeroing n s1)
  else setDrc n (fun c => { c with heldGo := true }) s1

/-- DRC_STAT (R525). -/
def drcStat (s : State) (n : Nat) : Word :=
  let c := drc s n
  word (c.state * 2 ^ 24 + flag c.rank1Power * 2 ^ 19 + c.ind1 * 2 ^ 12 + c.ind0 * 2 ^ 10 + (c.debt1 % 16) * 16 + c.debt0 % 16)

/-- DRC_TOPO (R525). -/
def drcTopo (s : State) (n : Nat) : Word :=
  let c := drc s n
  word (c.rate * 2 ^ 20 + c.rowBits * 2 ^ 12 + c.ranks * 2 ^ 8 + c.density * 16 + c.width)

/-- DRC_INIT_FRONT (R525). -/
def drcFront (s : State) (n : Nat) : Word :=
  let c := drc s n
  word (flag c.initDone * 2 ^ 31 + (c.frontier / 64) % 2 ^ 25)

/-! ## The address map (R29) -/

/-- Where an internal address lies. -/
inductive MemPlace where
  | dram | docentLocal (g k off : Nat) | galleryShared (g off : Nat) | keeperLocal (k off : Nat) | keeperShared (off : Nat)
  | bootRom (off : Nat) | page (n off : Nat) | nowhere
deriving DecidableEq, Repr

/-- Bases of the ranges of R29. -/
def galleryBase (g : Nat) : Nat := 0x010000000000 + g * 0x01000000
def docentLocalBase (g k : Nat) : Nat := galleryBase g + k * 0x10000
def galleryShareBase (g : Nat) : Nat := galleryBase g + 0x200000
def keeperLocalBase (k : Nat) : Nat := 0x011000000000 + k * 0x40000
def keeperShareBase : Nat := 0x011001000000
def bootRomBase : Nat := 0x011002000000
def pageBase : Nat := 0x020000000000

/-- The range an address lies in (R29). -/
def placeOf (a : Nat) : MemPlace :=
  if a < 2 ^ 39 then .dram
  else if galleryBase 0 ≤ a ∧ a < galleryBase 16 then
    let g := (a - galleryBase 0) / 0x01000000
    let o := (a - galleryBase 0) % 0x01000000
    if o < 17 * 0x10000 then .docentLocal g (o / 0x10000) (o % 0x10000)
    else if 0x200000 ≤ o ∧ o < 0x400000 then .galleryShared g (o - 0x200000)
    else .nowhere
  else if keeperLocalBase 0 ≤ a ∧ a < keeperLocalBase 4 then
    .keeperLocal ((a - keeperLocalBase 0) / 0x40000) ((a - keeperLocalBase 0) % 0x40000)
  else if keeperShareBase ≤ a ∧ a < keeperShareBase + 0x800000 then .keeperShared (a - keeperShareBase)
  else if bootRomBase ≤ a ∧ a < bootRomBase + 0x40000 then .bootRom (a - bootRomBase)
  else if pageBase ≤ a ∧ a < pageBase + 264 * 0x1000 then .page ((a - pageBase) / 0x1000) ((a - pageBase) % 0x1000)
  else .nowhere

/-- The island whose primary page captures an error of a memory (R59). -/
def MemPlace.island : MemPlace → Option Island
  | .docentLocal g _ _ => some (.gallery g)
  | .galleryShared g _ => some (.gallery g)
  | .keeperLocal _ _ => some .keeper
  | .keeperShared _ => some .keeper
  | .dram => none
  | .bootRom _ => none
  | .page _ _ => none
  | .nowhere => none

/-- Bytes from an address to the end of its range, the local memories of one island being one range (R29). -/
def placeRoom (a : Nat) : Nat :=
  match placeOf a with
  | .dram => 2 ^ 39 - a
  | .docentLocal _ k o => 17 * 0x10000 - (k * 0x10000 + o)
  | .galleryShared _ o => 0x200000 - o
  | .keeperLocal k o => 0x100000 - (k * 0x40000 + o)
  | .keeperShared o => 0x800000 - o
  | .bootRom o => 0x40000 - o
  | .page p o => 264 * 0x1000 - (p * 0x1000 + o)
  | .nowhere => 0

/-- A read of a memory by an engine or a far load: the R59 code and bytes. Pages are served by the page access and the boot ROM
by keeper loads only, so both meet the decode error here, as does a read that runs out of its range (R29, R30). -/
def busRead (a len : Nat) (s : State) : DramAns × State :=
  if len > placeRoom a then ({ code := 1, bytes := [] }, capture 0 1 a s) else
  match placeOf a with
  | .dram => dramRead 0 a len s
  | .docentLocal g _ _ | .galleryShared g _ =>
    if islandRefuses s (.gallery g) then ({ code := 2, bytes := [] }, capture (208 + g) 2 a s) else ({ code := 0, bytes := readMem s a len }, s)
  | .keeperLocal _ _ | .keeperShared _ =>
    if islandRefuses s .keeper then ({ code := 2, bytes := [] }, capture 224 2 a s) else ({ code := 0, bytes := readMem s a len }, s)
  | .bootRom _ | .page _ _ | .nowhere => ({ code := 1, bytes := [] }, capture 0 1 a s)

/-- A write of a memory by an engine or a far store: the R59 code. -/
def busWrite (a : Nat) (bs : List Byte) (s : State) : Nat × State :=
  if bs.length > placeRoom a then (1, capture 0 1 a s) else
  match placeOf a with
  | .dram => dramWrite 0 a bs s
  | .docentLocal g _ _ | .galleryShared g _ =>
    if islandRefuses s (.gallery g) then (2, capture (208 + g) 2 a s) else (0, writeMem a bs s)
  | .keeperLocal _ _ | .keeperShared _ =>
    if islandRefuses s .keeper then (2, capture 224 2 a s) else (0, writeMem a bs s)
  | .bootRom _ | .page _ _ | .nowhere => (1, capture 0 1 a s)

end Sys2Proof.Machine
end

