-- ==== Sys2Proof/Machine/CoreOps.lean ====
section
/-! DEFINITION. Cores, galleries, performance counters and mailbox channels: the operations their commands share (chapters 09, 14). -/

namespace Sys2Proof.Machine

/-! ## Galleries and cores -/

/-- A gallery. -/
def gal (s : State) (g : Nat) : Gallery := Tab.getD s.gals g {}

/-- Changes a gallery. -/
def setGal (g : Nat) (f : Gallery → Gallery) (s : State) : State := { s with gals := Tab.update s.gals g {} f }

/-- A core. -/
def getCore (s : State) : CoreId → Core
  | .docent g k => Tab.getD (gal s g).cores k {}
  | .keeper k => Tab.getD s.kprs k {}

/-- Changes a core. -/
def setCore (c : CoreId) (f : Core → Core) (s : State) : State :=
  match c with
  | .docent g k => setGal g (fun x => { x with cores := Tab.update x.cores k {} f }) s
  | .keeper k => { s with kprs := Tab.update s.kprs k {} f }

/-- The island of a core. -/
def CoreId.island : CoreId → Island
  | .docent g _ => .gallery g
  | .keeper _ => .keeper

/-- A core runs in keeper mode (R356). -/
def CoreId.isKeeper : CoreId → Bool
  | .docent _ _ => false
  | .keeper _ => true

/-- The requester a core is. -/
def CoreId.requester : CoreId → Requester
  | .docent g k => .docent g k
  | .keeper k => .keeper k

/-- A Docent core is fenced; a keeper core never is. -/
def coreFenced (s : State) : CoreId → Bool
  | .docent g k => (gal s g).fenced.contains k
  | .keeper _ => false

/-- The core exists on this variant (R1, R16). -/
def coreExists (s : State) : CoreId → Bool
  | .docent g k => islandPresent s (.gallery g) && decide (k ≤ 16)
  | .keeper k => decide (k < 4)

/-- A request of a fenced core is dropped at its isolation gate and counted; the first since arming captures 0x23 and raises
fenced_write (R458). -/
def gateDrop (g : Nat) (s : State) : State :=
  let s := bumpReg 236 (0x80 + 4 * g) 1 s
  if (gal s g).dropCaptured then s
  else setGal g (fun x => { x with dropCaptured := true })
    (capture 232 0x23 (pageAddr 236 (0x80 + 4 * g)) (raiseIrq 232 0x1000 s))

/-! ## Performance counters (R586 to R590) -/

/-- The core PMC_SEL names (R594). -/
def pmcCore (s : State) : CoreId :=
  let w := getReg s 256 0x40
  if bit w 12 then .keeper (bits w 4 0) else .docent (bits w 11 8) (bits w 4 0)

/-- Adds to a counter of a core: it wraps at 2^48 and sets its wrap flag (R586); the flag of the selected core raises pmc_overflow (R595). -/
def pmcAdd (c : CoreId) (i n : Nat) (s : State) : State :=
  let v := Tab.getD (getCore s c).pmc i 0 + n
  let wrap := decide (v ≥ 2 ^ 48)
  let s := setCore c (fun x => { x with
    pmc := Tab.set x.pmc i (v % 2 ^ 48), pmcOvf := if wrap then x.pmcOvf ||| BitVec.ofNat 8 (2 ^ i) else x.pmcOvf }) s
  if wrap && pmcCore s == c then raiseIrq 256 0x100 s else s

/-- Adds one to a counter of a core. -/
def pmcCount (c : CoreId) (i : Nat) (s : State) : State := pmcAdd c i 1 s

/-- Counts an event in every counter of a core that selects it (R587). -/
def pmcEvent (c : CoreId) (code : Nat) (s : State) : State :=
  doAll (pmcCount c) ((upTo 8).filter fun i => Tab.getD (getCore s c).pmcSel i 0 == code) s

/-! ## Mailboxes -/

/-- Page and base offset of a channel's registers. -/
def mbxPage (n : Nat) : Nat := 252 + n / 128
def mbxBase (n : Nat) : Nat := 0x100 + 8 * (n % 128)

/-- MBX_CFG of a channel (R591). -/
def mbxCfg (s : State) (n : Nat) : Word := getReg s (mbxPage n) (mbxBase n)

/-- The sender stamp of a core: bits [55:32] of R574. -/
def CoreId.stamp : CoreId → Nat
  | .docent g k => 0x500000 + g * 256 + k
  | .keeper k => 0x510000 + k

/-- The stamp of the Registrar (R574). -/
def registrarStamp : Nat := 0x520000

/-- The core a stamp names. -/
def stampCore (st : Nat) : Option CoreId :=
  if st / 0x10000 = 0x50 then some (.docent (st / 256 % 256) (st % 256))
  else if st / 0x10000 = 0x51 then some (.keeper (st % 256)) else none

/-- MBX_STAT of a channel (R591). -/
def mbxStat (s : State) (n : Nat) : Word :=
  match Tab.get? s.mbx n with
  | none => 0
  | some m => word (2 ^ 31 + flag m.timedOut * 2 ^ 30 + m.stamp)

/-! ## Events of keeper cores (R405, R408, R413) -/

/-- The row of R46 that a page stands in, counting TOP as 0 (R413). -/
def blockRow (page : Nat) : Nat :=
  ((upTo 21).filter fun r => decide (([0, 1, 2, 3, 8, 16, 32, 64, 160, 176, 192, 200, 208, 224, 232, 240, 248, 249, 250, 252, 256][r]?).getD 0 ≤ page)).length - 1

/-- KPR_IRQ_PEND (R413): the blocks with a page whose status and enable bits meet. -/
def irqPending (s : State) : List Nat :=
  (s.fab.pages.filter fun e => e.2.irqStat &&& e.2.irqEn != 0).map fun e => blockRow e.1

/-- A page event that KPR_IRQ_SEL_k selects is pending (R405, R413). -/
def pageEvent (s : State) (k : Nat) : Bool := (irqPending s).any fun b => bit (getReg s 224 (0x58 + 4 * k)) b

/-- A mailbox event is pending for keeper core k: a channel addressed to it is full (R577). -/
def mailboxPending (s : State) (k : Nat) : Bool :=
  s.mbx.any fun e => bits (mbxCfg s e.1) 31 30 == 1 && bits (mbxCfg s e.1) 19 16 == k

/-- An event of R405 is pending for keeper core k. -/
def keeperEvent (s : State) (k : Nat) : Bool := pageEvent s k || mailboxPending s k

/-- WAIT ends for every keeper core with an event pending (R408): what takes an event away wakes the cores first. -/
def wakeKeepers (s : State) : State :=
  doAll (fun k s => if (getCore s (.keeper k)).waiting && keeperEvent s k then setCore (.keeper k) (fun c => { c with waiting := false }) s else s) (upTo 4) s

/-! ## Posts and takes -/

/-- Sets POST_RESULT of a core for a post to channel n (R582). -/
def setPostResult (c : CoreId) (n result : Nat) (s : State) : State :=
  setCore c (fun x => { x with postResult := word (n * 65536 + result) }) s

/-- The word of a channel leaves or times out: the sender's POST_RESULT follows while its latest post is that word (R582). -/
def notePost (n result : Nat) (s : State) : State :=
  match Tab.get? s.mbx n with
  | none => s
  | some m =>
    match stampCore m.stamp with
    | some (.docent g k) =>
      let w := (getCore s (.docent g k)).postResult
      if bits w 24 16 = n ∧ (bits w 2 0 = 1 ∨ bits w 2 0 = 3) then setPostResult (.docent g k) n result s else s
    | some (.keeper _) => s
    | none => s

/-- The island's wake event is raised: it waits where the island does not run (R24, R577, R578). -/
def wakeIsland (i : Island) (s : State) : State :=
  if (isl s i).power ≠ 2 ∨ islandRefuses s i then setIsl i (fun h => { h with wakePending := true }) s else s

/-- The receiver of a channel is woken (R577). -/
def wakeReceiver (n : Nat) (s : State) : State :=
  let w := mbxCfg s n
  if bits w 31 30 = 1 then wakeIsland .keeper s
  else if bits w 31 30 = 2 then wakeIsland (.gallery (bits w 19 16)) s
  else s

/-- A post reaches a channel: stored in an empty one, refused by a full one (R572). The flag says whether it was held. -/
def mbxPost (n stamp : Nat) (v : Word) (s : State) : Bool × State :=
  if Tab.has s.mbx n then
    (false, capture 252 0x20 (pageAddr (mbxPage n) (mbxBase n)) (raiseIrq 252 0x200 (bumpReg 252 0x40 1 s)))
  else (true, wakeReceiver n { s with mbx := Tab.set s.mbx n { word := v, stamp := stamp, since := s.tsc } })

/-- A take: the 64-bit value of R574, 0 from an empty channel (R573). -/
def mbxTake (n : Nat) (s : State) : Nat × State :=
  match Tab.get? s.mbx n with
  | none => (0, s)
  | some m => (2 ^ 63 + m.stamp * 2 ^ 32 + m.word.toNat, { notePost n 4 (wakeKeepers s) with mbx := Tab.del s.mbx n })

/-! ## Compression rings fed by mailboxes (R353, R354, R585) -/

/-- The primary page of an island, and page and base of a ring's registers (R353). -/
def cmpPage (c : Nat) : Nat := 192 + 4 * c
def ringPage (c r : Nat) : Nat := cmpPage c + 1 + r / 16
def ringBase (r : Nat) : Nat := 0x40 + 0x20 * (r % 16)

/-- Ring registers. -/
def ringCfg (s : State) (c r : Nat) : Word := getReg s (ringPage c r) (ringBase r + 8)
def ringSize (s : State) (c r : Nat) : Nat := 2 ^ bits (ringCfg s c r) 11 8
def ringTail (s : State) (c r : Nat) : Nat := regField s (ringPage c r) (ringBase r + 0xC) 11 0
def ringHead (s : State) (c r : Nat) : Nat := regField s (ringPage c r) (ringBase r + 0x10) 11 0
def ringAddr (s : State) (c r : Nat) : Nat :=
  (getReg s (ringPage c r) (ringBase r)).toNat + 2 ^ 32 * regField s (ringPage c r) (ringBase r + 4) 15 0

/-- A write of CMP_RING_TAIL. -/
def ringTailWrite (c r v : Nat) (s : State) : State :=
  if v ≥ ringSize s c r then capture (cmpPage c) 0x21 (pageAddr (ringPage c r) (ringBase r + 0xC)) s
  else putReg (ringPage c r) (ringBase r + 0xC) (word v) s

/-- The rings that a mailbox channel feeds. -/
def ringsOfChannel (s : State) (n : Nat) : List (Nat × Nat) :=
  (upTo 2).flatMap fun c => (upTo 32).filterMap fun r =>
    let w := ringCfg s c r
    if bit w 31 && bit w 0 && bits w 24 16 == n then some (c, r) else none

/-- An enabled ring that names the channel takes its word (R354, R585). -/
def ringTake (n : Nat) (s : State) : State :=
  match Tab.get? s.mbx n, ringsOfChannel s n with
  | some m, (c, r) :: _ =>
    let s := (mbxTake n s).2
    if m.word.toNat ≥ 4096 then capture (cmpPage c) 0x21 (pageAddr (ringPage c r) (ringBase r + 0xC)) s
    else ringTailWrite c r m.word.toNat s
  | _, _ => s

/-- A post of a core: its POST_RESULT follows (R582), a fenced core's is dropped (R580), and a
compression ring that names the channel takes the word (R585). -/
def corePost (c : CoreId) (n : Nat) (v : Word) (s : State) : State :=
  match c with
  | .docent g k =>
    if coreFenced s c then gateDrop g s
    else
      let (ok, s) := mbxPost n c.stamp v s
      ringTake n (pmcEvent c (if ok then 0x11 else 0x12) (setPostResult (.docent g k) n (if ok then 1 else 2) s))
  | .keeper _ =>
    let (ok, s) := mbxPost n c.stamp v s
    ringTake n (pmcEvent c (if ok then 0x11 else 0x12) s)

/-- A take of a core. -/
def coreTake (c : CoreId) (n : Nat) (s : State) : Nat × State :=
  let (v, s) := mbxTake n s
  (v, if v = 0 then s else pmcEvent c 0x13 s)

/-- A recall: it empties a channel that holds a word of the recaller, else captures 0x23 (R576). -/
def mbxRecall (c : CoreId) (n : Nat) (s : State) : State :=
  match Tab.get? s.mbx n with
  | none => capture 252 0x23 (pageAddr (mbxPage n) (mbxBase n)) s
  | some m =>
    if m.stamp = c.stamp then { notePost n 5 (wakeKeepers s) with mbx := Tab.del s.mbx n }
    else capture 252 0x23 (pageAddr (mbxPage n) (mbxBase n)) s

/-- The clock moves on to a moment that has come, never back. -/
def advanceTo (t : Nat) (s : State) : State := { s with tsc := max s.tsc t }

/-- A channel's timeout expires (R575). -/
def mbxTimeout (n : Nat) (s : State) : State :=
  let us := bits (mbxCfg s n) 15 0
  match Tab.get? s.mbx n with
  | none => s
  | some m =>
    if us = 0 ∨ m.timedOut then s
    else
      let s := advanceTo (m.since + us * 1000) s
      let s := notePost n 3 { s with mbx := Tab.set s.mbx n { m with timedOut := true } }
      capture 252 0x21 (pageAddr (mbxPage n) (mbxBase n + 4)) (raiseIrq 252 0x100 (bumpReg 252 0x48 1 s))

/-- A write of MBX_CFG (R592). -/
def mbxConfig (n : Nat) (v : Word) (s : State) : State :=
  let kind := bits v 31 30
  let rcv := bits v 19 16
  if kind = 3 ∨ (kind = 1 ∧ rcv > 3) ∨ (kind = 2 ∧ !islandPresent s (.gallery rcv)) then
    capture 252 0x24 (pageAddr (mbxPage n) (mbxBase n)) s
  else
    let s := putReg (mbxPage n) (mbxBase n) (v &&& 0xC00FFFFF) (wakeKeepers s)
    if Tab.has s.mbx n then
      wakeReceiver n { s with mbx := Tab.adjust s.mbx n (fun m => { m with since := s.tsc }) }
    else s

/-! ## PMC registers (R594, R595) -/

/-- Core k of a gallery, or a keeper core, that PMC_SEL names exists. -/
def pmcSelected (s : State) : Bool := coreExists s (pmcCore s)

/-- A write of PMC_SEL: an absent core captures 0x22. -/
def pmcSelWrite (v : Word) (s : State) : State :=
  let s := putReg 256 0x40 (v &&& 0x1F1F) s
  if pmcSelected s then s else capture 256 0x22 (pageAddr 256 0x40) s

/-- The events of R587 that count what the model has no clock for: gated cycles, bank conflict cycles, cycles with a full store
queue, and instruction cache misses. -/
def timedEvent (e : Nat) : Bool := [0x02, 0x05, 0x06, 0x07].contains e

/-- A counter of such an event is brought up to date: how much it has counted is free (log 129). -/
def settleCounter (c : CoreId) (i : Nat) (s : State) : State :=
  if timedEvent (Tab.getD (getCore s c).pmcSel i 0) then
    let (d, s) := draw s
    pmcAdd c i d s
  else s

/-- A write of PMC_EVSEL_LO or _HI: an undefined event is ignored and captures 0x21 (R587). -/
def pmcEvselWrite (high : Bool) (v : Word) (s : State) : State :=
  if !pmcSelected s then s
  else doAll (fun j s =>
    let e := bits v (8 * j + 7) (8 * j)
    if e > 0x17 then capture 256 0x21 (pageAddr 256 (if high then 0x4C else 0x48)) s
    else
      let i := j + (if high then 4 else 0)
      setCore (pmcCore s) (fun c => { c with pmcSel := Tab.set c.pmcSel i e }) (settleCounter (pmcCore s) i s)) (upTo 4) s

/-- PMC_EVSEL_LO or _HI of the selected core. -/
def pmcEvsel (s : State) (high : Bool) : Word :=
  if pmcSelected s then
    word ((upTo 4).foldr (fun j acc => Tab.getD (getCore s (pmcCore s)).pmcSel (j + (if high then 4 else 0)) 0 + 256 * acc) 0)
  else 0

/-- A write of PMC_CLR: the counters named become 0. -/
def pmcClrWrite (v : Word) (s : State) : State :=
  if !pmcSelected s then s
  else setCore (pmcCore s) (fun c => { c with
    pmcCycles := if bit v 8 then 0 else c.pmcCycles, pmc := Tab.keep c.pmc (fun i _ => !bit v i) })
    (doAll (settleCounter (pmcCore s)) ((upTo 8).filter fun i => bit v i) s)

/-- A write of PMC_OVF (W1C). -/
def pmcOvfWrite (v : Word) (s : State) : State :=
  if !pmcSelected s then s else setCore (pmcCore s) (fun c => { c with pmcOvf := c.pmcOvf &&& ~~~ (v.setWidth 8) }) s

/-- A read of a core's cycle counter: the cycles that have passed since the last read are free (log 26). -/
def readCycles (c : CoreId) (s : State) : Nat × State :=
  let (d, s) := draw s
  let v := ((getCore s c).pmcCycles + d) % 2 ^ 64
  (v, setCore c (fun x => { x with pmcCycles := v }) s)

/-- A read of a counter or of the wrap flags of the selected core finds them up to date. -/
def settleShown (off : Nat) (s : State) : State :=
  if !pmcSelected s then s
  else if off = 0x50 ∨ off = 0x54 then (readCycles (pmcCore s) s).2
  else if 0x58 ≤ off ∧ off < 0x98 then settleCounter (pmcCore s) ((off - 0x58) / 8) s
  else if off = 0x98 then doAll (settleCounter (pmcCore s)) (upTo 8) s
  else s

/-- A write of PMC_SAMPLE_PER (R594). -/
def samplePerWrite (g : Nat) (v : Word) (s : State) : State :=
  let p := bits v 19 0
  if 1 ≤ p ∧ p ≤ 15 then capture 256 0x21 (pageAddr 257 (0x44 + 16 * g)) s else putReg 257 (0x44 + 16 * g) (word p) s

/-- A precise sample of a core (R590): the record, then the head; the count starts again with a free part of 0 to 15. -/
def takeSample (g k instr latency : Nat) (faulted : Bool) (s : State) : State :=
  let base := 0x40 + 16 * g
  let period := regField s 257 (base + 4) 19 0
  let c := getCore s (.docent g k)
  if period = 0 ∨ !regBit s 257 base k ∨ c.sampleLeft ≠ 0 then s
  else
    let head := (getReg s 257 (base + 8)).toNat
    let rec' := leBytes 4 c.pc.toNat ++ leBytes 4 instr ++ leBytes 2 (min 0xFFFF latency) ++ leBytes 1 k ++ leBytes 1 (flag faulted)
      ++ leBytes 4 s.tsc
    let s := writeMem (galleryShareBase g + 0x1FF000 + 16 * (head % 256)) rec' s
    let (v, s) := draw s
    setCore (.docent g k) (fun c => { c with sampleLeft := period + v % 16 }) (bumpWrap 257 (base + 8) 1 s)

end Sys2Proof.Machine
end

