-- ==== Sys2Proof/Machine/RgsOps.lean ====
section
/-! DEFINITION. The Registrar's operations: contexts, submissions, posts, ready lists, dispatch, executions, fences and moves (chapter 10). -/

namespace Sys2Proof.Machine

/-- Changes the Registrar. -/
def setRgs (f : Registrar → Registrar) (s : State) : State := { s with rgs := f s.rgs }

/-! ## Contexts (R424, R425) -/

/-- A field of a context record. -/
def ctxLe (s : State) (c o k : Nat) : Nat := leAt (Tab.getD s.rgs.contexts c []) o k
def ctxState (s : State) (c : Nat) : Nat := ctxLe s c 0 1
def ctxIdempotent (s : State) (c : Nat) : Bool := ctxLe s c 1 1 % 2 == 1
def ctxPermPmc (s : State) (c : Nat) : Bool := ctxLe s c 1 1 / 2 % 2 == 1
def ctxDomain (s : State) (c : Nat) : Nat := ctxLe s c 2 1
def ctxCeiling (s : State) (c : Nat) : Nat := ctxLe s c 3 1
def ctxListSet (s : State) (c : Nat) : Nat := ctxLe s c 6 2
def ctxCode (s : State) (c : Nat) : Nat := ctxLe s c 8 4
def ctxG (s : State) (c : Nat) : Nat := ctxLe s c 12 4
def ctxBudget (s : State) (c : Nat) : Nat := ctxLe s c 16 4
def ctxRunLimit (s : State) (c : Nat) : Nat := ctxLe s c 20 4
def ctxSlotBase (s : State) (c : Nat) : Nat := ctxLe s c 24 4 % 2 ^ 18
def ctxSlotCount (s : State) (c : Nat) : Nat := ctxLe s c 28 4
def ctxFlowBase (s : State) (c : Nat) : Nat := ctxLe s c 32 2 % 4096
def ctxFlowCount (s : State) (c : Nat) : Nat := ctxLe s c 34 2
def ctxEntries (s : State) (c : Nat) : Nat := ctxLe s c 36 1
def ctxSlmBase (s : State) (c : Nat) : Nat := ctxLe s c 40 8
def ctxSlmLen (s : State) (c : Nat) : Nat := ctxLe s c 48 8
def ctxEntry (s : State) (c i : Nat) : Nat := ctxLe s c (64 + 2 * i) 2

/-- A context allows a gallery that is present (R427). -/
def ctxAllows (s : State) (c g : Nat) : Bool := islandPresent s (.gallery g) && (ctxLe s c 4 2).testBit g

/-- The galleries of an affinity that count (R427). -/
def affinityOf (s : State) (c aff : Nat) : List Nat := (upTo 16).filter fun g => aff.testBit g && ctxAllows s c g

/-! ## Slots -/

/-- The context of a live ticket, and its words. -/
def Ticket.w0 (t : Ticket) : Nat := leAt t.desc 0 8
def Ticket.w1 (t : Ticket) : Nat := leAt t.desc 8 8
def Ticket.ctx (t : Ticket) : Nat := nbits t.w0 31 20
def Ticket.entry (t : Ticket) : Nat := nbits t.w0 35 32
def Ticket.priority (t : Ticket) : Nat := nbits t.w0 38 36
def Ticket.flow (t : Ticket) : Option Nat := if nbits t.w0 40 40 = 1 then some (nbits t.w1 43 32) else none

/-- A slot is live (R431). -/
def slotLive (s : State) (n : Nat) : Bool := Tab.has s.rgs.tickets n || Tab.has s.rgs.moves n

/-- A slot lies in a context's range (R424). -/
def slotInRange (s : State) (c n : Nat) : Bool :=
  decide (ctxSlotBase s c ≤ n) && decide (n < ctxSlotBase s c + ctxSlotCount s c)

/-- The highest-numbered free slot of a context's range (R426), among `k` slots from `b`. -/
def highestFree (s : State) (b : Nat) : Nat → Option Nat
  | 0 => none
  | k + 1 => if slotLive s (b + k) then highestFree s b k else some (b + k)
def autoSlot (s : State) (c : Nat) : Option Nat := highestFree s (ctxSlotBase s c) (ctxSlotCount s c)

/-- The execution of a core's ticket is cancelling. -/
def execCancelled (s : State) (e : Nat) : Bool :=
  match Tab.get? s.rgs.execs e with
  | some x => x.cancel.isSome
  | none => false

/-- A context has live tickets or moves (R425). -/
def ctxLive (s : State) (c : Nat) : Bool :=
  (s.rgs.tickets.any fun e => e.2.ctx == c) || (s.rgs.moves.any fun e => e.2.ctx == c)

/-- Ranges [a, a+n) and [b, b+m) share a number. -/
def rangesOverlap (a n b m : Nat) : Bool := n != 0 && m != 0 && decide (a < b + m) && decide (b < a + n)

/-- A context record that a write offers is refused (R425). -/
def contextRefused (s : State) (c : Nat) (rec : List Byte) : Bool :=
  let sb := leAt rec 24 4 % 2 ^ 18
  let sn := leAt rec 28 4
  let fb := leAt rec 32 2 % 4096
  let fn := leAt rec 34 2
  leAt rec 16 4 == 0 || leAt rec 36 1 == 0 || decide (leAt rec 36 1 > 16) || decide (sb + sn > 262144) || decide (fb + fn > 4096)
    || (s.rgs.contexts.any fun e => e.1 != c && decide (ctxState s e.1 ≠ 0) &&
        (rangesOverlap sb sn (ctxSlotBase s e.1) (ctxSlotCount s e.1) || rangesOverlap fb fn (ctxFlowBase s e.1) (ctxFlowCount s e.1)))
    || (leAt rec 0 1 == 0 && ctxState s c != 0 && ctxLive s c)

/-- A context record with its reserved bits 0 (R6, R424). -/
def contextKept (rec : List Byte) : List Byte :=
  let cut (o k m : Nat) (bs : List Byte) : List Byte := overlay bs o (leBytes k (leAt bs o k % m))
  overlay (overlay (overlay (cut 32 2 4096 (cut 24 4 (2 ^ 18) (cut 1 1 4 (padTo 128 rec)))) 37 (zeros 3)) 56 (zeros 8)) 96 (zeros 32)

/-- A context write (R425): whether it was accepted. The reserved bits of the record are not held (R6). -/
def writeContext (c : Nat) (rec : List Byte) (s : State) : Bool × State :=
  if contextRefused s c rec then (false, capture 232 0x25 (pageAddr 233 0x44) s)
  else (true, setRgs (fun r => { r with contexts := Tab.set r.contexts c (contextKept rec) }) s)

/-! ## Ready lists and flows (R434, R441) -/

/-- The ready list of a ticket. -/
def listOf (s : State) (t : Ticket) : Nat := ctxListSet s t.ctx % 1024 * 8 + t.priority

/-- Changes a live ticket. -/
def setTicket (n : Nat) (f : Ticket → Ticket) (s : State) : State := setRgs (fun r => { r with tickets := Tab.adjust r.tickets n f }) s

/-- A ticket joins its ready list, at the tail or at the head. -/
def joinList (n : Nat) (atHead : Bool) (s : State) : State :=
  match Tab.get? s.rgs.tickets n with
  | none => s
  | some t =>
    setRgs (fun r => { r with
      lists := Tab.update r.lists (listOf s t) [] (fun q => if atHead then n :: q else q ++ [n]),
      tickets := Tab.set r.tickets n { t with state := .ready s.tsc } }) s

/-- A ticket becomes ready: it waits while its flow is busy (R431, R441). -/
def becomeReady (n : Nat) (s : State) : State :=
  match Tab.get? s.rgs.tickets n with
  | none => s
  | some t =>
    match t.flow with
    | none => joinList n false s
    | some f =>
      match (Tab.getD s.rgs.flows f {}).busy with
      | none => joinList n false (setRgs (fun r => { r with flows := Tab.update r.flows f {} (fun x => { x with busy := some n }) }) s)
      | some _ =>
        setTicket n (fun t => { t with state := .flowWaiting })
          (setRgs (fun r => { r with flows := Tab.update r.flows f {} (fun x => { x with queue := x.queue ++ [n] }) }) s)

/-- A ticket leaves its flow: the head of the queue joins its ready list when the ticket held the flow (R441). -/
def leaveFlow (n f : Nat) (s : State) : State :=
  let x := Tab.getD s.rgs.flows f {}
  if x.busy == some n then
    match x.queue with
    | [] => setRgs (fun r => { r with flows := Tab.set r.flows f {} }) s
    | m :: q => joinList m false (setRgs (fun r => { r with flows := Tab.set r.flows f { busy := some m, queue := q } }) s)
  else setRgs (fun r => { r with flows := Tab.set r.flows f { x with queue := x.queue.filter (· != n) } }) s

/-- A live ticket's slot becomes free, and its flow passes on. -/
def freeTicket (n : Nat) (s : State) : State :=
  match Tab.get? s.rgs.tickets n with
  | none => s
  | some t =>
    let s := setRgs (fun r => { r with
      tickets := Tab.del r.tickets n, lists := Tab.mapVals r.lists (fun _ q => q.filter (· != n)) }) s
    match t.flow with
    | none => s
    | some f => leaveFlow n f s

/-! ## Posts (R432) -/

/-- A post to a slot. -/
def postSlot (n v : Nat) (s : State) : State :=
  let drop := capture 232 0x21 (pageAddr 232 0x54) (raiseIrq 232 0x400 (bumpReg 232 0x54 1 s))
  match Tab.get? s.rgs.tickets n with
  | none => drop
  | some t =>
    match t.state with
    | .held arrived =>
      let s := setTicket n (fun t => { t with desc := overlay t.desc 56 (leBytes 8 v), state := .held (arrived + 1) }) s
      if arrived + 1 ≥ leAt t.desc 8 4 then becomeReady n s else s
    | .delayed _ _ => drop
    | .flowWaiting => drop
    | .ready _ => drop
    | .inService _ _ => drop
    | .moving => drop

/-- The word of a post (R432). -/
def postWord (status source slot tag : Nat) : Nat := status % 256 + source * 256 + slot * 65536 + tag % 2 ^ 30 * 2 ^ 34

/-! ## Submission (R426 to R431) -/

/-- Who submits: any context with its tickets in execution 0 for a keeper, else the context and execution of the ticket served. -/
def submitterOf (s : State) : CoreId → Option (Nat × Nat)
  | .keeper _ => none
  | .docent g k =>
    match (getCore s (.docent g k)).serving with
    | none => some (4096, 0)
    | some n =>
      match Tab.get? s.rgs.tickets n with
      | none => some (4096, 0)
      | some t => some (t.ctx, t.exec)

/-- The context may be used by the submitter (reason 2). -/
def ctxUsable (s : State) (c : Nat) : Option (Nat × Nat) → Bool
  | none => ctxState s c == 2
  | some (own, _) => ctxState s c == 2 && ctxDomain s c == ctxDomain s own

/-- The submitter's execution is cancelling (reason 10). -/
def submitterCancelled (s : State) : Option (Nat × Nat) → Bool
  | none => false
  | some (_, e) => execCancelled s e

/-- The reason a ticket is refused for, 0 when it is accepted (R429); the lowest number of those that apply (log 20). -/
def ticketReason (s : State) (who : Option (Nat × Nat)) (desc : List Byte) : Nat :=
  let w0 := leAt desc 0 8
  let w1 := leAt desc 8 8
  let c := nbits w0 31 20
  let auto := nbits w0 39 39 == 1
  let held := nbits w0 42 42 == 1
  let delayed := nbits w0 41 41 == 1
  let count := nbits w1 31 0
  let kind := nbits w1 45 44
  if nbits w0 19 18 ≠ 0 ∨ (kind = 2 ∧ nbits w1 63 55 ≠ 0) then 1
  else if !ctxUsable s c who then 2
  else if (if auto then (autoSlot s c).isNone else !slotInRange s c (nbits w0 17 0) || slotLive s (nbits w0 17 0)) then 3
  else if nbits w0 35 32 ≥ ctxEntries s c then 4
  else if (affinityOf s c (nbits w0 63 48)).isEmpty then 5
  else if (held && (delayed || auto)) || (count != 0 && !held && !delayed) || (delayed && decide (count > 0x7FFFFFFF)) then 6
  else if delayed && bits (getReg s 235 (0x40 + 4 * nbits w0 47 44)) 19 0 == 0 then 7
  else if nbits w0 40 40 = 1 ∧ (nbits w1 43 32 < ctxFlowBase s c ∨ nbits w1 43 32 ≥ ctxFlowBase s c + ctxFlowCount s c) then 8
  else if kind = 3 ∨ (kind = 1 ∧ !slotInRange s c (nbits w1 63 46)) then 9
  else if submitterCancelled s who then 10
  else 0

/-- A refused submission: nothing changes but the record of it (R429). -/
def refuseSubmission (c reason : Nat) (s : State) : State :=
  capture 232 0x20 (pageAddr 232 0x4C)
    (raiseIrq 232 0x200 (bumpReg 232 0x50 1 (putReg 232 0x4C (word (c * 2 ^ 20 + reason)) s)))

/-- A ticket enters slot `n` of the Registrar with its descriptor, slot and priority as resolved (R426, R427, R431). -/
def placeTicket (n exec : Nat) (desc : List Byte) (s : State) : State :=
  let w0 := leAt desc 0 8
  let c := nbits w0 31 20
  let prio := max (nbits w0 38 36) (ctxCeiling s c % 8)
  let w0' := w0 - nbits w0 17 0 + n + prio * 2 ^ 36 - nbits w0 38 36 * 2 ^ 36
  let count := leAt desc 8 4
  let list := nbits w0 47 44
  let held := nbits w0 42 42 = 1 ∧ count ≥ 1
  let delayed := nbits w0 41 41 = 1 ∧ count ≥ 1
  let state := if held then .held 0
    else if delayed then .delayed list (((Tab.getD s.rgs.delays list {}).ticks + count) % 2 ^ 32) else .flowWaiting
  let t : Ticket := { desc := padTo 64 (overlay desc 0 (leBytes 8 w0')), state := state, exec := exec, order := s.rgs.nextOrder }
  let s := setRgs (fun r => { r with tickets := Tab.set r.tickets n t, nextOrder := r.nextOrder + 1 }) s
  if held ∨ delayed then s else becomeReady n s

/-- The Registrar takes no submission: its island refuses work (R25, R462). -/
def registrarRefuses (s : State) : Bool := islandRefuses s .registrar || (hdr s 232).quiesceReq

/-- A ticket submission: whether it was accepted (R393, R429). -/
def submitTicket (who : Option (Nat × Nat)) (desc : List Byte) (s : State) : Bool × State :=
  let w0 := leAt desc 0 8
  let c := nbits w0 31 20
  let r := ticketReason s who desc
  if r ≠ 0 then (false, refuseSubmission c r s)
  else
    let n := if nbits w0 39 39 = 1 then (autoSlot s c).getD 0 else nbits w0 17 0
    (true, placeTicket n ((who.map Prod.snd).getD 0) desc s)

/-! ## Moves (R446 to R449) -/

/-- A window of a gallery. -/
def window (s : State) (g w : Nat) : Window := Tab.getD (gal s g).windows w {}

/-- Changes a window. -/
def setWindow (g w : Nat) (f : Window → Window) (s : State) : State :=
  setGal g (fun x => { x with windows := Tab.update x.windows w {} f }) s

/-- Half `h` of a window. -/
def Window.half (x : Window) (h : Nat) : Half := if h = 0 then x.half0 else x.half1
def Window.setHalf (x : Window) (h : Nat) (f : Half → Half) : Window :=
  if h = 0 then { x with half0 := f x.half0 } else { x with half1 := f x.half1 }

/-- Bytes of a namespace (R447). -/
def nsBytes (n : Namespace) : Nat := if n.csi = 3 then n.nsze else n.nsze * (if n.lbaf = 1 then 512 else 4096)

/-- The context may read a namespace in a stream (R447). -/
def streamMayRead (s : State) (c nsid : Nat) : Bool :=
  Tab.has s.adm.namespaces nsid &&
    (ctxDomain s c == 0xFF || (Tab.getD s.acc.ctls (ctxDomain s c) {}).attached.contains nsid)

/-- A move descriptor's field out of bounds (reason 12). -/
def moveOutOfBounds (s : State) (desc : List Byte) : Bool :=
  let w0 := leAt desc 0 8
  let c := nbits w0 31 20
  let kind := nbits w0 41 40
  let recLen := nbits w0 63 48
  let src := leAt desc 16 8
  let len := leAt desc 24 8
  let dst := leAt desc 32 8
  if kind = 2 then
    recLen != 0 || decide (src < 0x100000) || decide (src + len > 0x300000) || decide (dst + len > ctxSlmLen s c)
  else
    recLen == 0 || decide (recLen > 32768) ||
      (if kind = 1 then decide (src + len > ctxSlmLen s c)
       else !streamMayRead s c (leAt desc 8 4) || decide (src + len > nsBytes (Tab.getD s.adm.namespaces (leAt desc 8 4)
         { nsze := 0, lbaf := 0, compress := false, sustained := false, segs := [] })))

/-- The reason a move is refused for, 0 when it is accepted (R429, R446). -/
def moveReason (s : State) (who : Option (Nat × Nat)) (desc : List Byte) : Nat :=
  let w0 := leAt desc 0 8
  let c := nbits w0 31 20
  let kind := nbits w0 41 40
  let g := nbits w0 35 32
  if nbits w0 19 19 ≠ 0 ∨ nbits w0 39 39 ≠ 0 ∨ nbits w0 42 42 ≠ 0 ∨ nbits w0 47 44 ≠ 0 ∨ kind = 3 ∨ leAt desc 12 4 ≠ 0
      ∨ leAt desc 40 24 ≠ 0 ∨ (kind ≠ 0 ∧ leAt desc 8 4 ≠ 0) ∨ (kind ≠ 2 ∧ leAt desc 32 8 ≠ 0) then 1
  else if !ctxUsable s c who then 2
  else if (autoSlot s c).isNone then 3
  else if submitterCancelled s who then 10
  else if !ctxAllows s c g || (kind != 2 && (window s g (nbits w0 38 36)).bound.isSome) then 11
  else if moveOutOfBounds s desc then 12
  else 0

/-- The move of a descriptor. -/
def moveOf (desc : List Byte) (exec : Nat) : Move :=
  let w0 := leAt desc 0 8
  { kind := nbits w0 41 40, ctx := nbits w0 31 20, exec := exec, gallery := nbits w0 35 32, window := nbits w0 38 36,
    recLen := nbits w0 63 48, nsid := leAt desc 8 4, src := leAt desc 16 8, length := leAt desc 24 8, dst := leAt desc 32 8,
    post := if nbits w0 18 18 = 1 then some (nbits w0 17 0) else none }

/-- The out-moves of a gallery that run, and those that wait. -/
def outMoves (s : State) (g : Nat) (started : Bool) : Tab Move := s.rgs.moves.filter fun e => e.2.kind == 2 && e.2.gallery == g && e.2.started == started

/-- A gallery whose out-moves are all over starts the one accepted first of those that wait (DESIGN CHOICE, log 152). -/
def startOutMove (g : Nat) (s : State) : State :=
  if !(outMoves s g true).isEmpty then s
  else match minBy (fun (e : Nat × Move) => e.2.order) (outMoves s g false) with
    | none => s
    | some e => setRgs (fun r => { r with moves := Tab.adjust r.moves e.1 fun m => { m with started := true } }) s

/-- A move ends: its slot is free and it posts (R448, R449). -/
def endMove (n status tag : Nat) (s : State) : State :=
  match Tab.get? s.rgs.moves n with
  | none => s
  | some m =>
    let s := setRgs (fun r => { r with moves := Tab.del r.moves n }) s
    let s := if m.kind = 2 then startOutMove m.gallery s else s
    match m.post with
    | none => s
    | some p => postSlot p (postWord status (if m.kind = 2 then 3 else 2) n tag) s

/-- The window of a stream is unbound once the stream has ended and no half of it is filled or held (R448). -/
def unbindIfDone (g w : Nat) (s : State) : State :=
  let x := window s g w
  match x.bound with
  | none => s
  | some n =>
    if x.ended && !x.half0.filled && !x.half1.filled then
      let m := (Tab.get? s.rgs.moves n).map fun m => m.failedHalves
      let failed := m.getD 0
      endMove n (if failed = 0 then 0 else 1) failed (setWindow g w (fun _ => {}) s)
    else s

/-- A move submission: whether it was accepted. A length of 0 ends the move at once (R446). -/
def submitMove (who : Option (Nat × Nat)) (desc : List Byte) (s : State) : Bool × State :=
  let c := nbits (leAt desc 0 8) 31 20
  let r := moveReason s who desc
  if r ≠ 0 then (false, refuseSubmission c r s)
  else
    let n := (autoSlot s c).getD 0
    let m := { moveOf desc ((who.map Prod.snd).getD 0) with order := s.rgs.nextOrder }
    let s := setRgs (fun r => { r with moves := Tab.set r.moves n m, nextOrder := r.nextOrder + 1 }) s
    if m.kind = 2 then (true, if m.length = 0 then endMove n 0 0 s else startOutMove m.gallery s)
    else
      let s := setWindow m.gallery m.window (fun _ => { bound := some n, ended := m.length == 0 }) s
      (true, if m.length = 0 then unbindIfDone m.gallery m.window s else s)

/-- A descriptor sent by TKT: a ticket or a move (R393, R426). -/
def submitDesc (c : CoreId) (desc : List Byte) (s : State) : Bool × State :=
  if nbits (leAt desc 0 8) 43 43 = 1 then submitMove (submitterOf s c) desc s else submitTicket (submitterOf s c) desc s

/-- Releases half `h` of a window: the data mover may refill it (R389). -/
def releaseHalf (g w h : Nat) (s : State) : State := unbindIfDone g w (setWindow g w (fun x => x.setHalf h (fun _ => {})) s)

/-- Counts a failed half of the stream bound to a window. -/
def countFailedHalf (g w : Nat) (s : State) : State :=
  match (window s g w).bound with
  | none => s
  | some n => setRgs (fun r => { r with moves := Tab.adjust r.moves n (fun m => { m with failedHalves := m.failedHalves + 1 }) }) s

/-- The halves a core holds: window and half. -/
def heldHalves (s : State) (g k : Nat) : List (Nat × Nat) :=
  (upTo 8).flatMap fun w => (upTo 2).filterMap fun h => if ((window s g w).half h).holder == some k then some (w, h) else none

/-- Every half a core holds is released (R389). -/
def releaseHeld (g k : Nat) (s : State) : State := doAll (fun p s => releaseHalf g p.1 p.2 s) (heldHalves s g k) s

/-- The halves of a fenced core: back to the window in an idempotent context, else released as failed (R456). -/
def returnHeld (g k : Nat) (idempotent : Bool) (s : State) : State :=
  doAll (fun p s =>
    if idempotent then setWindow g p.1 (fun x => x.setHalf p.2 (fun h => { h with holder := none })) s
    else releaseHalf g p.1 p.2 (countFailedHalf g p.1 s)) (heldHalves s g k) s

/-! ## Ends, failures and cancellation (R432, R433, R451 to R457) -/

/-- An execution notes the end of one of its tickets. -/
def noteEnd (e : Nat) (status : Nat) (failed : Bool) (s : State) : State :=
  setRgs (fun r => { r with
    execs := Tab.adjust r.execs e (fun x =>
      { x with lastStatus := status, failed := if failed then satAdd 0xFFFFFFFF x.failed 1 else x.failed }) }) s

/-- A completion goes to its target: a post, or a mailbox word, which a full channel drops (R432, R433, R584). -/
def deliver (n w1 status : Nat) (s : State) : State :=
  let kind := nbits w1 45 44
  if kind = 1 then postSlot (nbits w1 63 46) (postWord status 0 n 0) s
  else if kind = 2 then
    let ch := nbits w1 54 46
    if Tab.has s.mbx ch then capture 252 0x22 (pageAddr (mbxPage ch) (mbxBase ch)) (raiseIrq 252 0x400 (bumpReg 252 0x44 1 s))
    else ringTake ch (mbxPost ch registrarStamp (word (n * 256 + status)) s).2
  else s

/-- A ticket ends with a status: its slot is free, its flow passes on and its completion is delivered. -/
def finishTicket (n status : Nat) (failed : Bool) (s : State) : State :=
  match Tab.get? s.rgs.tickets n with
  | none => s
  | some t => deliver n t.w1 status (noteEnd t.exec status failed (freeTicket n s))

/-- A ticket that ends without END: its status byte is a free value (log 21). -/
def failTicket (n : Nat) (failed : Bool) (s : State) : State :=
  let (v, s) := draw s
  finishTicket n (v % 256) failed s

/-- A core that has ended its ticket: it drains and is idle (R389, R394). -/
def idleCore (g k : Nat) (s : State) : State :=
  setCore (.docent g k) (fun c => { c with
    serving := none, stopAt := none, stalled := false, searching := none, products := [] }) s

/-- A ticket of an in-service core gets a stop: a stall ends at once (R453, R455). -/
def stopCore (g k : Nat) (s : State) : State :=
  setCore (.docent g k) (fun c => { c with stopAt := if c.stopAt.isSome then c.stopAt else some s.tsc, stalled := false }) s

/-- The tickets of an execution, and its moves. -/
def ticketsOf (s : State) (e : Nat) : List Nat := (s.rgs.tickets.filter fun x => x.2.exec == e).map Prod.fst
def movesOf (s : State) (e : Nat) : List Nat := (s.rgs.moves.filter fun x => x.2.exec == e).map Prod.fst

/-- One ticket of a cancelled execution: freed while it waits, stopped in service (R453). -/
def cancelTicket (n : Nat) (s : State) : State :=
  match Tab.get? s.rgs.tickets n with
  | none => s
  | some t =>
    match t.state with
    | .inService g k => stopCore g k s
    | .held _ => freeTicket n s
    | .delayed _ _ => freeTicket n s
    | .flowWaiting => freeTicket n s
    | .ready _ => freeTicket n s
    | .moving => freeTicket n s

/-- A move of a cancelled execution (R453): an in-stream stops, no half is filled any more, and halves that no core holds are dropped; an out-move that has not started is
dropped. -/
def stopStream (n : Nat) (s : State) : State :=
  match Tab.get? s.rgs.moves n with
  | none => s
  | some m =>
    if m.kind = 2 then (if m.started then s else setRgs (fun r => { r with moves := Tab.del r.moves n }) s)
    else
      let s := setRgs (fun r => { r with moves := Tab.adjust r.moves n (fun m => { m with stopped := true, ended := true }) }) s
      let drop (h : Half) : Half := if h.holder.isSome then h else {}
      unbindIfDone m.gallery m.window (setWindow m.gallery m.window (fun x =>
        { x with ended := true, half0 := drop x.half0, half1 := drop x.half1 }) s)

/-- Cancels an execution (R453). -/
def cancelExecution (e : Nat) (cause : CancelCause) (s : State) : State :=
  match Tab.get? s.rgs.execs e with
  | none => s
  | some x =>
    if x.cancel.isSome then s
    else
      let s := setRgs (fun r => { r with execs := Tab.set r.execs e { x with cancel := some cause } }) s
      let s := raiseIrq 232 0x800 s
      let s := doAll cancelTicket (ticketsOf s e) s
      doAll stopStream (movesOf s e) s

/-- A core reports the end of its ticket with a status (R394, R432, R452): a stopped ticket ends as its stop says. -/
def endTicket (g k status : Nat) (s : State) : State :=
  let c := getCore s (.docent g k)
  match c.serving with
  | none => s
  | some n =>
    match Tab.get? s.rgs.tickets n with
    | none => idleCore g k s
    | some t =>
      let s := pmcEvent (.docent g k) 0x15 (idleCore g k (releaseHeld g k s))
      if c.stopAt.isSome then failTicket n (!execCancelled s t.exec) s
      else
        let s := finishTicket n (status % 256) (decide (0x80 ≤ status % 256) && decide (status % 256 ≤ 0xFE)) s
        if status % 256 = 0xFF then cancelExecution t.exec .endFF s else s

/-- A ticket that may run again goes to the head of its list, otherwise it fails (R457). -/
def redispatchOrFail (n : Nat) (s : State) : State :=
  match Tab.get? s.rgs.tickets n with
  | none => s
  | some t =>
    if ctxIdempotent s t.ctx && decide (t.redispatched < regField s 232 0x40 3 0) && !execCancelled s t.exec then
      joinList n true (setTicket n (fun t => { t with redispatched := t.redispatched + 1 }) s)
    else failTicket n true s

/-- A fault record enters log 0xC9 (R461). -/
def logFault (f : FaultRecord) (s : State) : State :=
  setRgs (fun r => { r with faults := (f :: r.faults).take 1024, faultTotal := satAdd 0xFFFFFFFF r.faultTotal 1 }) s

/-- A gallery-mode fault (R397, R398): the record, the counts, and the end of the ticket. -/
def docentFault (g k code sub instr ea : Nat) (s : State) : State :=
  let c := getCore s (.docent g k)
  match c.serving with
  | none => s
  | some n =>
    let s := logFault { code := code, sub := sub, gallery := g, core := k, pc := c.pc.toNat, instr := instr, ea := ea, tsc := s.tsc, slot := n } s
    let s := capture (208 + g) 0x20 c.pc.toNat (raiseIrq (208 + g) 0x100 (bumpReg (208 + g) 0x54 1 s))
    let s := pmcEvent (.docent g k) 0x14 s
    if code = 8 ∧ (sub = 2 ∨ sub = 3) then
      let idem := match Tab.get? s.rgs.tickets n with
        | some t => ctxIdempotent s t.ctx
        | none => false
      redispatchOrFail n (idleCore g k (returnHeld g k idem s))
    else pmcEvent (.docent g k) 0x15 (failTicket n true (idleCore g k (releaseHeld g k s)))

/-- The watchdog fences a core (R456): gate closed, halves settled, the spare takes its place, its ticket runs again or fails. -/
def fenceCore (g k : Nat) (s : State) : State :=
  let c := getCore s (.docent g k)
  match c.serving with
  | none => s
  | some n =>
    let t := Tab.get? s.rgs.tickets n
    let idem := match t with
      | some t => ctxIdempotent s t.ctx
      | none => false
    let cancelled := match t with
      | some t => execCancelled s t.exec
      | none => false
    let s := idleCore g k (returnHeld g k idem s)
    let s := setGal g (fun x =>
      let act := x.active.filter (· != k)
      { x with fenced := sortBy id (k :: x.fenced), active := sortBy id (act ++ x.spare.toList), spare := none }) s
    let s := raiseIrq 232 0x100 (bumpReg 232 0x60 1 s)
    let s := capture 232 (if cancelled then 0x26 else 0x22) (pageAddr (208 + g) 0x48) s
    let s := logFault { code := 0x80, sub := 0, gallery := g, core := k, pc := c.pc.toNat, instr := 0xFFFFFFFF, ea := 0xFFFFFFFF, tsc := s.tsc, slot := n } s
    if cancelled then failTicket n true s else redispatchOrFail n s

/-- The self-test of a gallery's cores (R459): a core that fails is fenced, the spare takes the place of an active one, and an empty spare place
goes to the lowest-numbered fenced core that passes. -/
def selfTestCores (g : Nat) (failed : List Nat) (s : State) : State :=
  setGal g (fun x =>
    let passes (k : Nat) : Bool := !failed.contains k
    let lost := x.active.filter fun k => !passes k
    let takes := if lost.isEmpty then none else x.spare.filter passes
    let fenced := sortBy id (lost ++ (x.spare.filter fun k => !passes k).toList ++ x.fenced)
    let spare := (if takes.isSome then none else x.spare.filter passes).or (fenced.find? passes)
    { x with
      active := sortBy id (x.active.filter passes ++ takes.toList), spare := spare, fenced := fenced.filter fun k => some k != spare,
      failedTest := failed, dropCaptured := false }) s

/-! ## Dispatch (R435 to R440) -/

/-- A gallery admits a domain's tickets (R440). -/
def galleryAdmits (s : State) (g dom : Nat) : Bool :=
  let owner := regField s 236 (0x40 + 4 * g) 7 0
  owner == 0xFF || owner == dom || dom == 0xFF

/-- The idle cores of a gallery that are eligible for a ticket (R435). -/
def eligibleCores (s : State) (t : Ticket) (g : Nat) : List Nat :=
  if (affinityOf s t.ctx (nbits t.w0 63 48)).contains g && galleryAdmits s g (ctxDomain s t.ctx)
      && !islandRefuses s (.gallery g) && !(hdr s (208 + g)).quiesceReq then
    (gal s g).active.filter fun k => !(gal s g).fenced.contains k && (getCore s (.docent g k)).serving.isNone
  else []

/-- The gallery and core a ticket goes to (R436). -/
def chooseCore (s : State) (t : Ticket) : Option (Nat × Nat) :=
  let cand := (upTo 16).filter fun g => !(eligibleCores s t g).isEmpty
  let most := cand.foldl (fun m g => max m (eligibleCores s t g).length) 0
  match minBy (fun g => (g + 31 - s.rgs.lastGallery) % 16) (cand.filter fun g => (eligibleCores s t g).length == most) with
  | none => none
  | some g => (minBy id (eligibleCores s t g)).map fun k => (g, k)

/-- The head tickets of one priority that may be dispatched: list set and slot. -/
def headsAt (s : State) (p : Nat) : List (Nat × Nat) :=
  s.rgs.lists.filterMap fun e =>
    match e.2 with
    | [] => none
    | n :: _ =>
      if e.1 % 8 = p then
        match Tab.get? s.rgs.tickets n with
        | none => none
        | some t => if (chooseCore s t).isSome then some (e.1 / 8, n) else none
      else none

/-- The ticket dispatched next: the first priority with a head that has a core, list sets taking turns (R435). -/
def nextDispatch (s : State) : Option (Nat × Nat × Nat) :=
  (upTo 8).findSome? fun p =>
    (minBy (fun x => (x.1 + 2047 - Tab.getD s.rgs.lastSet p 0) % 1024) (headsAt s p)).map fun x => (p, x.1, x.2)

/-- A ticket starts on a core (R359, R438, R439). -/
def startTicket (n g k : Nat) (s : State) : State :=
  match Tab.get? s.rgs.tickets n with
  | none => s
  | some t =>
    let c := t.ctx
    let base := docentLocalBase g k
    let s := if (getCore s (.docent g k)).lastDomain = ctxDomain s c then s else clearMem base (base + 0x10000) s
    let w1 := t.w1 - t.w1 % 2 ^ 32 + k + g * 256 + (if t.redispatched > 0 then 4096 else 0)
    let s := writeMem (base + 0xFFC0) (overlay t.desc 8 (leBytes 8 w1)) s
    let s := setCore (.docent g k) (fun x => { x with
      a := 0, mlo := 0, mhi := 0, z := false, n := false, c := false, v := false, mask := 0, lk := 0, products := [],
      pc := BitVec.ofNat 48 ((ctxCode s c + 4 * ctxEntry s c t.entry) % 2 ^ 32), x := 0xFFC0, y := 0,
      g := BitVec.ofNat 48 (ctxG s c), serving := some n, lastDomain := ctxDomain s c, stopAt := none, stalled := false,
      key := 0, searching := none, result := none, postResult := 0 }) s
    setTicket n (fun t => { t with state := .inService g k, dispatched := s.tsc }) s

/-- One dispatch, where one is possible. -/
def dispatchOne (s : State) : State :=
  if registrarRefuses s then s
  else
    match nextDispatch s with
    | none => s
    | some (p, set, n) =>
      match Tab.get? s.rgs.tickets n with
      | none => s
      | some t =>
        match chooseCore s t with
        | none => s
        | some (g, k) =>
          let s := setRgs (fun r => { r with
            lists := Tab.adjust r.lists (set * 8 + p) List.tail, lastSet := Tab.set r.lastSet p set, lastGallery := g }) s
          startTicket n g k (bumpReg64 232 0x58 1 s)

/-! ## Delay lists (R442 to R444) -/

/-- The tickets a delay list holds. -/
def delayedOn (s : State) (i : Nat) : List Nat :=
  s.rgs.tickets.filterMap fun e =>
    match e.2.state with
    | .delayed l _ => if l = i then some e.1 else none
    | .held _ => none
    | .flowWaiting => none
    | .ready _ => none
    | .inService _ _ => none
    | .moving => none

/-- The expiry of a delayed ticket lies at or before the counter: how many ticks ago. -/
def ticksPast (s : State) (i n : Nat) : Option Nat :=
  match Tab.get? s.rgs.tickets n with
  | none => none
  | some t =>
    match t.state with
    | .delayed _ e =>
      let d := ((Tab.getD s.rgs.delays i {}).ticks + 2 ^ 32 - e) % 2 ^ 32
      if d < 2 ^ 31 then some d else none
    | .held _ => none
    | .flowWaiting => none
    | .ready _ => none
    | .inService _ _ => none
    | .moving => none

/-- The tickets of a list whose tick has come, in order of expiry and then of acceptance (R443). -/
def expiredOn (s : State) (i : Nat) : List Nat :=
  let due := (delayedOn s i).filter fun n => (ticksPast s i n).isSome
  let byOrder := sortBy (fun n => ((Tab.get? s.rgs.tickets n).map fun t => t.order).getD 0) due
  sortBy (fun n => 2 ^ 31 - (ticksPast s i n).getD 0) byOrder

/-- A write of a tick period (R444, R463). -/
def delayPeriodWrite (i : Nat) (v : Word) (s : State) : State :=
  let ns := bits v 19 0
  let bad := capture 232 0x24 (pageAddr 235 (0x40 + 4 * i)) s
  if ns ≠ 0 ∧ (ns < 50 ∨ ns > 1000000) then bad
  else if !(delayedOn s i).isEmpty then bad
  else setRgs (fun r => { r with delays := Tab.set r.delays i { base := s.tsc } }) (putReg 235 (0x40 + 4 * i) (word ns) s)

/-! ## Cancel registers (R463) -/

/-- A write of RGS_EXEC_CANCEL. -/
def execCancelWrite (v : Word) (s : State) : State :=
  if !bit v 31 then s
  else if bits v 12 0 = 0 ∨ !Tab.has s.rgs.execs (bits v 12 0) then capture 232 0x24 (pageAddr 232 0x64) s
  else cancelExecution (bits v 12 0) .register s

/-- A ticket waits: held, delayed or flow-waiting. -/
def slotWaits (s : State) (n : Nat) : Bool :=
  match Tab.get? s.rgs.tickets n with
  | none => false
  | some t =>
    match t.state with
    | .held _ => true
    | .delayed _ _ => true
    | .flowWaiting => true
    | .ready _ => false
    | .inService _ _ => false
    | .moving => false

/-- A write of RGS_SLOT_CANCEL. -/
def slotCancelWrite (v : Word) (s : State) : State :=
  if !bit v 31 then s
  else if slotWaits s (bits v 17 0) then freeTicket (bits v 17 0) s
  else capture 232 0x24 (pageAddr 232 0x68) s

/-- A write of RGS_CTX_CMD: 1 writes the record from the data words, 2 reads it into them (R463). -/
def ctxCommand (v : Word) (s : State) : State :=
  let c := regField s 233 0x40 11 0
  let cmd := bits v 1 0
  if cmd = 1 then
    let rec' := (upTo 32).flatMap fun k => leBytes 4 (getReg s 233 (0x80 + 4 * k)).toNat
    let (ok, s) := writeContext c rec' s
    putReg 233 0x44 (word (flag (!ok) * 256 + 1)) s
  else if cmd = 2 then
    let r := padTo 128 (Tab.getD s.rgs.contexts c [])
    putReg 233 0x44 2 (doAll (fun k s => putReg 233 (0x80 + 4 * k) (word (leAt r (4 * k) 4)) s) (upTo 32) s)
  else s

/-! ## Views (R463, R386) -/

/-- RGS_LIVE, RGS_EXEC_LIVE. -/
def rgsLive (s : State) : Word := word (s.rgs.tickets.length + s.rgs.moves.length)
def rgsExecLive (s : State) : Word := word s.rgs.execs.length

/-- RGS_LIST_DEPTH and RGS_LIST_WAIT of the list selected. -/
def selectedList (s : State) : List Nat := Tab.getD s.rgs.lists (regField s 237 0x40 12 0) []
def rgsListWait (s : State) : Word :=
  match selectedList s with
  | [] => 0
  | n :: _ =>
    match Tab.get? s.rgs.tickets n with
    | none => 0
    | some t =>
      match t.state with
      | .ready since => word (min 0xFFFFFFFF (s.tsc - since))
      | .held _ => 0
      | .delayed _ _ => 0
      | .flowWaiting => 0
      | .inService _ _ => 0
      | .moving => 0

/-- RGS_FLOW_STAT of the flow selected. -/
def rgsFlowStat (s : State) : Word :=
  let f := Tab.getD s.rgs.flows (regField s 237 0x4C 11 0) {}
  word (flag f.busy.isSome * 2 ^ 31 + f.queue.length)

/-- WIN_STAT of a window (R386). -/
def winStat (x : Window) : Word :=
  word (flag x.bound.isSome * 2 ^ 31 + flag (x.bound.isSome && x.ended) * 2 ^ 30 + flag x.half1.err * 32 + flag x.half0.err * 16
    + flag x.half1.holder.isSome * 8 + flag x.half0.holder.isSome * 4 + flag x.half1.filled * 2 + flag x.half0.filled)

/-- The filled half, not held, that was filled first. -/
def claimable (x : Window) : Option Nat :=
  minBy (fun h => (x.half h).order) ((upTo 2).filter fun h => (x.half h).filled && (x.half h).holder.isNone)

/-- A read of WIN_CLAIM by core k: its word, or a stall (R387). The stream has no filled half left when none is filled and
unclaimed (DEDUCED, log 22). -/
def winClaim (g k w : Nat) (s : State) : Option Word × State :=
  let x := window s g w
  match claimable x with
  | some h =>
    let hf := x.half h
    (some (word (flag hf.err * 2 ^ 30 + h * 65536 + hf.data.length)),
      pmcEvent (.docent g k) 0x0C (setWindow g w (fun x => x.setHalf h (fun y => { y with holder := some k })) s))
  | none => if x.bound.isNone || x.ended then (some 0x80000000, s) else (none, s)

end Sys2Proof.Machine
end

