-- ==== Sys2Proof/Machine/CmpOps.lean ====
section
/-! DEFINITION. The compression islands' operations: engines, rings, jobs, continuation records and inline requests (chapter 08). -/

namespace Sys2Proof.Machine

/-- Changes the compression side. -/
def setCmp (f : Compress → Compress) (s : State) : State := { s with cmp := f s.cmp }

/-- A ring has a descriptor to fetch. -/
def ringWaits (s : State) (c r : Nat) : Bool := bit (ringCfg s c r) 0 && ringHead s c r != ringTail s c r

/-! ## Engines (R321 to R324) -/

/-- Engines of a kind that the island reserves for rings. -/
def reservedEngines (s : State) (c : Nat) (dec : Bool) : Nat :=
  if dec then regField s (cmpPage c) 0x40 20 16 else regField s (cmpPage c) 0x40 12 8

/-- Engines in use of a kind: reserved or shared. -/
def enginesBusy (s : State) (c : Nat) (dec reserved : Bool) : Nat :=
  (s.cmp.engines.filter fun e => e.island == c && e.decompress == dec && e.reserved == reserved).length

/-- The island takes new work (R350, R352). -/
def cmpTakes (s : State) (c : Nat) : Bool :=
  !islandRefuses s (.compress c) && !(hdr s (cmpPage c)).quiesceReq && !s.cmp.stopped

/-- A shared engine of a kind is free. -/
def sharedFree (s : State) (c : Nat) (dec : Bool) : Bool :=
  decide (enginesBusy s c dec false + reservedEngines s c dec < 24)

/-- A reserved engine of a kind is free; one that still serves as a shared engine after CMP_CFG has reserved it is not. -/
def reservedFree (s : State) (c : Nat) (dec : Bool) : Bool :=
  decide (enginesBusy s c dec true < reservedEngines s c dec) && decide (enginesBusy s c dec true + enginesBusy s c dec false < 24)

/-- An inline request waits for an engine of a kind. -/
def inlineWaits (s : State) (dec : Bool) : Bool := s.cmp.waiting.any fun w => w.2.1 == dec

/-- An inline use takes a shared engine of an island. -/
def takeEngine (c : Nat) (use : InlineUse) (dec : Bool) (s : State) : State :=
  setCmp (fun x => { x with engines := x.engines ++ [{ island := c, decompress := dec, inline := some use, job := 0, reserved := false }] }) s

/-- An inline request: an engine of the preferred island, else of the other, else it waits, after those that wait already (R322). -/
def inlineRequest (use : InlineUse) (dec : Bool) (input : List Byte) (pref : Nat) (s : State) : State :=
  let free (c : Nat) : Bool := !inlineWaits s dec && cmpTakes s c && sharedFree s c dec
  if free pref then takeEngine pref use dec s
  else if free (1 - pref) then takeEngine (1 - pref) use dec s
  else setCmp (fun x => { x with waiting := x.waiting ++ [(use, dec, input)] }) s

/-- A shared engine is free: the first inline request that waits for its kind takes it (R322, R323). -/
def engineFreed (c : Nat) (dec : Bool) (s : State) : State :=
  match s.cmp.waiting.find? fun w => w.2.1 == dec with
  | none => s
  | some w =>
    if cmpTakes s c && sharedFree s c dec then
      takeEngine c w.1 dec (setCmp (fun x => { x with waiting := dropFirst (fun v => v.1 == w.1) x.waiting }) s)
    else s

/-- Shared engines have become free on the islands: the inline requests that wait take them in order (R322, R350, R351). -/
def serveInline (s : State) : State :=
  let one (dec : Bool) (c : Nat) (s : State) : State := doAll (fun _ s => engineFreed c dec s) (upTo 24) s
  if s.cmp.waiting.isEmpty then s else one true 1 (one true 0 (one false 1 (one false 0 s)))

/-- The engine that an inline use holds. -/
def inlineEngine (s : State) (use : InlineUse) : Option EngineUse := s.cmp.engines.find? fun e => e.inline == some use

/-- An inline use ends: its engine is free. -/
def inlineEnd (use : InlineUse) (s : State) : State :=
  match inlineEngine s use with
  | none => s
  | some e => engineFreed e.island e.decompress (setCmp (fun x => { x with engines := dropFirst (fun v => v.inline == some use) x.engines }) s)

/-- Inline uses that nothing needs any more give up their engines and their places. -/
def inlineDrop (p : InlineUse → Bool) (s : State) : State :=
  serveInline (setCmp (fun x => { x with
    engines := x.engines.filter fun e => !e.inline.any p, waiting := x.waiting.filter fun w => !p w.1 }) s)

def InlineUse.readsFor (r : CmdRef) : InlineUse → Bool
  | .readMu x _ => x == r
  | _ => false

/-- CMP_STAT (R353). -/
def cmpStat (s : State) (c : Nat) : Word :=
  let n (dec inl : Bool) := (s.cmp.engines.filter fun e => e.island == c && e.decompress == dec && e.inline.isSome == inl).length
  word (n true false * 2 ^ 24 + n true true * 2 ^ 16 + n false false * 2 ^ 8 + n false true)

/-- The preferred island of a wing (R322). -/
def preferredIsland (w : Nat) : Nat := w % 2

/-! ## Descriptors (R335 to R337) -/

/-- Reads a descriptor. -/
def parseJob (b : List Byte) : JobDesc :=
  { op := leAt b 0 1, format := leAt b 1 1, level := leAt b 2 1, flags := leAt b 3 1, inLen := leAt b 4 4, inAddr := leAt b 8 8,
    outLen := leAt b 16 4, rsv0 := leAt b 20 4, outAddr := leAt b 24 8, record := leAt b 32 8, completion := leAt b 40 8,
    tag := leAt b 48 4, ticket := leAt b 52 4, depth := leAt b 56 2, rsv1 := leAt b 58 6 }

def JobDesc.first (d : JobDesc) : Bool := d.flags % 2 == 1
def JobDesc.last (d : JobDesc) : Bool := d.flags / 2 % 2 == 1
def JobDesc.rawIn (d : JobDesc) : Bool := d.flags / 4 % 2 == 1
def JobDesc.irq (d : JobDesc) : Bool := d.flags / 8 % 2 == 1

/-- The descriptor is invalid (R337). Level and depth count only where the job uses them (R335, R336). -/
def JobDesc.invalid (d : JobDesc) : Bool :=
  d.flags / 16 != 0 || d.rsv0 != 0 || d.rsv1 != 0 || nbits d.ticket 30 18 != 0
    || decide (d.inAddr ≥ 2 ^ 48) || decide (d.outAddr ≥ 2 ^ 48) || decide (d.record ≥ 2 ^ 48) || decide (d.completion ≥ 2 ^ 48)
    || (d.op != 1 && d.op != 2) || decide (d.format > 3) || (d.op == 1 && d.first && decide (d.level > 9))
    || (d.first && decide (d.depth > 1024)) || (d.rawIn && !(d.op == 2 && d.format == 3))
    || d.record % 64 != 0 || d.completion % 16 != 0
    || (d.format == 3 && (decide (d.inLen > 16384) || !d.first || !d.last))
    || (!d.first && d.record == 0)

/-- The effective depth of a compression job: that of its record where it continues a stream. -/
def jobDepth (s : State) (d : JobDesc) : Nat :=
  if d.first then effectiveDepth d.level d.depth else leAt (readMem s d.record 10) 8 2

/-- A short job (R323). -/
def jobShort (s : State) (d : JobDesc) : Bool :=
  if d.op = 1 then decide (d.inLen ≤ 65536) && decide (jobDepth s d ≤ 16) else decide (d.outLen ≤ 131072)

/-! ## Completion (R339, R341, R345) -/

/-- The continuation record of a stream: the engine state and the pending area are free (R345, log 24). -/
def writeRecord (addr : Nat) (x : ContStream) (outSoFar : List Byte) (s : State) : Nat × State :=
  let (engine, s) := drawBytes s 468
  let (pending, s) := drawBytes s 38400
  let (used, s) := draw s
  let hist := if x.op = 1 then x.input else outSoFar
  let plain := if x.op = 1 then x.input else outSoFar
  let hist := hist.drop (hist.length - 32768)
  let head := ascii "QCON" ++ leBytes 1 x.op ++ leBytes 1 x.format ++ leBytes 1 x.level ++ leBytes 1 (flag x.ended)
    ++ leBytes 2 x.depth ++ zeros 2 ++ leBytes 4 (runningCheck x.format plain) ++ leBytes 8 x.input.length ++ leBytes 8 x.given
    ++ leBytes 4 hist.length ++ leBytes 4 (used % 38401) ++ engine
  busWrite addr (padTo 73728 (head ++ leBytes 4 (crc32c head) ++ zeros 4 ++ pending ++ zeros 1024 ++ hist)) s

/-- Output of a stream so far, for its record. -/
def streamOutput (x : ContStream) : List Byte :=
  if x.op = 1 then [] else (inflateAll x.format x.input (x.given + 1)).2.2.take x.given

/-- A completion record, the post and the interrupt of a job (R339, R341). -/
def completeJob (c r : Nat) (d : JobDesc) (res : Nat × Nat × Nat × Nat) (s : State) : State :=
  let (status, flags, consumed, produced) := res
  let rec' := leBytes 4 d.tag ++ leBytes 1 status ++ leBytes 1 flags ++ zeros 2 ++ leBytes 4 consumed ++ leBytes 4 produced
  let s := if d.completion = 0 then s else
    let (code, s) := busWrite d.completion rec' s
    if code = 0 then bumpWrap (ringPage c r) (ringBase r + 0x14) 1 s else capture (cmpPage c) 0x22 d.completion s
  let s := onlyIf (0x11 ≤ status ∧ status ≤ 0x14) (bumpReg (cmpPage c) 0x64 1) s
  let s := onlyIf (bit (word d.ticket) 31) (postSlot (nbits d.ticket 17 0) (postWord status 1 0 d.tag)) s
  onlyIf d.irq (raiseIrq (cmpPage c) 0x100) s

/-- A job ends: record, completion, and its engine is free. -/
def endJob (j : Nat) (s : State) : State :=
  match Tab.get? s.cmp.jobs j with
  | none => s
  | some job =>
    match job.result with
    | none => s
    | some (status, flags, consumed, produced) =>
      let eng := s.cmp.engines.find? fun e => e.inline.isNone && e.job == j
      let s := setCmp (fun x => { x with jobs := Tab.del x.jobs j, engines := dropFirst (fun e => e.inline.isNone && e.job == j) x.engines }) s
      let (flags, s) :=
        match job.stream with
        | none => (flags, s)
        | some x =>
          if job.desc.record = 0 ∨ status > 2 then (flags, s)
          else
            let (code, s) := writeRecord job.desc.record x (streamOutput x) s
            if code = 0 then (flags + 4, setCmp (fun y => { y with conts := Tab.set y.conts job.desc.record x }) s)
            else (flags, capture (cmpPage job.island) 0x22 job.desc.record s)
      let s := completeJob job.island job.ring job.desc (status, flags, consumed, produced) s
      match eng with
      | none => s
      | some e => if e.reserved then s else engineFreed e.island e.decompress s

/-! ## Fetching (R323, R354) -/

/-- The ring whose job is taken next: the highest priority that is not empty, equals in turn. -/
def nextRing (s : State) (c : Nat) : Option Nat :=
  let rs := (upTo 32).filter fun r => ringWaits s c r
  minBy (fun r => bits (ringCfg s c r) 2 1 * 32 + (r + 32 - Tab.getD s.cmp.turn c 0) % 32) rs

/-- The record of a job is that of a job in service (R346). -/
def recordBusy (s : State) (d : JobDesc) : Bool := d.record != 0 && s.cmp.jobs.any fun e => e.2.desc.record == d.record

/-- Takes the next descriptor of an island into service (R323, R337, R346). -/
def fetchJob (c : Nat) (s : State) : State :=
  if !cmpTakes s c then s
  else
    match nextRing s c with
    | none => s
    | some r =>
      let addr := addrMask (ringAddr s c r + 64 * ringHead s c r)
      let advance (s : State) : State :=
        setCmp (fun x => { x with turn := Tab.set x.turn c ((r + 1) % 32) })
          (putReg (ringPage c r) (ringBase r + 0x10) (word ((ringHead s c r + 1) % ringSize s c r)) s)
      let (ans, s1) := busRead addr 64 s
      if ans.code ≠ 0 then advance (capture (cmpPage c) 0x22 addr (raiseIrq (cmpPage c) 0x200 s1))
      else
        let d := parseJob ans.bytes
        if d.invalid then
          completeJob c r d (0x10, 0, 0, 0) (capture (cmpPage c) 0x20 addr (raiseIrq (cmpPage c) 0x200 (advance s1)))
        else if recordBusy s1 d then completeJob c r d (0x15, 0, 0, 0) (advance s1)
        else
          let dec := d.op == 2
          let short := jobShort s1 d
          if !short && reservedEngines s1 c dec == 0 then completeJob c r d (0x18, 0, 0, 0) (advance s1)
          else
            let start (reserved : Bool) : State :=
              let j := s1.cmp.nextJob
              setCmp (fun x => { x with
                jobs := Tab.set x.jobs j { island := c, ring := r, desc := d }, nextJob := j + 1,
                engines := x.engines ++ [{ island := c, decompress := dec, inline := none, job := j, reserved := reserved }] }) (advance s1)
            if reservedFree s1 c dec then start true
            else if short && sharedFree s1 c dec && !inlineWaits s1 dec then start false
            else s

/-! ## Running a job -/

/-- Sets a job's result and what its record will hold. -/
def setResult (j : Nat) (res : Nat × Nat × Nat × Nat) (x : Option ContStream) (s : State) : State :=
  setCmp (fun y => { y with jobs := Tab.adjust y.jobs j (fun b => { b with result := some res, stream := x }) }) s

/-- A memory access error of a job (R339, R355). -/
def jobMemoryError (j c addr : Nat) (s : State) : State :=
  setResult j (0x16, 0, 0, 0) none (capture (cmpPage c) 0x22 addr s)

/-- The stream a job continues; none: the record is not a valid one of it (R346). -/
def continued (s : State) (d : JobDesc) (bytes : List Byte) : Option ContStream :=
  if bytes.take 4 = ascii "QCON" ∧ leAt bytes 0x1FC 4 = crc32c (bytes.take 0x1FC) ∧ leAt bytes 4 1 = d.op ∧ leAt bytes 5 1 = d.format
      ∧ leAt bytes 7 1 % 2 = 0 then Tab.get? s.cmp.conts d.record
  else none

/-- The output of a stream up to a number of encoded blocks, with the closing empty block and the trailer where it ends: bytes
that are complete, and for each block the bytes complete after it and whether it was stored. -/
def compressedParts (x : ContStream) (data : List Byte) (n : Nat) (fin emptyEnd : Bool) : List Byte × List (Nat × Bool) :=
  let bs := encodeBlocks x.level x.depth (fin && !emptyEnd) data.toArray n
  let head := frameHead x.format x.level
  let all := bs.flatMap Prod.fst
  let all := if emptyEnd then all ++ (encodeBlock false (all.length % 8) true [] []).1 else all
  let bytes := packBits all
  let body := if fin then bytes ++ frameTail x.format data else bytes.take (all.length / 8)
  let marks := (bs.foldl (fun (p : Nat × List (Nat × Bool)) b => (p.1 + b.1.length, (head.length + (p.1 + b.1.length) / 8, b.2) :: p.2)) (0, [])).2.reverse
  (head ++ body, marks)

/-- Where a compression stops for want of space: the first block whose bytes run past the space, counted from block `b`. -/
def overflowAt (limit : Nat) : Nat → List (Nat × Bool) → Option Nat
  | _, [] => none
  | b, (n, _) :: t => if n > limit then some b else overflowAt limit (b + 1) t

/-- What a compression job of formats 0 to 2 does: status, consumed, output and the stream after (R329, R338, R340, R342, R343).
`kept` is the free count of trailing bytes it leaves when more input is to come (log 25). -/
def compressStep (x : ContStream) (input : List Byte) (last : Bool) (outLen kept : Nat) : Nat × Nat × List Byte × List Bool × ContStream :=
  if input = [] ∧ !last then (0, 0, [], [], x)
  else
    let input := if x.closing.isSome then [] else input
    let last := last || x.closing.isSome
    let u := if last then 0 else min kept (min 258 input.length)
    let take := input.take (input.length - u)
    let data := x.input ++ take
    let emptyEnd := x.closing.getD (last && data.length == x.blocks * 8192)
    let n := if x.closing.isSome then x.blocks else if last then (if emptyEnd then x.blocks else ceilDiv data.length 8192) else max x.blocks ((data.length - 1) / 8192)
    let (bytes, marks) := compressedParts x data n last emptyEnd
    let limit := x.given + outLen
    let before := if x.blocks = 0 then (frameHead x.format x.level).length else (marks.getD (x.blocks - 1) (0, false)).1
    if before > limit then
      (1, 0, (bytes.drop x.given).take outLen, [], { x with given := x.given + outLen })
    else
      match overflowAt limit x.blocks (marks.drop x.blocks) with
      | some b =>
        let consumed := min data.length ((b + 1) * 8192) - x.input.length
        (1, consumed, (bytes.drop x.given).take outLen, (marks.drop x.blocks).map Prod.snd |>.take (b + 1 - x.blocks),
          { x with input := x.input ++ take.take consumed, given := x.given + outLen, blocks := b + 1,
                   closing := if last && b + 1 == n then some emptyEnd else none })
      | none =>
        let new := bytes.drop x.given
        let st := (marks.drop x.blocks).map Prod.snd
        if new.length > outLen then
          (1, take.length, new.take outLen, st,
            { x with input := data, given := x.given + outLen, blocks := n, closing := if last then some emptyEnd else none })
        else (0, take.length, new, st, { x with input := data, given := x.given + new.length, blocks := n, ended := last })

/-- Counts of the compressor (R353). -/
def countCompression (c consumed produced stored : Nat) (s : State) : State :=
  bumpReg (cmpPage c) 0x60 stored (bumpReg64 (cmpPage c) 0x50 produced (bumpReg64 (cmpPage c) 0x48 consumed s))

/-- Writes the output of a job and sets its result, or ends it with a memory access error. -/
def giveOutput (j c : Nat) (d : JobDesc) (out : List Byte) (res : Nat × Nat × Nat × Nat) (x : Option ContStream) (s : State) : State :=
  if out = [] then setResult j res x s
  else
    let (code, s) := busWrite d.outAddr out s
    if code = 0 then setResult j res x s else jobMemoryError j c d.outAddr s

/-- The flags of a completion: raw and end_of_stream (R339). -/
def jobFlags (raw ended : Bool) : Nat := flag raw + 2 * flag ended

/-- Runs a compression job on its input (R326 to R345). -/
def runCompression (j c : Nat) (d : JobDesc) (x : ContStream) (input : List Byte) (s : State) : State :=
  if d.format = 3 then
    let (bytes, raw) := mediaEncode x.level x.depth input
    let out := bytes.take d.outLen
    let full := decide (bytes.length > d.outLen)
    giveOutput j c d out (if full then 1 else 0, jobFlags raw (!full), input.length, out.length) none
      (countCompression c input.length out.length (flag raw) s)
  else
    let (kept, s) := draw s
    let (status, consumed, out, stored, x') := compressStep x input d.last d.outLen kept
    giveOutput j c d out (status, jobFlags (!stored.isEmpty && stored.all id) x'.ended, consumed, out.length) (some x')
      (countCompression c consumed out.length (stored.filter id).length s)

/-- Reads a job's input, or nothing where its length is 0. -/
def jobInput (d : JobDesc) (s : State) : DramAns × State :=
  if d.inLen = 0 then ({ code := 0, bytes := [] }, s) else busRead d.inAddr d.inLen s

/-- A job in service that has not run yet, with the stream it works on and its input; a record or memory error ends it. -/
def startJob (j op : Nat) (run : Nat → JobDesc → ContStream → List Byte → State → State) (s : State) : State :=
  match Tab.get? s.cmp.jobs j with
  | none => s
  | some job =>
    let d := job.desc
    if d.op ≠ op ∨ job.result.isSome then s
    else
      let go (x : ContStream) (s : State) : State :=
        let (ans, s) := jobInput d s
        if ans.code ≠ 0 then jobMemoryError j job.island d.inAddr s else run job.island d x ans.bytes s
      if d.first then
        go { op := op, format := d.format, level := d.level, depth := effectiveDepth d.level d.depth, input := [], given := 0, ended := false } s
      else
        let (ans, s) := busRead d.record 73728 s
        if ans.code ≠ 0 then jobMemoryError j job.island d.record s
        else
          match continued s d ans.bytes with
          | none => setResult j (0x15, 0, 0, 0) none s
          | some x => go x s

/-- Runs a decompression job on its input (R331, R334, R338, R342, R343). -/
def runDecompression (j c : Nat) (d : JobDesc) (x : ContStream) (input : List Byte) (s : State) : State :=
  let give (status consumed : Nat) (out : List Byte) (ended : Bool) (x' : Option ContStream) (s : State) : State :=
    giveOutput j c d out (status, jobFlags false ended, consumed, out.length) x' (bumpReg64 (cmpPage c) 0x58 out.length s)
  if d.format = 3 then
    if input = [] then setResult j (0x12, 0, 0, 0) none s
    else
      let (status, out) := if d.rawIn then (0, input) else mediaDecode input input.length
      if status ≠ 0 then setResult j (status, 0, 0, 0) none s
      else if out.length > d.outLen then give 1 input.length (out.take d.outLen) false none s
      else give 0 input.length out true none s
  else if input = [] then (if d.last then setResult j (0x12, 0, 0, 0) none s else setResult j (0, 0, 0, 0) none s)
  else
    let data := x.input ++ input
    let (e, used, all) := inflateAll d.format data (x.given + d.outLen)
    let out := (all.drop x.given).take d.outLen
    match e with
    | .done => give 0 (used - x.input.length) out true (some { x with input := data.take used, given := x.given + out.length, ended := true }) s
    | .full => give 1 (used - x.input.length) out false (some { x with input := data.take (max used x.input.length), given := x.given + out.length }) s
    | .need =>
      if d.last then give 0x12 input.length out false none s
      else give 2 input.length out false (some { x with input := data, given := x.given + out.length }) s
    | .bad => give 0x11 (used - x.input.length) out false none s
    | .check => give 0x13 (used - x.input.length) out false none s
    | .header => give 0x14 0 out false none s

/-! ## Ring registers (R353, R354, R585) -/

/-- A write of CMP_RING_CFG: a ring it enables takes the word that waits in its channel. -/
def ringCfgWrite (c r : Nat) (v : Word) (s : State) : State :=
  if bits v 11 8 < 4 ∨ bits v 11 8 > 12 then capture (cmpPage c) 0x21 (pageAddr (ringPage c r) (ringBase r + 8)) s
  else
    let s := putReg (ringPage c r) (ringBase r + 8) (v &&& 0x81FF0F07) s
    if bit v 31 && bit v 0 then ringTake (bits v 24 16) s else s

/-- A write of CMP_CFG (R324, R353). -/
def cmpCfgWrite (c : Nat) (v : Word) (s : State) : State :=
  if bits v 3 0 < 1 ∨ bits v 3 0 > 5 ∨ bits v 12 8 > 23 ∨ bits v 20 16 > 23 then capture (cmpPage c) 0x21 (pageAddr (cmpPage c) 0x40) s
  else serveInline (putReg (cmpPage c) 0x40 (v &&& 0x001F1F0F) s)

/-! ## Inline results, re-initialisation and power failure -/

/-- An inline compression's stored form: slots, raw flag and bytes (R238, R333). -/
def inlineCompress (level : Nat) (data : List Byte) : Nat × Bool × List Byte :=
  let (bytes, raw) := mediaEncode level (levelDepth level) data
  (ceilDiv bytes.length 1024, raw, bytes)

/-- An inline decompression that finds a data error (R348). -/
def inlineDataError (c addr : Nat) (s : State) : State :=
  capture (cmpPage c) 0x23 addr (raiseIrq (cmpPage c) 0x400 (bumpReg (cmpPage c) 0x64 1 s))

/-- Re-initialisation of a COMPRESS island, before it resets: ring jobs end with 0x17, inline requests are made again (R351). -/
def cmpReinit (c : Nat) (s : State) : State :=
  let jobs := s.cmp.jobs.filter fun e => e.2.island == c
  let inl := s.cmp.engines.filterMap fun e => if e.island == c then e.inline.map fun u => (u, e.decompress) else none
  let s := setCmp (fun x => { x with
    jobs := Tab.keep x.jobs (fun _ b => b.island != c), engines := x.engines.filter (fun e => e.island != c), turn := Tab.del x.turn c }) s
  let s := doAll (fun e s => completeJob c e.2.ring e.2.desc (0x17, 0, 0, 0) s) jobs s
  doAll (fun (u : InlineUse × Bool) s =>
    if cmpTakes s (1 - c) && sharedFree s (1 - c) u.2 then takeEngine (1 - c) u.1 u.2 s
    else setCmp (fun x => { x with waiting := x.waiting ++ [(u.1, u.2, [])] }) s) inl s

/-- A power failure abandons every job and request (R352). -/
def cmpPowerFail (s : State) : State :=
  setCmp (fun x => { x with engines := [], waiting := [], jobs := [], stopped := true }) s

end Sys2Proof.Machine
end

