-- ==== Sys2Proof/Machine/AccOps.lean ====
section
/-! DEFINITION. ACCESSION's operations: controllers, command contexts, arbitration, completions, interrupts and asynchronous events (chapter 03). Encodings that NVMe and PCI Express give and the manual only names are PRESUMED (log 27). -/

namespace Sys2Proof.Machine

/-! ## Functions and controllers (R68, R71) -/

/-- Changes the host link, ACCESSION, the admin side. -/
def setLinkSt (f : HostLink → HostLink) (s : State) : State := { s with link := f s.link }
def setAcc (f : Accession → Accession) (s : State) : State := { s with acc := f s.acc }
def setAdm (f : Admin → Admin) (s : State) : State := { s with adm := f s.adm }

/-- A controller. -/
def ctlOf (s : State) (c : Nat) : Controller := Tab.getD s.acc.ctls c {}

/-- Changes a controller. -/
def setCtl (c : Nat) (f : Controller → Controller) (s : State) : State := setAcc (fun a => { a with ctls := Tab.update a.ctls c {} f }) s

/-- Sub-links of a port (R68). -/
def subLinks (s : State) (p : Nat) : Nat := 2 ^ Tab.getD s.link.bifurcation p 0

/-- The sub-link of a controller (R71): port and sub-link. -/
def ctlSub (s : State) (c : Nat) : Nat := c % 64 / (64 / subLinks s (c / 64))
def ctlLink (s : State) (c : Nat) : Nat := 4 * (c / 64) + ctlSub s c
def ctlHifPage (s : State) (c : Nat) : Nat := 8 + 4 * (c / 64) + ctlSub s c

/-- The physical function of a sub-link, and whether a controller is one (R71). -/
def pfOf (s : State) (p sub : Nat) : Nat := 64 * p + 64 / subLinks s p * sub
def isPf (s : State) (c : Nat) : Bool := c % (64 / subLinks s (c / 64)) == 0

/-- The controllers of a sub-link. -/
def ctlsOf (s : State) (p sub : Nat) : List Nat := (upTo (64 / subLinks s p)).map fun i => pfOf s p sub + i

/-- TotalVFs of a physical function (R82). -/
def totalVfs (s : State) (c : Nat) : Nat := 64 / subLinks s (c / 64) - 1

/-- A sub-link. -/
def linkOf (s : State) (i : Nat) : SubLink := Tab.getD s.link.links i {}
def setLink (i : Nat) (f : SubLink → SubLink) (s : State) : State :=
  setLinkSt (fun l => { l with links := Tab.update l.links i {} f }) s

/-- The sub-link of a controller is up. -/
def ctlUp (s : State) (c : Nat) : Bool := (linkOf s (ctlLink s c)).rate != 0

/-- CC.EN. -/
def Controller.enabled (x : Controller) : Bool := bit x.cc 0

/-- The highest vector of a controller: its allocation, and at most 2,047 (R97). A physical function's share of the pool may exceed it. -/
def Controller.vectors (x : Controller) : Nat := min 2047 x.vi

/-- Some controller is enabled (R124). -/
def anyEnabled (s : State) : Bool := s.acc.ctls.any fun e => e.2.enabled

/-- A feature value of a controller, and of the device (R154, R155). -/
def ctlFeat (s : State) (c fid sub dflt : Nat) : Nat := Tab.getD (ctlOf s c).feats (fid * 65536 + sub) dflt
def devFeat (s : State) (fid sub dflt : Nat) : Nat := Tab.getD s.adm.feats (fid * 65536 + sub) dflt

/-! ## Completion statuses (R639, R644) -/

/-- A status without Do Not Retry clears without a change to the command or the configuration (R644). -/
def retryable (sct sc : Nat) : Bool :=
  (sct == 0 && (sc == 0x04 || sc == 0x1D || sc == 0x82)) || (sct == 1 && (sc == 0xC3 || sc == 0xC7))

/-- A completion with a status. -/
def statusOf (sct sc : Nat) : Completion := { sct := sct, sc := sc, dnr := !(sct == 0 && sc == 0) && !retryable sct sc }

/-- Success, with the two result dwords. -/
def success (dw0 dw1 : Nat) : Completion := { dw0 := dw0, dw1 := dw1 }

/-- Statuses the manual names. -/
def stInvalidOpcode : Completion := statusOf 0 0x01
def stInvalidField : Completion := statusOf 0 0x02
def stIdConflict : Completion := statusOf 0 0x03
def stDataTransfer : Completion := statusOf 0 0x04
def stInternal : Completion := statusOf 0 0x06

/-- Internal Error after a re-initialisation of the KEEPER island: without Do Not Retry (R616, R644). -/
def stKeeperReset : Completion := { sct := 0, sc := 0x06 }
def stAbortRequested : Completion := statusOf 0 0x07
def stSqDeletion : Completion := statusOf 0 0x08
def stInvalidNs : Completion := statusOf 0 0x0B
def stSanitizeFailed : Completion := statusOf 0 0x1C
def stSanitizing : Completion := statusOf 0 0x1D
def stWriteProtected : Completion := statusOf 0 0x20
def stLbaRange : Completion := statusOf 0 0x80
def stCapacity : Completion := statusOf 0 0x81
def stNotReady : Completion := statusOf 0 0x82
def stUnrecovered : Completion := statusOf 2 0x81
def stCompareFailure : Completion := statusOf 2 0x85

/-! ## Command contexts (R102, R103, R113) -/

/-- The command of a reference: the one that executes, not one refused for its identifier (R114). -/
def cmdOf (s : State) (r : CmdRef) : Option Cmd := s.acc.cmds.find? fun c => c.ref == r && !c.dup

/-- Changes it. -/
def setCmd (r : CmdRef) (f : Cmd → Cmd) (s : State) : State :=
  setAcc (fun a => { a with cmds := updFirst (fun c => c.ref == r && !c.dup) f a.cmds }) s

/-- A command has started (R107); a Write that waits for budget has not (R117). -/
def Cmd.started (c : Cmd) : Bool := (c.phase == .started || c.phase == .executed || c.phase == .held) && !c.waitsCharge

/-- A command has been fetched and not started. -/
def Cmd.unstarted (c : Cmd) : Bool := c.cpl.isNone && (c.phase == .fetched || c.waitsCharge)

/-- A command finishes with a completion: it may then complete in its order; one that a reset left to run on ends without a CQE (R120). -/
def finish (r : CmdRef) (cpl : Completion) (s : State) : State :=
  if (cmdOf s r).any (·.silent) then setAcc (fun a => { a with cmds := dropFirst (fun c => c.ref == r && c.silent) a.cmds }) s
  else setCmd r (fun c => { c with phase := .executed, cpl := some cpl, waitsCharge := false }) s

/-- The command of a reference that its host awaits: not one that a reset left to run on (R120). -/
def awaitedOf (s : State) (r : CmdRef) : Option Cmd := s.acc.cmds.find? fun c => c.ref == r && !c.dup && !c.silent

/-- Changes it. -/
def setAwaited (r : CmdRef) (f : Cmd → Cmd) (s : State) : State :=
  setAcc (fun a => { a with cmds := updFirst (fun c => c.ref == r && !c.dup && !c.silent) f a.cmds }) s

/-- It finishes with a completion. -/
def finishAwaited (r : CmdRef) (cpl : Completion) (s : State) : State :=
  setAwaited r (fun c => { c with phase := .executed, cpl := some cpl, waitsCharge := false }) s

/-- Contexts a controller uses. -/
def ctxUsed (s : State) (c : Nat) : Nat := (s.acc.cmds.filter fun x => x.ref.ctl == c).length

/-- A context is free to a controller: one of its own reserve or one that is shared (R103), and never more than there are (R102). -/
def ctxFree (s : State) (c : Nat) : Bool :=
  let r := regField s 16 0x48 10 0
  let held := s.acc.ctls.foldl (fun (n : Nat) (e : Nat × Controller) => n + (if e.2.enabled then max r (ctxUsed s e.1) else ctxUsed s e.1)) 0
  decide (s.acc.cmds.length < 131072) && (decide (ctxUsed s c < r) || decide (held < 131072))

/-! ## Interrupts (R128 to R131) -/

/-- Sends or pends the message of a vector. -/
def sendVector (c v : Nat) (s : State) : State :=
  let x := ctlOf s c
  if !x.cfg.msixEnable then s
  else if x.cfg.functionMask || !x.unmasked.contains v then
    setCtl c (fun x => { x with pba := if x.pba.contains v then x.pba else sortBy id (v :: x.pba) }) s
  else if ctlUp s c then let e := Tab.getD x.msixTable v (0, 0)
    emit (.msix c v e.1 e.2) s
  else s

/-- A completion event of a CQ: its message, coalesced where feature 0x08 asks for it (R129, R130). With MSI-X off it leaves
nothing behind (R131). -/
def interruptCq (c q : Nat) (s : State) : State :=
  match Tab.get? (ctlOf s c).cqs q with
  | none => s
  | some cq =>
    if !cq.ien || !(ctlOf s c).cfg.msixEnable then s
    else
      let f := ctlFeat s c 0x08 0 0
      let exempt := ctlFeat s c 0x09 cq.vector 0 / 65536 % 2 = 1
      if q = 0 ∨ cq.vector = 0 ∨ exempt ∨ f / 256 % 256 = 0 then sendVector c cq.vector s
      else
        let n := Tab.getD (ctlOf s c).coalesce cq.vector 0 + 1
        if n ≥ f % 256 + 1 then sendVector c cq.vector (setCtl c (fun x => { x with coalesce := Tab.del x.coalesce cq.vector }) s)
        else setCtl c (fun x => { x with coalesce := Tab.set x.coalesce cq.vector n }) s

/-! ## Posting CQEs (R108, R112) -/

/-- The commands of an SQ, in order of fetch. -/
def sqCmds (s : State) (c q : Nat) : List Cmd := s.acc.cmds.filter fun x => x.ref.ctl == c && x.ref.sq == q && !x.silent

/-- Counts the latency of a command against its class guard (R294). -/
def noteLatency (c : Cmd) (s : State) : State :=
  match Tab.get? (ctlOf s c.ref.ctl).sqs c.ref.sq with
  | none => s
  | some q =>
    if c.ref.sq = 0 then s
    else
      let guard := devFeat s 0xC1 q.prio ([100, 500, 2000, 0].getD q.prio 0)
      setAcc (fun a => { a with
        windowDone := Tab.bump a.windowDone q.prio 1,
        windowLate := if guard ≠ 0 ∧ s.tsc > c.doorbellTsc + guard * 1000 then Tab.bump a.windowLate q.prio 1 else a.windowLate }) s

/-- A CQ has room (R112). -/
def Cq.room (q : Cq) : Bool := (q.tail + 1) % q.size != q.head

/-- Writes the CQE of a command and releases its context (R102, R108). -/
def writeCqe (c : Cmd) (cpl : Completion) (q : Cq) (sq : Sq) (s : State) : State :=
  let ctl := c.ref.ctl
  let st := cpl.sc + cpl.sct * 256 + flag cpl.dnr * 16384
  let s := if ctlUp s ctl then emit (.cqe ctl sq.cqid q.tail c.ref.cid c.ref.sq sq.head st cpl.dw0 cpl.dw1 q.phase) s else s
  let tail := (q.tail + 1) % q.size
  let s := setCtl ctl (fun x => { x with
    cqs := Tab.set x.cqs sq.cqid { q with tail := tail, phase := if tail = 0 then !q.phase else q.phase } }) s
  let s := noteLatency c s
  let s := setAcc (fun a => { a with cmds := dropFirst (fun x => x == c) a.cmds }) s
  if s.acc.cmds.any (fun k => k.ref.ctl == ctl && !(k.ref.sq == 0 && k.opcode == 0x0C)) then s
  else setCtl ctl (fun x => { x with idleSince := s.tsc }) s

/-- Posts the leading held CQEs of an SQ; the count says how many. -/
def postHeads (c q : Nat) : Nat → Nat → State → Nat × State
  | 0, n, s => (n, s)
  | fuel + 1, n, s =>
    match (sqCmds s c q).head?, Tab.get? (ctlOf s c).sqs q with
    | some cmd, some sq =>
      match cmd.phase, cmd.cpl, Tab.get? (ctlOf s c).cqs sq.cqid with
      | .held, some cpl, some cq => if cq.room then postHeads c q fuel (n + 1) (writeCqe cmd cpl cq sq s) else (n, s)
      | _, _, _ => (n, s)
    | _, _ => (n, s)

/-- A deleted SQ goes once its last CQE is posted, and its Delete command finishes (R119). -/
def checkSqDelete (c q : Nat) (s : State) : State :=
  match Tab.get? (ctlOf s c).sqs q with
  | none => s
  | some sq =>
    match sq.deleting with
    | none => s
    | some r =>
      if (sqCmds s c q).isEmpty then finish r (success 0 0) (setCtl c (fun x => { x with sqs := Tab.del x.sqs q }) s) else s

/-- Posts what an SQ may post: one completion event of its CQ (R108, R130). -/
def postSq (c q : Nat) (s : State) : State :=
  let cq := ((Tab.get? (ctlOf s c).sqs q).map fun x => x.cqid).getD 0
  let (n, s) := postHeads c q s.acc.cmds.length 0 s
  checkSqDelete c q (if n = 0 then s else interruptCq c cq s)

/-- Posts what the SQs of a CQ may post. What one step posts to the CQ is one completion event, from several SQs too (R130 speaks of
one SQ; DESIGN CHOICE, log 142). -/
def postCq (c cq : Nat) (s : State) : State :=
  let qs := ((ctlOf s c).sqs.filter fun e => e.2.cqid == cq).map Prod.fst
  let (n, s) := qs.foldl (fun (p : Nat × State) q =>
    let (k, t) := postHeads c q p.2.acc.cmds.length 0 p.2
    (p.1 + k, t)) (0, s)
  doAll (checkSqDelete c) qs (if n = 0 then s else interruptCq c cq s)

/-- A finished command completes: its CQE is posted, or held behind earlier ones (R108). -/
def completeCmd (r : CmdRef) (s : State) : State :=
  if s.acc.cmds.any (fun c => c.ref == r && c.phase == .executed && c.cpl.isSome) then
    postSq r.ctl r.sq (setAcc (fun a => { a with
      cmds := updFirst (fun c => c.ref == r && c.phase == .executed && c.cpl.isSome) (fun c => { c with phase := .held }) a.cmds }) s)
  else s

/-! ## Asynchronous events and errors (R95, R143, R145) -/

/-- An asynchronous event of a controller: it completes an outstanding request, or waits for one (R143). -/
def asyncEvent (c : Nat) (e : AsyncEvent) (s : State) : State :=
  match (ctlOf s c).aers with
  | cid :: t =>
    finish { ctl := c, sq := 0, cid := cid } (success (e.type + e.info * 256 + e.lid * 65536) 0) (setCtl c (fun x => { x with aers := t }) s)
  | [] => setCtl c (fun x => { x with events := if x.events.contains e then x.events else x.events ++ [e] }) s

/-- An event of every enabled controller. -/
def asyncAll (e : AsyncEvent) (s : State) : State := doAll (fun c s => asyncEvent c e s) (s.acc.ctls.keys.filter fun c => (ctlOf s c).enabled) s

/-- An event that feature 0x0B enables by a bit (R154). -/
def asyncNotice (c n : Nat) (e : AsyncEvent) (s : State) : State :=
  if (ctlFeat s c 0x0B 0 0).testBit n then asyncEvent c e s else s
def asyncNoticeAll (n : Nat) (e : AsyncEvent) (s : State) : State :=
  doAll (fun c s => asyncNotice c n e s) (s.acc.ctls.keys.filter fun c => (ctlOf s c).enabled) s

/-- A SMART health event (critical warning bit `n` of feature 0x0B): type 1. -/
def healthEvent (n info : Nat) (s : State) : State := asyncNoticeAll n { type := 1, info := info, lid := 2 } s

/-- An entry of the Error Information log (R145). -/
def logError (c : Nat) (sq cid status lba nsid : Nat) (s : State) : State :=
  setCtl c (fun x => { x with
    errCount := x.errCount + 1,
    errors := ({ count := x.errCount + 1, sqid := sq, cid := cid, status := status, lba := lba, nsid := nsid } :: x.errors).take 256 }) s

/-! ## Doorbells (R94, R95) -/

/-- An invalid doorbell (R95): information 0 for a missing queue, 1 for a value outside it. -/
def invalidDoorbell (c info off : Nat) (s : State) : State :=
  asyncEvent c { type := 0, info := info, lid := 1 } (capture 16 0x20 off s)

/-- A submission queue tail doorbell write brings new entries: the queue is there and its tail moves. -/
def bellRings (s : State) (c q v : Nat) : Bool := (Tab.get? (ctlOf s c).sqs q).any fun sq => decide (v < sq.size) && v != sq.tail

/-- A submission queue tail doorbell (R94). -/
def sqDoorbell (c q v : Nat) (s : State) : State :=
  match Tab.get? (ctlOf s c).sqs q with
  | none => invalidDoorbell c 0 (0x1000 + 8 * q) s
  | some sq =>
    if v ≥ sq.size then invalidDoorbell c 1 (0x1000 + 8 * q) s
    else setCtl c (fun x => { x with
      sqs := Tab.set x.sqs q { sq with tail := v, bells := if v = sq.tail then sq.bells else sq.bells ++ [(v, s.tsc)] } }) s

/-- A completion queue head doorbell. -/
def cqDoorbell (c q v : Nat) (s : State) : State :=
  match Tab.get? (ctlOf s c).cqs q with
  | none => invalidDoorbell c 0 (0x1000 + 8 * q + 4) s
  | some cq =>
    if v ≥ cq.size then invalidDoorbell c 1 (0x1000 + 8 * q + 4) s
    else setCtl c (fun x => { x with cqs := Tab.set x.cqs q { cq with head := v } }) s

/-! ## Arbitration and fetching (R102 to R106) -/

/-- The device stops fetching on every controller. -/
def fetchStopped (s : State) : Bool :=
  s.acc.stopPower || s.acc.stopActivation || islandRefuses s .accession || (hdr s 16).quiesceReq || decide ((isl s .accession).power ≠ 2)

/-- A controller may have SQEs fetched, leaving contexts aside. -/
def ctlFetches (s : State) (c : Nat) : Bool :=
  let x := ctlOf s c
  x.enabled && x.rdy && !x.cfs && !x.shut && ctlUp s c && decide ((linkOf s (ctlLink s c)).reqs.length < 8192)

/-- An SQ holds an entry to fetch. -/
def Sq.waits (q : Sq) : Bool := q.head != q.tail && q.deleting.isNone

/-- The admin SQs that may be fetched from, and the controllers with ready I/O SQs. -/
def adminReady (s : State) (c : Nat) : Bool :=
  ctlFetches s c && (match Tab.get? (ctlOf s c).sqs 0 with
    | some q => q.waits
    | none => false)
def ioReady (s : State) (c : Nat) : List (Nat × Sq) :=
  if ctlFetches s c && regField s 17 (0x40 + 4 * c) 7 0 != 0 then (ctlOf s c).sqs.filter fun e => e.1 != 0 && e.2.waits else []

/-- The next number of a list in round robin after `turn`. -/
def nextTurn (turn : Nat) (xs : List Nat) : Option Nat := minBy (fun x => (x + 65536 - turn) % 65536) xs

/-- The class an I/O SQ is served in under CC.AMS: 0 alone under round robin. -/
def sqClass (s : State) (c : Nat) (q : Sq) : Nat := if bits (ctlOf s c).cc 13 11 = 1 then q.prio else 0

/-- Credits left of a class, and the weight it is given anew (R104, R105). -/
def creditOf (a : ArbCredits) (cls : Nat) : Nat := if cls = 1 then a.high else if cls = 2 then a.med else a.low
def weightOf (s : State) (c cls : Nat) : Nat :=
  let f := ctlFeat s c 0x01 0 0x0F030003
  (if cls = 1 then f / 2 ^ 24 else if cls = 2 then f / 2 ^ 16 else f / 256) % 256 + 1
def ArbCredits.use (a : ArbCredits) (cls : Nat) : ArbCredits :=
  if cls = 1 then { a with high := a.high - 1 } else if cls = 2 then { a with med := a.med - 1 }
  else if cls = 3 then { a with low := a.low - 1 } else a

/-- The I/O SQ a controller serves next, with its credits after (R104). Arbitration burst 7 is no limit (R105). -/
def pickSq (s : State) (c : Nat) : Option (Nat × ArbCredits) :=
  let ready := ioReady s c
  let a := Tab.getD s.acc.credits c {}
  let classes := (upTo 4).filter fun k => ready.any fun e => sqClass s c e.2 == k
  let withCredit := classes.filter fun k => k == 0 || decide (creditOf a k > 0)
  let a := if withCredit.isEmpty then { a with high := weightOf s c 1, med := weightOf s c 2, low := weightOf s c 3 } else a
  match (if withCredit.isEmpty then classes else withCredit).head? with
  | none => none
  | some k =>
    let qs := (ready.filter fun e => sqClass s c e.2 == k).map Prod.fst
    let ab := ctlFeat s c 0x01 0 0x0F030003 % 8
    let stay := (a.left ≠ 0 ∨ ab = 7) ∧ qs.contains a.turn
    match (if stay then some a.turn else nextTurn (a.turn + 1) qs) with
    | none => none
    | some q => some (q, { a.use k with turn := q, left := if ab = 7 then 0 else (if stay then a.left else 2 ^ ab) - 1 })

/-- The SQ fetched from next (R104): controller and queue, with ACCESSION after. -/
def arbitrate (s : State) : Option (Nat × Nat × Accession) :=
  let ctls := s.acc.ctls.keys
  let free (c : Nat) : Bool := ctxFree s c
  match nextTurn s.acc.adminTurn (ctls.filter fun c => adminReady s c && free c) with
  | some c => some (c, 0, { s.acc with adminTurn := (c + 1) % 65536 })
  | none =>
    let io := ctls.filter fun c => !(ioReady s c).isEmpty && free c
    let stay := s.acc.ioLeft ≠ 0 ∧ io.contains s.acc.ioTurn
    match (if stay then some s.acc.ioTurn else nextTurn ((s.acc.ioTurn + 1) % 65536) io) with
    | none => none
    | some c =>
      match pickSq s c with
      | none => none
      | some (q, a) =>
        some (c, q, { s.acc with
          ioTurn := c, ioLeft := (if stay then s.acc.ioLeft else 8 * regField s 17 (0x40 + 4 * c) 7 0) - 1,
          credits := Tab.set s.acc.credits c a })

/-- A free tag of a sub-link: the first from the next one on that no outstanding request has (R76, R643). -/
def freeTag (l : SubLink) : Nat :=
  ((upTo 8193).map fun i => (l.nextTag + i) % 16384).find? (fun t => !(l.reqs.any fun r => r.tag == t)) |>.getD 0

/-- A non-posted request goes out on the sub-link of a controller (R76). -/
def hostRequest (c : Nat) (cause : ReqCause) (s : State) : State :=
  let i := ctlLink s c
  let t := freeTag (linkOf s i)
  emit (.hostRequest i t) (setLink i (fun l => { l with
    reqs := l.reqs ++ [{ tag := t, ctl := c, cause := cause, ended := false }], nextTag := (t + 1) % 16384 }) s)

/-- The controllers with an SQE to fetch and no context free to them: fetching from their SQs stops (R102). -/
def contextsRunOut (s : State) : List Nat :=
  s.acc.ctls.keys.filter fun c => (adminReady s c || !(ioReady s c).isEmpty) && !ctxFree s c

/-- ACCESSION notes whose fetching stands still for want of a context; ctx_exhausted is raised when a controller's stops (R102, R134). -/
def noteExhausted (s : State) : State :=
  let out := contextsRunOut s
  let was := s.acc.exhausted
  let s := setAcc (fun a => { a with exhausted := out }) s
  if out.any (fun c => !was.contains c) then raiseIrq 16 0x200 s else s

/-- Fetches the next SQE (R102, R104): a context is taken. -/
def fetchSqe (s : State) : State :=
  if fetchStopped s then s
  else
    let s := noteExhausted s
    match arbitrate s with
    | none => s
    | some (c, q, a) =>
      match Tab.get? (ctlOf s c).sqs q with
      | none => s
      | some sq =>
        let head := (sq.head + 1) % sq.size
        let bell := (sq.bells.head?).getD (0, s.tsc)
        let s := { s with acc := a }
        let s := setCtl c (fun x => { x with
          sqs := Tab.set x.sqs q { sq with head := head, bells := if bell.1 = head then sq.bells.tail else sq.bells } }) s
        let s := setAcc (fun a => { a with
          cmds := a.cmds ++ [{ ref := { ctl := c, sq := q, cid := 0 }, phase := .fetching, doorbellTsc := bell.2 }] }) s
        hostRequest c (.sqe c q) s

/-- The first fetch of an SQ that is under way. -/
def Cmd.fetchingOn (c q : Nat) (x : Cmd) : Bool := x.ref.ctl == c && x.ref.sq == q && x.phase == .fetching

/-- An SQE arrives (R113, R114): its identifier is outstanding, or already was; on a queue being deleted it ends like a command
not started (R119). -/
def sqeArrive (c q : Nat) (h : SqeHeader) (s : State) : State :=
  let r : CmdRef := { ctl := c, sq := q, cid := h.cid }
  let dup := s.acc.cmds.any fun x => x.ref == r && x.phase != .fetching && !x.silent
  let gone := ((Tab.get? (ctlOf s c).sqs q).map fun x => x.deleting.isSome) == some true
  let fill (x : Cmd) : Cmd :=
    { x with ref := r, opcode := h.opcode, fuse := h.fuse, nsid := h.nsid, dup := dup,
             phase := if dup || gone then .executed else .fetched,
             cpl := if dup then some stIdConflict else if gone then some stSqDeletion else none }
  let s := setLink (ctlLink s c) (fun l => { l with reqs := dropFirst (fun x => x.cause == .sqe c q && !x.ended) l.reqs }) s
  setAcc (fun a => { a with cmds := updFirst (Cmd.fetchingOn c q) fill a.cmds }) s

/-! ## Starting (R107, R110, R135, R136) -/

/-- The admin opcodes of R135, and those a VF may not issue. -/
def adminOpcodes : List Nat := [0x00, 0x01, 0x02, 0x04, 0x05, 0x06, 0x08, 0x09, 0x0A, 0x0C, 0x0D, 0x10, 0x11, 0x14, 0x15, 0x1C, 0x80, 0x84]
def pfOnlyOpcodes : List Nat := [0x0D, 0x10, 0x11, 0x14, 0x15, 0x1C, 0x80, 0x84]

/-- Command set of a namespace: NVM 0, SLM 3, compute 4 (R417, R418). -/
def nsSet (s : State) (nsid : Nat) : Nat := ((Tab.get? s.adm.namespaces nsid).map fun n => n.csi).getD 0

/-- The opcodes of the sets the device supports (R139, R417): NVM; Computational Programs; Subsystem Local Memory. -/
def ioOpcodes (csi : Nat) : List Nat :=
  if csi = 4 then [0x01, 0x21, 0x22, 0x23] else if csi = 3 then [0x01, 0x02] else [0x00, 0x01, 0x02, 0x05, 0x08, 0x09, 0x0C]

/-- The opcode is one the function supports. -/
def opcodeOk (s : State) (c : Cmd) : Bool :=
  if c.ref.sq = 0 then
    adminOpcodes.contains c.opcode && (isPf s c.ref.ctl || !pfOnlyOpcodes.contains c.opcode)
  else if bits (ctlOf s c.ref.ctl).cc 6 4 = 6 then (ioOpcodes (nsSet s c.nsid)).contains c.opcode
  else (ioOpcodes 0).contains c.opcode

/-- A command has started or is over. -/
def Cmd.underWay (c : Cmd) : Bool := c.started || c.cpl.isSome

/-- Every earlier command of the SQ has started or finished (R107). -/
def earlierStarted (s : State) (r : CmdRef) : Bool :=
  ((sqCmds s r.ctl r.sq).takeWhile fun c => !(c.ref == r && !c.dup)).all Cmd.underWay

/-- Commands may start now: no activation, power failure or reset holds them back, and their controller is not shutting down
(R123, R275, R607, R609); and the earlier ones of its SQ have (R107). -/
def startsAllowed (s : State) (r : CmdRef) : Bool :=
  earlierStarted s r && !s.acc.stopActivation && !s.acc.stopPower && !(ctlOf s r.ctl).shut

/-- The command may start now. -/
def mayStart (s : State) (c : Cmd) : Bool := c.phase == .fetched && c.cpl.isNone && startsAllowed s c.ref

/-- The command fetches data from host memory: Write, Compare, Dataset Management and the commands that load or write; Namespace
Management, Firmware Image Download and Namespace Attachment. -/
def takesData (c : Cmd) : Bool :=
  if c.ref.sq = 0 then [0x0D, 0x11, 0x15].contains c.opcode else [0x01, 0x05, 0x09, 0x21, 0x22, 0x23].contains c.opcode

/-- An Execute Program: the Registrar starts it (R450). -/
def executes (s : State) (c : Cmd) : Bool := c.ref.sq != 0 && nsSet s c.nsid == 4 && c.opcode == 0x01

/-- A Write of the NVM command set. -/
def writesMedia (s : State) (c : Cmd) : Bool := c.ref.sq != 0 && nsSet s c.nsid == 0 && c.opcode == 0x01

/-- The status that ends a command before it starts: an opcode that is not supported (R135, R136, R139), then FUSE other than 0
(R110). With both, the opcode counts: the manual gives no order (DESIGN CHOICE, log 141). -/
def headerRefusal (s : State) (c : Cmd) : Option Completion :=
  if !opcodeOk s c then some stInvalidOpcode else if c.fuse ≠ 0 then some stInvalidField else none

/-- The commands that change state shared by all controllers: Namespace Management, Firmware Commit, Namespace Attachment,
Virtualization Management, Format NVM, Sanitize (R137). Set Features of a device-wide feature is one too. -/
def sharedOpcodes : List Nat := [0x0D, 0x10, 0x15, 0x1C, 0x80, 0x84]

/-- It is a command's turn at the keeper (R137): every earlier one, of any controller, that changes or may change shared state is over.
Of an SQE still on its way, and of a Set Features, it is not known yet what they change. -/
def keeperTurn (s : State) (r : CmdRef) : Bool :=
  (s.acc.cmds.takeWhile fun k => !(k.ref == r && !k.dup)).all fun k =>
    k.ref.sq != 0 || k.cpl.isSome || (k.phase != .fetching && !(sharedOpcodes.contains k.opcode || k.opcode == 0x09))

/-- A started command whose meaning runs now: its queue kind and opcode fit, and where it changes shared state it is its turn. -/
def running (s : State) (r : CmdRef) (admin : Bool) (opcodes : List Nat) : Option Cmd :=
  match cmdOf s r with
  | none => none
  | some c =>
    if c.phase == .started && c.cpl.isNone && (r.sq == 0) == admin && opcodes.contains c.opcode && !c.waitsCharge
        && !(admin && sharedOpcodes.contains c.opcode && !keeperTurn s r) then some c else none

/-- The effect of a started command; a command that is not there has none (log 28). -/
def onCmd (r : CmdRef) (admin : Bool) (opcodes : List Nat) (f : Cmd → State → State) (s : State) : State :=
  match running s r admin opcodes with
  | none => s
  | some c => f c (setLink (ctlLink s r.ctl) (fun l => { l with reqs := dropFirst (fun x => x.cause == .data r && !x.ended) l.reqs }) s)

/-- Data of a command goes to host memory, while the sub-link is up (R643). -/
def sendData (r : CmdRef) (bytes : List Byte) (s : State) : State :=
  if ctlUp s r.ctl && bytes != [] then emit (.hostData r bytes) s else s

/-! ## Resets of controllers (R90 to R93, R120 to R122) -/

/-- CC holds a value the controller accepts (R90). -/
def ccOk (w : Word) : Bool :=
  bits w 19 16 == 6 && bits w 23 20 == 4 && decide (bits w 10 7 ≤ 4) && decide (bits w 13 11 ≤ 1) && (bits w 6 4 == 0 || bits w 6 4 == 6)

/-- CC.EN goes from 0 to 1 (R91, R93). -/
def enableCtl (c : Nat) (w : Word) (s : State) : State :=
  if !ccOk w then raiseIrq 16 0x100 (setCtl c (fun x => { x with cc := w, cfs := true }) s)
  else
    setCtl c (fun x => { x with
      cc := w, shut := false, shst := 0, idleSince := s.tsc,
      sqs := Tab.set x.sqs 0 { size := bits x.aqa 11 0 + 1, cqid := 0, prio := 0 },
      cqs := Tab.set x.cqs 0 { size := bits x.aqa 27 16 + 1, vector := 0, ien := true } }) s

/-- The saved features of a controller (R159): key and value. -/
def savedFeats (s : State) (c : Nat) : Tab Nat :=
  (s.adm.ctlSaved.filter fun e => e.1 / 2 ^ 32 == c).map fun e => (e.1 % 2 ^ 32, e.2)

/-- A Delete I/O Submission Queue that waits for its queue's last CQE (R119): a reset deletes the queue, and it is done. -/
def deletesSq (s : State) (c : Cmd) : Bool := (ctlOf s c.ref.ctl).sqs.any fun q => q.2.deleting == some c.ref

/-- A started command that a reset lets run to its end in the device: an admin command but for a request for an event and a Delete that
the reset itself completes, and a Write, Write Zeroes, Dataset Management or Flush (R120). -/
def runsOn (s : State) (c : Cmd) : Bool :=
  c.phase == .started && c.cpl.isNone && !c.waitsCharge
    && (if c.ref.sq = 0 then c.opcode != 0x0C && !deletesSq s c else nsSet s c.nsid == 0 && [0x00, 0x01, 0x08, 0x09].contains c.opcode)

/-- An inline use that reads for a controller. -/
def InlineUse.readsOf (c : Nat) : InlineUse → Bool
  | .readMu r _ => r.ctl == c
  | .compressMu _ | .fillMu _ | .scanMu _ _ _ => false

/-- What a reset does to a controller's commands and requests (R120, R643). A started Firmware Commit goes on under R123. -/
def endCommands (c : Nat) (s : State) : State :=
  let execs := (s.rgs.execs.filter fun e => e.2.ref.ctl == c).map Prod.fst
  let s := doAll (fun e s => cancelExecution e .controllerReset s) execs s
  let s := setRgs (fun r => { r with waiting := r.waiting.filter fun w => w.ref.ctl != c }) s
  let s := { s with
    cur := { s.cur with
      reads := s.cur.reads.filter (fun j => j.ref.ctl != c), writes := s.cur.writes.filter (fun j => j.ref.ctl != c) }
    cmp := { s.cmp with
      engines := s.cmp.engines.filter (fun e => !e.inline.any (InlineUse.readsOf c)), waiting := s.cmp.waiting.filter fun w => !w.1.readsOf c } }
  let keep (x : Cmd) : Option Cmd :=
    if x.ref.ctl != c || x.silent then some x else if runsOn s x then some { x with silent := true } else none
  let s := setAcc (fun a => { a with cmds := a.cmds.filterMap keep, credits := Tab.del a.credits c }) s
  setLink (ctlLink s c) (fun l => { l with reqs := l.reqs.map fun r => if r.ctl == c then { r with ended := true } else r }) s

/-- What a controller reset does to the controller's commands, queues and requests (R120, R643). -/
def dropCommands (c : Nat) (s : State) : State :=
  let s := endCommands c s
  setCtl c (fun x => { x with
    sqs := [], cqs := [], aers := [], events := [], rdy := false, cfs := false, shst := 0, shut := false, coalesce := [],
    feats := savedFeats s c, apst := Tab.getD s.adm.apstSaved c [], apstState := none, monSnap := none }) s

/-- A controller reset (R120, R122): CC.EN from 1 to 0. -/
def resetCtl (c : Nat) (w : Word) (s : State) : State :=
  let s := dropCommands c s
  raiseIrq (ctlHifPage s c) 0x1000 (setCtl c (fun x => { x with cc := putBit w 0 false }) s)

/-- A function-level reset of one function (R121): also its configuration space, and the registers it holds. -/
def flrOne (c : Nat) (s : State) : State :=
  let s := dropCommands c s
  setCtl c (fun x => { x with cc := 0, aqa := 0, asq := 0, acq := 0, cfg := {}, msixTable := [], unmasked := [], pba := [] }) s

/-- A function-level reset: of a physical function with every VF of its sub-link (R121, R122). -/
def flr (c : Nat) (s : State) : State :=
  let p := c / 64
  let sub := ctlSub s c
  let page := ctlHifPage s c
  raiseIrq page 0x1000 (doAll flrOne (if isPf s c then ctlsOf s p sub else [c]) s)

/-- A shutdown notification (R147, R607): fetching stops. Once every enabled controller has had one, a loss of power is not unsafe. -/
def shutdownCtl (c shn : Nat) (s : State) : State :=
  if shn = 1 ∨ shn = 2 then
    let s := setCtl c (fun x => { x with cc := putBits x.cc 15 14 shn, shut := true, shst := if x.shst = 2 then 2 else 1 }) s
    if s.acc.ctls.all (fun e => !e.2.enabled || e.2.shut) then { s with pwr := { s.pwr with safeOff := true } } else s
  else setCtl c (fun x => { x with cc := putBits x.cc 15 14 shn }) s

/-- A write of CC: enable, reset or shutdown (R91, R120, R607). -/
def writeCc (c : Nat) (w : Word) (s : State) : State :=
  let w := w &&& 0x01FFFFF1
  let was := (ctlOf s c).enabled
  let s :=
    if bit w 0 && !was then enableCtl c w s
    else if !bit w 0 && was then resetCtl c w s
    else setCtl c (fun x => { x with cc := w }) s
  if bits w 15 14 ≠ 0 ∧ bit w 0 then shutdownCtl c (bits w 15 14) s else s

/-- Every charged MU is programmed and the journal tail is durable (R607). -/
def allDurable (s : State) : Bool := s.cur.wb.isEmpty && s.cur.tail.isEmpty

/-- The shutdown of a controller may be reported complete (R607): its started commands are done; on the last one everything is durable. -/
def shutdownDone (s : State) (c : Nat) : Bool :=
  let x := ctlOf s c
  x.shut && decide (x.shst = 1) && s.acc.cmds.all (fun k => k.ref.ctl != c || !k.started || k.opcode == 0x0C && k.ref.sq == 0)
    && ((s.acc.ctls.any fun e => e.1 != c && e.2.enabled && !e.2.shut) || allDurable s)

/-! ## BAR0 (R94) -/

/-- An access of BAR0 that R94 accepts. -/
def bar0Ok (off width : Nat) : Bool :=
  (width == 32 && off % 4 == 0) || (width == 64 && (off == 0 || off == 0x28 || off == 0x30))

/-- An access of BAR0 that is not performed (R94): a read gives all ones. -/
def bar0Bad (off width : Nat) (write : Bool) (s : State) : State :=
  let s := capture 16 0x24 off s
  if write then s else emit (.hostRead (2 ^ width - 1)) s

/-! ## ACCESSION registers (R133) -/

/-- A write of ACC_CTX_RESERVE. -/
def ctxReserveWrite (v : Word) (s : State) : State :=
  if v.toNat > 1024 then capture 16 0x22 (pageAddr 16 0x48) s else putReg 16 0x48 (word (bits v 10 0)) s

/-- A write of ACC_CTL_WEIGHT. -/
def ctlWeightWrite (n : Nat) (v : Word) (s : State) : State :=
  if n ≥ controllerCount s then capture 16 0x23 (pageAddr 17 (0x40 + 4 * n)) s else putReg 17 (0x40 + 4 * n) (word (bits v 7 0)) s

/-! ## Views -/

/-- HIF_LINK_STAT (R86). -/
def hifLinkStat (s : State) (i : Nat) : Word :=
  let l := linkOf s i
  word (l.pm * 2 ^ 18 + flag (l.rate != 0 && decide (l.rate < 6)) * 2 ^ 17 + flag l.degraded * 2 ^ 16 + flag l.reversed * 2 ^ 14
    + flag (l.flit && l.rate != 0) * 2 ^ 13 + l.width * 256 + l.rate)

/-- HIF_PORT_CFG (R85). -/
def hifPortCfg (s : State) (p : Nat) : Word := word (subLinks s p * 16 + Tab.getD s.link.bifurcation p 0)

/-- ACC_CTX_INUSE (R132). -/
def ctxInUse (s : State) : Word := word s.acc.cmds.length

end Sys2Proof.Machine
end

