-- ==== Sys2Proof/Machine/CatOps.lean ====
section
/-! DEFINITION. The Catalogue's chains, searches and commands (chapter 11). -/

namespace Sys2Proof.Machine

/-- Changes the Catalogue. -/
def setCat (f : Catalogue → Catalogue) (s : State) : State := { s with cat := f s.cat }

/-- CAT_CHAIN_c and its fields (R488). -/
def chainReg (s : State) (c : Nat) : Word := getReg s 201 (0x40 + 4 * c)
def chainEnabled (s : State) (c : Nat) : Bool := bit (chainReg s c) 31
def chainOwner (s : State) (c : Nat) : Nat := bits (chainReg s c) 23 16
def chainWidth (s : State) (c : Nat) : Nat := bits (chainReg s c) 14 12
def chainDepth (s : State) (c : Nat) : Nat := bits (chainReg s c) 11 6
def chainFirst (s : State) (c : Nat) : Nat := bits (chainReg s c) 4 0

/-- The chain holds a bank (R466). -/
def chainHas (s : State) (c bank : Nat) : Bool :=
  decide (chainFirst s c ≤ bank) && decide (bank < chainFirst s c + chainWidth s c * chainDepth s c)

/-- Entries of a chain (R466). -/
def chainEntries (s : State) (c : Nat) : Nat := chainDepth s c * 4096

/-- A row of a bank. -/
def catRow (s : State) (bank row : Nat) : CatRow := Tab.getD s.cat.rows (bank * 4096 + row) {}

/-- The banks of the group of entry `i`. -/
def entryBanks (s : State) (c i : Nat) : List Nat :=
  (upTo (chainWidth s c)).map fun j => chainFirst s c + i / 4096 * chainWidth s c + j

/-- Changes every row of an entry. -/
def setEntry (c i : Nat) (f : Nat → CatRow → CatRow) (s : State) : State :=
  doAll (fun b s => setCat (fun x => { x with rows := Tab.update x.rows (b * 4096 + i % 4096) {} (f (b - (entryBanks s c i).headD 0)) }) s)
    (entryBanks s c i) s

/-- The first row of an entry carries its valid bit and tag (R467). -/
def entryHead (s : State) (c i : Nat) : CatRow := catRow s ((entryBanks s c i).headD 0) (i % 4096)

/-- Value or care of an entry, 576 bits (R467). -/
def entryBits (s : State) (c i : Nat) (f : CatRow → BitVec 144) : Nat :=
  (entryBanks s c i).foldr (fun b acc => (f (catRow s b (i % 4096))).toNat + 2 ^ 144 * acc) 0

/-- An entry matches a key under a tag (R470). -/
def entryMatches (s : State) (c i key tag : Nat) : Bool :=
  let h := entryHead s c i
  let care := entryBits s c i CatRow.care
  h.valid && h.tag == tag && (entryBits s c i CatRow.value &&& care) == (key % 2 ^ (144 * chainWidth s c) &&& care)

/-- The entries of a chain whose first row is listed. -/
def listedEntries (s : State) (c : Nat) : List Nat :=
  s.cat.rows.filterMap fun e =>
    let b := e.1 / 4096
    if chainHas s c b && (b - chainFirst s c) % chainWidth s c == 0
    then some ((b - chainFirst s c) / chainWidth s c * 4096 + e.1 % 4096) else none

/-- The least of a list of numbers. -/
def least (xs : List Nat) : Nat := xs.foldl min (xs.headD 0)

/-- A chain is degraded: an entry of it carries a parity mark, which disabling the chain does not clear (R483, R484). -/
def chainDegraded (s : State) (c : Nat) : Bool :=
  s.cat.rows.any fun e => e.2.mark && chainHas s c (e.1 / 4096)

/-- A RESULT word (R474). -/
def resultWord (hit multi : Bool) (status : Nat) (degraded : Bool) (index : Nat) : Word :=
  word (flag hit * 2 ^ 31 + flag multi * 2 ^ 30 + status * 2 ^ 27 + flag degraded * 2 ^ 26 + index)

/-- A search of an enabled chain (R471). -/
def chainSearch (s : State) (c key tag : Nat) : Word :=
  let hits := (listedEntries s c).filter fun i => entryMatches s c i key tag
  resultWord (hits != []) (decide (hits.length ≥ 2)) 0 (chainDegraded s c) (least hits)

/-- While an invalidate-tag runs, a search first sees a free number of rows done, never fewer than before (R481). -/
def tagProgress (s : State) : State :=
  match s.cat.running with
  | some (6, c, tag) =>
    let (n, s) := draw s
    let p := max s.cat.progress (n % 4097)
    setCat (fun x => { x with
      progress := p,
      rows := Tab.mapVals x.rows (fun k r => if chainHas s c (k / 4096) && r.tag == tag && decide (k % 4096 < p)
        then { r with valid := false } else r) }) s
  | some _ => s
  | none => s

/-- A search from a port: the SEARCH word, the key and the domain of the searching context, `none` for a keeper context (R473 to R476). -/
def portSearch (g : Nat) (w : Word) (key : Nat) (dom : Option Nat) (s : State) : Word × State :=
  let c := bits w 19 16
  let s := tagProgress s
  let refuse (st : Nat) := (resultWord false false st false 0, capture 200 0x20 (pageAddr 203 (0x40 + 4 * g)) (bumpReg 203 (0x40 + 4 * g) 1 s))
  if bits w 31 20 ≠ 0 then refuse 3
  else if !chainEnabled s c then refuse 1
  else if chainOwner s c ≠ 0xFF ∧ dom.isSome ∧ dom ≠ some (chainOwner s c) then refuse 2
  else
    let r := chainSearch s c key (bits w 15 0)
    (r, onlyIf (bit r 31) (bumpReg 203 (0x80 + 4 * g) 1) (bumpReg 203 (0x40 + 4 * g) 1 s))

/-! ## Keeper commands -/

/-- A staged value or care word string (R488). -/
def staged (s : State) (base : Nat) : Nat := (upTo 18).foldr (fun k acc => (getReg s 202 (base + 4 * k)).toNat + 2 ^ 32 * acc) 0

/-- Puts a value into the staging registers. -/
def putStaged (base v : Nat) (s : State) : State := doAll (fun k s => putReg 202 (base + 4 * k) (word (v / 2 ^ (32 * k))) s) (upTo 18) s

/-- Ends a command with a result (R478, R479, R489). -/
def catEnd (result : Nat) (s : State) : State :=
  let s := putReg 200 0x50 (word result) (setCat (fun x => { x with running := none }) s)
  if result = 0 then raiseIrq 200 0x200 s else capture 200 0x23 (pageAddr 200 0x44) (raiseIrq 200 0x400 s)

/-- A row fails parity: its entry is invalidated and marked in an enabled chain, else the row alone (R483). -/
def parityFail (bank row : Nat) (s : State) : State :=
  let s := match (upTo 16).find? fun c => chainEnabled s c && chainHas s c bank with
    | some c =>
      let i := (bank - chainFirst s c) / chainWidth s c * 4096 + row
      setEntry c i (fun _ r => { r with valid := false, mark := true }) s
    | none => setCat (fun x => { x with rows := Tab.update x.rows (bank * 4096 + row) {} (fun r => { r with valid := false }) }) s
  let s := bumpReg 200 0x5C 1 (raiseIrq 200 0x100 s)
  setHdr 200 (fun h =>
    let h := { h with errCount := satAdd 0xFFFF h.errCount 1, irqStat := h.irqStat ||| 1 }
    if h.errCode = 0 then { h with errCode := 0x21, errAddr := bank * 4096 + row } else h) s

/-- Write (op 1): the staged entry at CAT_IDX. -/
def catWriteOp (c i : Nat) (s : State) : State :=
  let v := staged s 0x40
  let m := staged s 0xC0
  let w := getReg s 202 0x140
  setEntry c i (fun j _ => { value := BitVec.ofNat 144 (v / 2 ^ (144 * j)), care := BitVec.ofNat 144 (m / 2 ^ (144 * j)),
                             valid := bit w 31, tag := bits w 15 0 }) s

/-- Move (op 3): the whole entry appears at the destination, then the source is invalidated (R480). -/
def catMoveOp (c i j : Nat) (s : State) : State :=
  let src := (entryBanks s c i).map fun b => catRow s b (i % 4096)
  setEntry c i (fun _ r => { r with valid := false }) (setEntry c j (fun n _ => { (src.getD n {}) with mark := false }) s)

/-- Read (op 4): the entry into the staging registers; rows whose parity fails are handled by R483 and read as free bits. -/
def catReadOp (c i : Nat) (failing : List Nat) (s : State) : State :=
  let h := entryHead s c i
  let bad := (entryBanks s c i).filter fun b => failing.contains b
  let (v, m, s) := if bad = [] then (entryBits s c i CatRow.value, entryBits s c i CatRow.care, s)
    else
      let (a, s) := draw s
      let (b, s) := draw s
      (a, b, s)
  let s := putStaged 0x40 (v % 2 ^ (144 * chainWidth s c)) (putStaged 0xC0 (m % 2 ^ (144 * chainWidth s c)) s)
  let s := putReg 202 0x140 (word (flag h.valid * 2 ^ 31 + h.tag)) s
  doAll (fun b s => parityFail b (i % 4096) s) bad s

/-- A command of CAT_CMD on a chain (R478, R479). -/
def catCommand (op c : Nat) (failing : List Nat) (s : State) : State :=
  if s.cat.running.isSome then capture 200 0x23 (pageAddr 200 0x44) s
  else
    let s := putReg 200 0x44 (word (op * 2 ^ 24 + c * 2 ^ 16)) s
    let i := regField s 200 0x48 16 0
    let j := regField s 200 0x4C 16 0
    if op = 0 ∨ op ≥ 7 then catEnd 5 s
    else if !chainEnabled s c then catEnd 1 s
    else if op = 5 then
      catEnd 0 (putReg 200 0x54 (chainSearch s c (staged s 0x40) (regField s 202 0x140 15 0)) s)
    else if op = 6 then setCat (fun x => { x with running := some (6, c, regField s 202 0x140 15 0), progress := 0 }) s
    else if i ≥ chainEntries s c ∨ (op = 3 ∧ j ≥ chainEntries s c) then catEnd 2 s
    else if op = 1 then catEnd 0 (catWriteOp c i s)
    else if op = 2 then catEnd 0 (setEntry c i (fun _ r => { r with valid := false, mark := false }) s)
    else if op = 4 then catEnd 0 (catReadOp c i failing s)
    else if (entryHead s c j).valid then catEnd 3 s
    else if !(entryHead s c i).valid then catEnd 4 s
    else catEnd 0 (catMoveOp c i j s)

/-- The end of an invalidate-tag: no entry of the chain keeps the tag (R481). -/
def catTagEnd (s : State) : State :=
  match s.cat.running with
  | some (6, c, tag) =>
    catEnd 0 (setCat (fun x => { x with
      progress := 0,
      rows := Tab.mapVals x.rows (fun k r => if chainHas s c (k / 4096) && r.tag == tag then { r with valid := false } else r) }) s)
  | some _ => s
  | none => s

/-- Two chains share a bank. -/
def banksOverlap (a1 n1 a2 n2 : Nat) : Bool := decide (a1 < a2 + n2) && decide (a2 < a1 + n1)

/-- A write of CAT_CHAIN_c (R468, R469). -/
def catChainWrite (c : Nat) (v : Word) (s : State) : State :=
  let off := 0x40 + 4 * c
  let keep := v &&& 0x80FF7FDF
  let w := bits v 14 12
  let d := bits v 11 6
  let f := bits v 4 0
  if chainEnabled s c then
    if bit v 31 then capture 201 0x22 (pageAddr 201 off) s else putReg 201 off (putBit (chainReg s c) 31 false) s
  else if !bit v 31 then putReg 201 off keep s
  else if w = 0 ∨ w > 4 ∨ d = 0 ∨ d > 32 ∨ f + w * d > (variant s).banks
      ∨ (upTo 16).any (fun k => k != c && chainEnabled s k && banksOverlap f (w * d) (chainFirst s k) (chainWidth s k * chainDepth s k)) then
    capture 201 0x22 (pageAddr 201 off) s
  else putReg 201 off keep s

/-- The scrub reads the next row of every bank; `failing` names the banks whose row fails parity (R482, R483). -/
def catScrub (failing : List Nat) (s : State) : State :=
  if regField s 200 0x58 15 0 = 0 ∨ islandRefuses s .catalogue then s
  else
    let row := s.cat.scrubRow
    let s := doAll (fun b s => parityFail b row s) ((upTo (variant s).banks).filter fun b => failing.contains b) s
    setCat (fun x => { x with scrubRow := (row + 1) % 4096 }) s

/-- CAT_STAT (R488). -/
def catStat (s : State) : Word :=
  (upTo 16).foldl (fun w c => putBit w (16 + c) (chainDegraded s c)) (word (variant s).banks)

/-- Re-initialisation: every entry, mark and chain is lost (R486). -/
def catLose (s : State) : State := setCat (fun _ => {}) s

end Sys2Proof.Machine
end

