-- ==== Sys2Proof/Machine/MapOps.lean ====
section
/-! DEFINITION. The Curator's map and the media's addressing: Physical Slot Addresses, map entries, namespaces and GMUs, out-of-band metadata, the XTS data unit, geometry and capacity (chapters 05, 06). -/

namespace Sys2Proof.Machine

/-- Changes the flash side, the Curator. -/
def setFlash (f : Flash → Flash) (s : State) : State := { s with flash := f s.flash }
def setCur (f : Curator → Curator) (s : State) : State := { s with cur := f s.cur }

/-! ## Physical Slot Addresses (R205) -/

/-- The fields of a PSA. -/
def psaWing (p : Nat) : Nat := nbits p 47 45
def psaChan (p : Nat) : Nat := nbits p 44 41
def psaDie (p : Nat) : Nat := nbits p 40 37
def psaPlane (p : Nat) : Nat := nbits p 36 35
def psaBlock (p : Nat) : Nat := nbits p 34 21
def psaPage (p : Nat) : Nat := nbits p 20 7
def psaSlot (p : Nat) : Nat := nbits p 3 0

/-- A PSA from its fields. -/
def mkPsa (wing chan die plane block page slot : Nat) : Nat :=
  wing * 2 ^ 45 + chan * 2 ^ 41 + die * 2 ^ 37 + plane * 2 ^ 35 + block * 2 ^ 21 + page * 2 ^ 7 + slot

/-- The channel number a PSA names, 0 to 95. -/
def psaChannel (p : Nat) : Nat := 12 * psaWing p + psaChan p

/-- The block and the page of a PSA, with the lower fields 0; and their table keys. -/
def blockOf (p : Nat) : Nat := p / 2 ^ 21 * 2 ^ 21
def pageOf (p : Nat) : Nat := p / 2 ^ 7 * 2 ^ 7
def blockKey (p : Nat) : Nat := p / 2 ^ 21
def pageKey (p : Nat) : Nat := p / 2 ^ 7

/-- Page `n` of a block. -/
def pageIn (block n : Nat) : Nat := block + n * 2 ^ 7

/-! ## Channels, dies and geometry -/

/-- A channel; changing it. -/
def chan (s : State) (ch : Nat) : Channel := Tab.getD s.flash.chans ch {}
def setChan (ch : Nat) (f : Channel → Channel) (s : State) : State :=
  setFlash (fun x => { x with chans := Tab.update x.chans ch {} f }) s

/-- The page of a channel, and the channels of a wing. -/
def fchPage (ch : Nat) : Nat := 64 + ch
def chansOf (w : Nat) : List Nat := (upTo 12).map fun c => 12 * w + c

/-- A die position of a channel. -/
def die (s : State) (ch d : Nat) : Die := Tab.getD (chan s ch).dies d {}
def setDie (ch d : Nat) (f : Die → Die) (s : State) : State :=
  setChan ch (fun c => { c with dies := Tab.update c.dies d {} f }) s

/-- A die is present (R207), fenced, live. -/
def dieFenced (s : State) (ch d : Nat) : Bool := (chan s ch).fenced.contains d
def diePresent (s : State) (ch d : Nat) : Bool := (die s ch d).admitted || dieFenced s ch d
def liveDiesOf (s : State) (ch : Nat) : List Nat := (upTo 16).filter fun d => diePresent s ch d && !dieFenced s ch d
def wingLiveDies (s : State) (w : Nat) : Nat := ((chansOf w).map fun ch => (liveDiesOf s ch).length).foldl (· + ·) 0

/-- The die of a PSA is fenced. -/
def psaFenced (s : State) (p : Nat) : Bool := dieFenced s (psaChannel p) (psaDie p)

/-- A quantity of the reference geometry (R186); 0 before there is one. -/
def geo (s : State) (f : ParamPage → Nat) : Nat := (s.flash.geometry.map f).getD 0

/-- Blocks of one die; bytes of one die. -/
def dieBlocks (s : State) : Nat := geo s (·.planes) * geo s (·.blocksPerPlane)
def dieBytes (s : State) : Nat := dieBlocks s * geo s (·.pagesPerBlock) * 16384

/-- Wings the variant has. -/
def wingsOf (s : State) : List Nat := upTo (variant s).wings

/-- Live dies of the device. -/
def liveDies (s : State) : Nat := ((wingsOf s).map (wingLiveDies s)).foldl (· + ·) 0

/-- User capacity U in bytes (R232). -/
def userCapacity (s : State) : Nat := liveDies s * dieBytes s * 89 / 100

/-! ## Map entries (R224 to R227) -/

/-- CRC-8 with x⁸ + x² + x + 1 and initial value 0. -/
def crc8 (bs : List Byte) : Nat :=
  bs.foldl (fun c b => (upTo 8).foldl (fun c _ => if c ≥ 128 then (c * 2 % 256) ^^^ 0x07 else c * 2) (c ^^^ b.toNat)) 0

/-- The CRC that a map entry should carry (R227). -/
def entryCrc (e : Nat) : Nat := crc8 ((leBytes 8 e).take 6 ++ (leBytes 8 e).drop 7)

/-- The fields of a map entry. -/
def entryRaw (e : Nat) : Bool := nbits e 63 63 == 1
def entryLast (e : Nat) : Nat := nbits e 62 59
def entryState (e : Nat) : Nat := nbits e 58 56
def entryPsa (e : Nat) : Nat := nbits e 47 0

/-- An entry with its CRC. -/
def mkEntry (raw : Bool) (last state psa : Nat) : Nat :=
  let e := flag raw * 2 ^ 63 + last * 2 ^ 59 + state * 2 ^ 56 + psa % 2 ^ 48
  e + entryCrc e * 2 ^ 48

/-- The entry of a deallocated MU. -/
def deallocated : Nat := mkEntry false 0 2 0

/-- Stands for a map entry that no lookup takes: its state is reserved, which counts as a wrong CRC (R226, R228). -/
def wrongEntry : Nat := mkEntry false 0 4 0

/-- The CRC and the state are right (R226, R227). -/
def entryOk (e : Nat) : Bool := nbits e 55 48 == entryCrc e && decide (entryState e < 4)

/-- The map entry of a GMU, at its place in DRAM (R224, R229). -/
def mapEntry (s : State) (gmu : Nat) : Nat := readLe s (8 * gmu) 8
def setEntryRaw (gmu e : Nat) (s : State) : State := writeMem (8 * gmu) (leBytes 8 e) s

/-- A lookup finds the entry wrong: its CRC or state, or its burst is poisoned (R226, R227, R512). -/
def entryWrong (s : State) (gmu : Nat) : Bool :=
  let c := drc s (dramChannelOf s (8 * gmu))
  !entryOk (mapEntry s gmu) || c.poisoned.contains (dramLocal s (8 * gmu) / 64)

/-- A changed entry: a write or a deallocation ends what was known of a lost MU (R228, R255). -/
def setMapEntry (gmu e : Nat) (s : State) : State :=
  setCur (fun c => { c with lostMus := c.lostMus.filter (· != gmu), badMus := c.badMus.filter (· != gmu) }) (setEntryRaw gmu e s)

/-! ## Namespaces -/

/-- A namespace. -/
def nsOf (s : State) (nsid : Nat) : Option Namespace := Tab.get? s.adm.namespaces nsid

/-- Bytes of a logical block; logical blocks of an MU; MUs of a namespace. -/
def blockSize (n : Namespace) : Nat := if n.lbaf = 1 then 512 else 4096
def blocksPerMu (n : Namespace) : Nat := 16384 / blockSize n
def muCount (n : Namespace) : Nat := ceilDiv (nsBytes n) 16384

/-- The GMU of an MU (R224). -/
def gmuOf (n : Namespace) (mu : Nat) : Nat := n.segs.getD (mu / 8192) 0 * 8192 + mu % 8192

/-- The namespace and MU of a GMU. -/
def muOfGmu (s : State) (gmu : Nat) : Option (Nat × Nat) :=
  (s.adm.namespaces.filterMap fun e =>
    match e.2.segs.idxOf? (gmu / 8192) with
    | none => none
    | some i => some (e.1, i * 8192 + gmu % 8192)).head?

/-- Bytes of the map region: the namespaces' segments (R229). -/
def mapSegments (s : State) : Nat := (s.adm.namespaces.map fun e => e.2.segs.foldl (fun m x => max m (x + 1)) 0).foldl max 0

/-- Every GMU whose map entry is not 0, rising. -/
def listedGmus (s : State) : List Nat :=
  ((s.mem.takeWhile fun c => decide (c.1 < mapSegments s * 65536)).map fun c => c.1 / 8).foldr
    (fun g acc => match acc with
      | [] => [g]
      | h :: t => if h = g then h :: t else g :: h :: t) []

/-- The mapped GMUs whose entry passes a test of its PSA. -/
def gmusOn (s : State) (p : Nat → Bool) : List Nat :=
  (listedGmus s).filter fun g => entryState (mapEntry s g) == 1 && p (entryPsa (mapEntry s g))

/-- Slots of an entry. -/
def entrySlots (e : Nat) : Nat := entryLast e + 1

/-- What a namespace reserves of U (R233). -/
def nsReserve (compress sustained : Bool) (bytes : Nat) : Nat :=
  if compress then 0 else if sustained then ceilDiv (bytes * 12) 11 else bytes

/-- Reservations of all NVM namespaces. -/
def reservations (s : State) : Nat :=
  (s.adm.namespaces.map fun e => if e.2.csi = 0 then nsReserve e.2.compress e.2.sustained (nsBytes e.2) else 0).foldl (· + ·) 0

/-- Bytes of all NVM namespaces; bytes of all subsystem local memory. -/
def nvmBytes (s : State) : Nat := (s.adm.namespaces.map fun e => if e.2.csi = 0 then nsBytes e.2 else 0).foldl (· + ·) 0

/-- Media used by compressed namespaces in bytes: stored sizes, or 16 KiB for an MU not yet stored (R234). -/
def compressedUsed (s : State) : Nat := (s.cur.compressedSlots.map fun e => e.2 * 1024).foldl (· + ·) 0

/-! ## Out-of-band metadata (R244, R245) and the XTS data unit (R243) -/

/-- An MU as it is placed on a page: first slot, slots, namespace, MU, raw, generation and write sequence. -/
structure Placed where
  first : Nat
  slots : Nat
  nsid : Nat
  mu : Nat
  raw : Bool
  gen : Nat
  seq : Nat
deriving DecidableEq, Repr

/-- 32 bytes of metadata with their CRC. -/
def oobBytes (nsid mu b9 gen kind seq : Nat) : List Byte :=
  let head := leBytes 4 nsid ++ leBytes 5 mu ++ leBytes 1 b9 ++ leBytes 1 gen ++ leBytes 1 kind ++ leBytes 8 seq ++ zeros 8
  head ++ leBytes 4 (crc32c head)

/-- Metadata of codeword `c` of a page of MUs. -/
def oobOf (ps : List Placed) (c : Nat) : List Byte :=
  match ps.find? fun p => p.first / 4 == c with
  | some p => oobBytes p.nsid p.mu (128 + flag p.raw * 64 + (p.slots - 1) * 4 + p.first % 4) p.gen 0 p.seq
  | none =>
    match ps.find? fun p => decide (p.first < 4 * c) && decide (4 * c < p.first + p.slots) with
    | some p => oobBytes p.nsid p.mu (flag p.raw * 64 + (4 * c - p.first) * 4) p.gen 0 p.seq
    | none => oobBytes 0 0 0 0 0 0

/-- The out-of-band area of a page. -/
def oobArea (ps : List Placed) : List Byte := (upTo 4).flatMap (oobOf ps)

/-- Fields of a codeword's metadata. -/
def oobNsid (o : List Byte) : Nat := leAt o 0 4
def oobMu (o : List Byte) : Nat := leAt o 4 5
def oobStart (o : List Byte) : Bool := leAt o 9 1 ≥ 128
def oobRaw (o : List Byte) : Bool := leAt o 9 1 / 64 % 2 == 1
def oobMid (o : List Byte) : Nat := leAt o 9 1 / 4 % 16
def oobFirst (o : List Byte) : Nat := leAt o 9 1 % 4
def oobGen (o : List Byte) : Nat := leAt o 10 1
def oobKind (o : List Byte) : Nat := leAt o 11 1
def oobSeq (o : List Byte) : Nat := leAt o 12 8
def oobOk (o : List Byte) : Bool := leAt o 28 4 == crc32c (o.take 28)

/-- The MU that covers each of the 16 slots of a page, and the slot's offset in it; none: padding. -/
def slotOwners (oobs : List (List Byte)) : List (Option (Nat × Nat × Nat)) :=
  let step (acc : List (Option (Nat × Nat × Nat))) (c : Nat) : List (Option (Nat × Nat × Nat)) :=
    let o := oobs.getD c []
    let prev : Option (Nat × Nat × Nat) := acc.getLast?.join
    let follow (k : Nat) : Option (Nat × Nat × Nat) := prev.map fun p => (p.1, p.2.1, p.2.2 + k + 1)
    acc ++ (upTo 4).map fun k =>
      if oobNsid o = 0 then none
      else if oobStart o then
        (if k < oobFirst o then follow k
         else if k - oobFirst o ≤ oobMid o then some (oobNsid o, oobMu o, k - oobFirst o) else none)
      else some (oobNsid o, oobMu o, oobMid o + k)
  (upTo 4).foldl step []

/-- The XTS tweak of an MU (R243). -/
def muTweak (nsid mu : Nat) : Nat := mu % 2 ^ 40 + nsid % 2 ^ 32 * 2 ^ 64

/-- The XTS transform of slot `off` of an MU: j counts 16-byte blocks from the MU's first byte (R243). -/
def xtsSlot (enc : Bool) (key : List Byte) (nsid mu off : Nat) (data : List Byte) : List Byte :=
  let t0 := ofLe (aesEncrypt (key.drop 32) (leBytes 16 (muTweak nsid mu)))
  let t := (upTo (64 * off)).foldl (fun t _ => xtsDouble t) t0
  xtsBlocks ((if enc then aesEncrypt else aesDecrypt) (key.take 32)) t (chunks 16 data)

/-- A page's data through the XTS engine; slots that no MU covers pass unchanged. -/
def xtsPage (enc : Bool) (key : List Byte) (oobs : List (List Byte)) (data : List Byte) : List Byte :=
  let owners := slotOwners oobs
  (upTo 16).flatMap fun k =>
    let d := sliceBytes data (1024 * k) 1024
    match (owners.getD k none) with
    | none => d
    | some (nsid, mu, off) => xtsSlot enc key nsid mu off d

/-- A programmed page of media. -/
def mediaAt (s : State) (p : Nat) : Option MediaPage := Tab.get? s.flash.media (pageKey p)

end Sys2Proof.Machine
end

