-- ==== Sys2Proof/Machine/FlashOps.lean ====
section
/-! DEFINITION. Channel operations: checks, buffer slots, scheduling, what a die gives, suspend and power failure (chapter 05). -/

namespace Sys2Proof.Machine

/-! ## Descriptors (R188, R189) -/

/-- Flags of a descriptor. -/
def ChanDesc.slc (d : ChanDesc) : Bool := d.flags % 2 == 1
def ChanDesc.allPlanes (d : ChanDesc) : Bool := d.flags / 2 % 2 == 1
def ChanDesc.xts (d : ChanDesc) : Bool := d.flags / 4 % 2 == 1
def ChanDesc.hardOnly (d : ChanDesc) : Bool := d.flags / 8 % 2 == 1
def ChanDesc.keySlot (d : ChanDesc) : Nat := d.keyWord % 1024
def ChanDesc.dieNo (d : ChanDesc) : Nat := psaDie d.psa

/-- The descriptor is invalid (R189). -/
def ChanDesc.invalid (d : ChanDesc) : Bool :=
  d.op == 0 || decide (d.op > 5) || decide (d.cls > 4) || decide (d.flags ≥ 16) || decide (d.keyWord ≥ 1024)

/-- The PSA names a fenced die of the channel (R206, R207). It is tested before the fields that lie within a die, which have no valid values while
there is no reference geometry (log 149). -/
def namesFenced (s : State) (ch : Nat) (p : Nat) : Bool :=
  psaChannel p == ch && decide (psaChan p ≤ 11) && decide (p < 2 ^ 48) && dieFenced s ch (psaDie p)

/-- The PSA names something outside its valid values (R205, R189). -/
def psaInvalid (s : State) (ch : Nat) (d : ChanDesc) : Bool :=
  let p := d.psa
  psaChannel p != ch || decide (psaChan p > 11) || decide (p ≥ 2 ^ 48) || nbits p 6 4 != 0 || !diePresent s ch (psaDie p)
    || (if d.op = 5 then p % 2 ^ 37 != 0
        else decide (psaPlane p ≥ geo s (·.planes)) || decide (psaBlock p ≥ geo s (·.blocksPerPlane)) || decide (psaPage p ≥ geo s (·.pagesPerBlock)))

/-- The planes an operation works on. -/
def opPlanes (s : State) (d : ChanDesc) : List Nat := if d.allPlanes then upTo (geo s (·.planes)) else [psaPlane d.psa]

/-- The page of a PSA in another plane. -/
def inPlane (p plane : Nat) : Nat := pageOf (mkPsa (psaWing p) (psaChan p) (psaDie p) plane (psaBlock p) (psaPage p) 0)

/-- Codewords that a read touches. -/
def readCodewords (d : ChanDesc) : List Nat :=
  (upTo 4).filter fun c => decide (psaSlot d.psa / 4 ≤ c) && decide (c ≤ (psaSlot d.psa + d.count - 1) / 4)

/-! ## Buffer slots (R192, R193) -/

/-- Buffer slots an operation needs: a read of all planes takes its codewords in each of them (R188, R192). -/
def opSlots (s : State) (d : ChanDesc) : Nat :=
  if d.op = 1 then (readCodewords d).length * (opPlanes s d).length else if d.op = 3 then 4 * (opPlanes s d).length else 0

/-- Slots in use by a class. -/
def slotsOf (c : Channel) (p : Nat → Bool) : Nat :=
  ((c.queue.filter fun o => p o.desc.cls).map (·.slots)).foldl (· + ·) 0 + ((c.done.filter fun o => p o.desc.cls).map (·.slots)).foldl (· + ·) 0

/-- FCH_BUF_INUSE: slots in use. -/
def slotsInUse (c : Channel) : Nat := slotsOf c fun _ => true

/-- Whether `n` more slots of a class are there: 16 reserved for class 0, 16 for class 2, 24 shared (R192). -/
def slotsFit (c : Channel) (cls n : Nat) : Bool :=
  let u0 := slotsOf c (· == 0) + (if cls = 0 then n else 0)
  let u2 := slotsOf c (· == 2) + (if cls = 2 then n else 0)
  let ux := slotsOf c (fun k => k != 0 && k != 2) + (if cls = 0 ∨ cls = 2 then 0 else n)
  decide ((u0 - 16) + (u2 - 16) + ux ≤ 24)

/-! ## Ends of operations (R191) -/

/-- Writes the completion record of an operation. -/
def recordDone (ch : Nat) (o : ChanOp) (status level result : Nat) (data : List Byte) (slots : Nat) (s : State) : State :=
  setChan ch (fun c => { c with
    done := c.done ++ [{ tag := o.desc.tag, status := status, level := level, result := result, tsc := s.tsc % 2 ^ 32, origin := o.origin,
                         desc := o.desc, data := data, slots := slots }] }) s

/-- Ends every operation of a channel that passes, with a status and no data. -/
def endOps (ch : Nat) (p : ChanOp → Bool) (status : Nat) (s : State) : State :=
  let gone := (chan s ch).queue.filter p
  let s := setChan ch (fun c => { c with queue := c.queue.filter fun o => !p o }) s
  doAll (fun o s => recordDone ch o status 0 0 [] 0 s) gone s

/-! ## Submission (R184, R189, R192, R194, R202, R206, R617) -/

/-- The status an operation completes with at once, with what it captures; none: it is queued. -/
def submitCheck (ch : Nat) (d : ChanDesc) (s : State) : Option Nat × State :=
  let page := fchPage ch
  if d.invalid then (some 0x18, capture page 0x29 (pageAddr page 0) s)
  else if d.op = 1 ∧ d.count = 0 then (some 0x00, s)
  else if namesFenced s ch d.psa then (some 0x14, s)
  else if psaInvalid s ch d then (some 0x16, capture page 0x23 d.psa s)
  else if (chan s ch).state = 0 ∨ (chan s ch).state = 5 then (some 0x16, s)
  else if d.op = 1 ∧ psaSlot d.psa + d.count > 16 then (some 0x16, s)
  else if d.xts && !(variant s).crypto then (some 0x17, capture page 5 (pageAddr page 0) s)
  else (none, s)

/-- A class 0 read that reaches a die busy with a program or an erase suspends it where R202 allows. -/
def suspendFor (ch d : Nat) (s : State) : State :=
  let cfg := getReg s (fchPage ch) 0x5C
  let can (o : ChanOp) : Bool :=
    o.started && !o.suspended && o.desc.dieNo == d && o.outcome.isNone && o.resetAt.isNone
      && ((o.desc.op == 3 && decide (o.suspends < bits cfg 3 0)) || (o.desc.op == 4 && decide (o.suspends < bits cfg 7 4)))
      && decide (o.since + bits cfg 31 16 * 1000 ≤ s.tsc)
  if ((die s ch d).page.map (·.suspend)) = some true then
    setChan ch (fun c => { c with queue := updFirst can (fun o => { o with suspended := true, suspends := o.suspends + 1 }) c.queue }) s
  else s

/-- An operation enters a channel, or completes at once. Operations that a host command, a stream or the Curator sent are held while the channel
has lost its training to a re-initialisation of its wing; they go when it runs again (R617, log 30). -/
def submitOp (ch : Nat) (o : ChanOp) (s : State) : State :=
  if (chan s ch).lost && o.origin != .keeper then setFlash (fun f => { f with aborted := f.aborted ++ [(ch, o)] }) s else
  let (st, s) := submitCheck ch o.desc s
  match st with
  | some st => recordDone ch o st 0 0 [] 0 s
  | none =>
    let s := setChan ch (fun c => { c with queue := c.queue ++ [o] }) s
    if o.desc.op = 1 ∧ o.desc.cls = 0 then suspendFor ch o.desc.dieNo s else s

/-! ## Starting (R190, R203, R534, R535) -/

/-- The operation may start now: its die is free for it, no earlier one of its class waits for the die, and slots are there. -/
def canStart (s : State) (ch : Nat) (earlier : List ChanOp) (o : ChanOp) : Bool :=
  let c := chan s ch
  let d := o.desc.dieNo
  let busy := c.queue.any fun x => x.started && x.desc.op != 5 && x.desc.dieNo == d && !x.suspended
  let held := c.queue.any fun x => x.suspended && x.desc.dieNo == d
  !o.started && (s.pwr.pfailN || o.dump)
    && !(earlier.any fun x => !x.started && x.desc.cls == o.desc.cls && x.desc.dieNo == d)
    && (o.desc.op == 5 || (!busy && (!held || (o.desc.op == 1 && o.desc.cls == 0))))
    && slotsFit c o.desc.cls (opSlots s o.desc)

/-- The operations that could start, in the order of arrival. -/
def startable (s : State) (ch : Nat) : List ChanOp :=
  let q := (chan s ch).queue
  ((upTo q.length).filterMap fun i =>
    match q[i]? with
    | none => none
    | some o => if canStart s ch (q.take i) o then some o else none)

/-- Starts the next operation of a channel: the lowest class first (R190). -/
def startNext (ch : Nat) (s : State) : State :=
  let c := chan s ch
  let h := hdr s (fchPage ch)
  if c.state ≠ 3 ∨ islandRefuses s (.wing (ch / 12)) ∨ (hdr s (32 + ch / 12)).quiesceReq ∨ h.quiesceReq ∨ h.quiesced ∨ !h.enable
      ∨ (isl s (.wing (ch / 12))).power ≠ 2 then s
  else
    match minBy (fun o => o.desc.cls) (startable s ch) with
    | none => s
    | some o =>
      let key := (Tab.get? s.sec.slots o.desc.keySlot).map (·.key)
      if o.desc.xts && key.isNone then
        let s := setChan ch (fun c => { c with queue := dropFirst (· == o) c.queue }) s
        recordDone ch o 0x17 0 0 [] 0 (capture 250 0x22 (pageAddr 250 0) s)
      else
        setChan ch (fun c => { c with queue := updFirst (· == o) (fun o => { o with
          started := true, since := s.tsc, slots := opSlots s o.desc, key := if o.desc.xts then key.getD [] else [] }) c.queue }) s

/-! ## What a die gives (R194 to R201) -/

/-- The operation of a kind that runs on a die and has no outcome yet. -/
def Running (ch d : Nat) (ops : List Nat) (o : ChanOp) : Bool :=
  o.started && !o.suspended && o.desc.dieNo == d && ops.contains o.desc.op && o.outcome.isNone && o.resetAt.isNone && decide (ch < 96)

/-- Gives the running operation its outcome. -/
def giveOutcome (ch d : Nat) (ops : List Nat) (x : Nat × Nat × Nat × List Byte) (s : State) : State :=
  setChan ch (fun c => { c with queue := updFirst (Running ch d ops) (fun o => { o with outcome := some x }) c.queue }) s

/-- The step at which a codeword decodes, under the limits of the operation and of the die's retry levels (R195, R196). -/
def decodeLevel (s : State) (ch d : Nat) (hardOnly : Bool) (x : Decode) : Option Nat :=
  match x.level with
  | none => none
  | some 0 => some 0
  | some l =>
    if hardOnly then none
    else if l ≤ 3 then some l
    else if 0x10 < l ∧ l ≤ 0x10 + min 16 (((die s ch d).page.map (·.retryLevels)).getD 0) then some l else none

/-- The data of a page, decrypted where asked. A page that nothing programmed, or that was programmed in the other mode (R188, flags[0]), has free
contents. -/
def pageData (o : ChanOp) (psa : Nat) (s : State) : List Byte × State :=
  match mediaAt s psa with
  | some m => if m.slc != o.desc.slc then drawBytes s 16384 else (if o.desc.xts then xtsPage false o.key m.oob m.data else m.data, s)
  | none => drawBytes s 16384

/-- The slots that a read takes from each plane it works on, plane by plane (R188, log 149). -/
def planesData (o : ChanOp) (planes : List Nat) (s : State) : List Byte × State :=
  planes.foldl (fun (acc : List Byte × State) plane =>
    let (data, s) := pageData o (inPlane o.desc.psa plane) acc.2
    (acc.1 ++ sliceBytes data (1024 * psaSlot o.desc.psa) (1024 * o.desc.count), s)) ([], s)

/-- A foreground read: one of class 0, for a host command or a stream (R188, R299). -/
def OpOrigin.foreground : OpOrigin → Bool
  | .hostRead _ _ => true
  | .stream _ _ _ => true
  | .fill _ => false
  | .rebuild _ _ => false
  | .pad _ => false
  | .relocate _ => false
  | .packer _ _ => false
  | .parity _ _ => false
  | .closeVerify _ => false
  | .erase _ => false
  | .patrol _ => false
  | .calibrate _ => false
  | .keeper => false

/-- The block group of a PSA within its die: 256 successive blocks of one plane (R198). -/
def blockGroup (psa : Nat) : Nat := psaPlane psa * 64 + psaBlock psa / 256

/-- Counts the codewords recovered and lost, and marks the block of a lost one (R208, R219). -/
def noteDecodes (ch : Nat) (o : ChanOp) (levels : List (Option Nat)) (s : State) : State :=
  let soft := (levels.filter fun l => match l with
    | some n => n != 0
    | none => false).length
  let lost := (levels.filter (·.isNone)).length
  let s := bumpReg (fchPage ch) 0x64 soft (bumpReg (fchPage ch) 0x68 lost s)
  let s := if soft = 0 || !o.origin.foreground then s else
    let k := ch * 4096 + o.desc.dieNo * 256 + blockGroup o.desc.psa
    { s with care := { s.care with softReads := Tab.update s.care.softReads k [] fun xs => (xs.filter fun t => decide (s.tsc < t + 3600 * 10 ^ 9)) ++ [s.tsc] } }
  if lost = 0 then s
  else
    let s := setDie ch o.desc.dieNo (fun d => { d with uncorrectable := d.uncorrectable ++ [(blockKey o.desc.psa, s.tsc)] }) s
    let recent := ((die s ch o.desc.dieNo).uncorrectable.filter fun e => decide (s.tsc ≤ e.2 + 86400 * 10 ^ 9)).map (·.1)
    onlyIf (decide (recent.eraseDups.length ≥ 8)) (raiseIrq (fchPage ch) 0x100) s

/-- A read's outcome (R191, R195, R196); the codewords come plane by plane. The level of an uncorrectable read is not stated: free. -/
def readOutcome (ch d : Nat) (codewords : List Decode) (s : State) : State :=
  match (chan s ch).queue.find? (Running ch d [1]) with
  | none => s
  | some o =>
    let n := (readCodewords o.desc).length * (opPlanes s o.desc).length
    let levels := (upTo n).map fun i => decodeLevel s ch d o.desc.hardOnly (codewords.getD i { corrected := some 0, level := some 0 })
    let s := noteDecodes ch o levels s
    if levels.any (·.isNone) then
      let (f, s) := draw s
      giveOutcome ch d [1] (0x10, f % 256, 0, []) s
    else
      let top := (levels.map fun l => l.getD 0).foldl max 0
      let st := if top = 0 then 0x00 else if top ≤ 3 then 0x01 else 0x02
      let (data, s) := planesData o (opPlanes s o.desc) s
      giveOutcome ch d [1] (st, top, 0, data) s

/-- The result byte of a codeword position: the worst of the planes (R200, R201). -/
def verifyByte (xs : List (Option Nat)) : Nat :=
  if xs.any (·.isNone) then 255 else min 254 ((xs.map fun x => x.getD 0).foldl max 0)

/-- A verify's outcome; the codewords come plane by plane. -/
def verifyOutcome (ch d : Nat) (codewords : List Decode) (s : State) : State :=
  match (chan s ch).queue.find? (Running ch d [2]) with
  | none => s
  | some o =>
    let planes := (opPlanes s o.desc).length
    let at' (p c : Nat) : Option Nat := (codewords.getD (4 * p + c) { corrected := some 0, level := some 0 }).corrected
    let bytes := (upTo 4).map fun c => verifyByte ((upTo planes).map fun p => at' p c)
    let thr := regField s (fchPage ch) 0x60 7 0
    let pass := bytes.all fun b => b != 255 && decide (b ≤ thr)
    giveOutcome ch d [2] (if pass then 0 else 0x10, 0, ofLe (bytes.map fun b => BitVec.ofNat 8 b), []) s

/-- A status fail in a block (R208, reason 2). -/
def noteStatusFail (ch d psa : Nat) (s : State) : State :=
  let s := setDie ch d (fun x => { x with statusFails := x.statusFails ++ [(blockKey psa, s.tsc)] }) s
  let recent := ((die s ch d).statusFails.filter fun e => decide (s.tsc ≤ e.2 + 86400 * 10 ^ 9)).map (·.1)
  onlyIf (decide (recent.eraseDups.length ≥ 4)) (raiseIrq (fchPage ch) 0x100) s

/-- A program's outcome: the page holds the data, encrypted where asked (R194). The array time of an SLC-mode program is kept (R271). -/
def programOutcome (ch d : Nat) (ok : Bool) (ns : Nat) (s : State) : State :=
  match (chan s ch).queue.find? (Running ch d [3]) with
  | none => s
  | some o =>
    if ok then
      let put (plane : Nat × Nat) (s : State) : State :=
        let oobs := chunks 32 (sliceBytes o.oob (128 * plane.1) 128)
        let data := sliceBytes o.data (16384 * plane.1) 16384
        let data := if o.desc.xts then xtsPage true o.key oobs data else data
        setFlash (fun f => { f with media := Tab.set f.media (pageKey (inPlane o.desc.psa plane.2)) { data := data, oob := oobs, slc := o.desc.slc } }) s
      let s := doAll put ((upTo (opPlanes s o.desc).length).zip (opPlanes s o.desc)) s
      let s := setCur (fun c => { c with bytesProgrammed := c.bytesProgrammed + 16384 * (opPlanes s o.desc).length }) s
      giveOutcome ch d [3] (0, 0, 0, []) (onlyIf o.desc.slc (setFlash fun f => { f with tProgSlc := ns }) s)
    else giveOutcome ch d [3] (0x11, 0, 0, []) (noteStatusFail ch d o.desc.psa s)

/-- An erase's outcome. The array time of a multi-plane erase is kept (R172). -/
def eraseOutcome (ch d : Nat) (ok : Bool) (ns : Nat) (s : State) : State :=
  match (chan s ch).queue.find? (Running ch d [4]) with
  | none => s
  | some o =>
    if ok then
      let keys := (opPlanes s o.desc).map fun p => blockKey (inPlane o.desc.psa p)
      let s := setFlash (fun f => { f with media := Tab.keep f.media (fun k _ => !keys.contains (k / 2 ^ 14)) }) s
      giveOutcome ch d [4] (0, 0, 0, []) (onlyIf o.desc.allPlanes (setFlash fun f => { f with tBers := ns }) s)
    else giveOutcome ch d [4] (0x12, 0, 0, []) (noteStatusFail ch d o.desc.psa s)

/-- A read status operation gets its byte and completes (R189). -/
def readStatus (ch d : Nat) (b : Byte) (s : State) : State :=
  let p (o : ChanOp) : Bool := o.started && o.desc.op == 5 && o.desc.dieNo == d
  match (chan s ch).queue.find? p with
  | none => s
  | some o => recordDone ch o 0 0 b.toNat [] 0 (setChan ch (fun c => { c with queue := dropFirst p c.queue }) s)

/-- A die ends its operation and the completion record is written (R191). -/
def endDieOp (ch d : Nat) (s : State) : State :=
  let p (o : ChanOp) : Bool := o.started && o.desc.op != 5 && o.desc.dieNo == d && o.outcome.isSome
  match (chan s ch).queue.find? p with
  | none => s
  | some o =>
    let (st, level, result, data) := o.outcome.getD (0, 0, 0, [])
    recordDone ch o st level result data (if o.desc.op = 1 then o.slots else 0)
      (setChan ch (fun c => { c with queue := dropFirst p c.queue }) s)

/-- A requester has taken a record: it goes unless buffer slots are still held (R193). -/
def takeDone (ch : Nat) (x : ChanDone) (s : State) : State :=
  setChan ch (fun c => { c with
    done := if x.slots = 0 then dropFirst (· == x) c.done else updFirst (· == x) (fun y => { y with taken := true, data := [] }) c.done }) s

/-- The data of a read has been delivered: its slots are free, and a record its requester has taken goes. -/
def releaseSlots (ch tag : Nat) (s : State) : State :=
  match (chan s ch).done.find? fun x => x.tag == tag with
  | none => s
  | some x =>
    if x.taken || x.origin == .keeper then setChan ch (fun c => { c with done := dropFirst (· == x) c.done }) s
    else setChan ch (fun c => { c with done := updFirst (· == x) (fun y => { y with slots := 0 }) c.done }) s

/-- A suspended program or erase goes on once no class 0 read of its die is left (R202). -/
def resumeOp (ch d : Nat) (s : State) : State :=
  if (chan s ch).queue.any fun o => o.desc.cls == 0 && o.desc.op == 1 && o.desc.dieNo == d then s
  else setChan ch (fun c => { c with
    queue := updFirst (fun o => o.suspended && o.desc.dieNo == d) (fun o => { o with suspended := false, since := s.tsc }) c.queue }) s

/-- Operations that the device itself ends are kept to be sent again: those of the Curator, of host commands and of streams (R277, R617). -/
def keepAborted (xs : List (Nat × ChanOp)) (s : State) : State :=
  let fresh (o : ChanOp) : ChanOp := { desc := o.desc, origin := o.origin, data := o.data, oob := o.oob }
  setFlash (fun f => { f with aborted := f.aborted ++ (xs.filter fun e => e.2.origin != .keeper && !e.2.dump).map fun e => (e.1, fresh e.2) }) s

/-- Operations kept that pass are sent again. -/
def sendAborted (p : Nat → Bool) (s : State) : State :=
  let xs := s.flash.aborted.filter fun e => p e.1
  doAll (fun e s => submitOp e.1 e.2 s) xs (setFlash (fun f => { f with aborted := f.aborted.filter fun e => !p e.1 }) s)

/-! ## Busy timeouts (R204, R208) -/

/-- A die is busy longer than FCH_TMO: RESET LUN goes to it; while PFAIL_N is low the operation ends with 0x15 instead. -/
def busyTimeout (ch d : Nat) (s : State) : State :=
  match (chan s ch).queue.find? (Running ch d [1, 2, 3, 4]) with
  | none => s
  | some o =>
    if !s.pwr.pfailN then
      let s := setChan ch (fun c => { c with queue := dropFirst (· == o) c.queue }) s
      recordDone ch o 0x15 0 0 [] 0 (keepAborted [(ch, o)] s)
    else
      let s := advanceTo (o.since + regField s (fchPage ch) 0x58 15 0 * 1000000) s
      let s := setChan ch (fun c => { c with queue := updFirst (· == o) (fun o => { o with resetAt := some s.tsc }) c.queue }) s
      capture (fchPage ch) 0x21 o.desc.psa (raiseIrq (fchPage ch) 0x100 s)

/-- Timeouts of a die within 3,600 s. -/
def recentTimeouts (s : State) (ch d : Nat) : List Nat := (die s ch d).timeouts.filter fun t => decide (s.tsc ≤ t + 3600 * 10 ^ 9)

/-- RESET LUN has cleared a busy die: the operation is tried again (R218); the third time within 3,600 s is reason 1 (R208). -/
def resetLunDone (ch d : Nat) (s : State) : Bool × State :=
  match (chan s ch).queue.find? fun o => o.resetAt.isSome && o.desc.dieNo == d with
  | none => (false, s)
  | some o =>
    let s := setDie ch d (fun x => { x with timeouts := recentTimeouts s ch d ++ [s.tsc] }) s
    if (die s ch d).timeouts.length ≥ 3 then (true, s)
    else (false, setChan ch (fun c => { c with
      queue := updFirst (· == o) (fun o => { o with resetAt := none, started := false, slots := 0, key := [] }) c.queue }) s)

/-! ## Power failure (R203, R204) -/

/-- Ends the operations that a power failure stops, keeping them to run again (R203, R277): those that wait, those under a RESET LUN, and those that
the RESET LUN of the power failure aborts. A die that has given an operation's outcome is no longer busy with it, so that operation ends by itself. -/
def chanPowerFail (ch : Nat) (s : State) : State :=
  let c := chan s ch
  let stuck (d : Nat) : Bool := c.queue.any fun o => o.suspended && o.desc.dieNo == d
  let aborted (o : ChanOp) : Bool := o.outcome.isNone && (o.desc.op == 3 || o.desc.op == 4 || (o.desc.op != 5 && stuck o.desc.dieNo))
  let stops (o : ChanOp) : Bool := !o.dump && (!o.started || o.suspended || o.resetAt.isSome || aborted o)
  endOps ch stops 0x15 (keepAborted ((c.queue.filter stops).map fun o => (ch, o)) s)

/-- The operations that ended with 0x15 run again (R277). -/
def rerunAborted (s : State) : State := sendAborted (fun _ => true) s

end Sys2Proof.Machine
end

