-- ==== Sys2Proof/Machine/CurOps.lean ====
section
/-! DEFINITION. The Curator's operations: the reserve collection, blocks and stripe sets, the write buffer and the packer, relocation, rebuild and loss (chapter 06). -/

namespace Sys2Proof.Machine

/-- The Curator pages of a wing. -/
def curPage (w : Nat) : Nat := 160 + 2 * w
def curCntPage (w : Nat) : Nat := 161 + 2 * w

/-- The map segment that a record changes: of its entry, or the one assigned to a namespace and so unmapped (R226, R281). -/
def JRec.touches : JRec → Option Nat
  | .map _ _ g _ => some (g / 8192)
  | .nsSegment _ _ m => if m < 2 ^ 40 then some m else none
  | .segment _ _ _ => none
  | .block _ _ _ _ => none
  | .dump _ _ _ => none

/-- Appends a journal record to the tail; the map segment it changes is to be copied again (R282). -/
def journal (r : JRec) (s : State) : State :=
  setCur (fun c => { c with tail := c.tail ++ [r], changed := c.changed ++ r.touches.toList.filter fun i => !c.changed.contains i }) s

/-! ## Reserve collection and read-only state (R263 to R267, R273) -/

/-- A wing's pool. -/
def pool (s : State) (w : Nat) : WingPool := Tab.getD s.cur.pools w {}
def setPool (w : Nat) (f : WingPool → WingPool) (s : State) : State := setCur (fun c => { c with pools := Tab.update c.pools w {} f }) s

/-- Free reserve of the device, emergency included; and its size at first format. -/
def freeReserve (s : State) : Nat := (s.cur.pools.map fun e => e.2.reserve + e.2.emergency).foldl (· + ·) 0
def firstReserve (s : State) : Nat := (s.cur.pools.map fun e => e.2.reserve0).foldl (· + ·) 0

/-- ro_reason (R150, R265). -/
def roReason (s : State) : Nat := if s.cur.reserveLow then 1 else if s.cur.holdup.low then 2 else 0
def readOnly (s : State) : Bool := roReason s != 0

/-- Changes a condition of R265 or R273; a change of the read-only state is reported. -/
def setRoCondition (f : Curator → Curator) (s : State) : State :=
  let s' := setCur f s
  let s' := if readOnly s != readOnly s' then raiseIrq 160 0x100 s' else s'
  if readOnly s' && !readOnly s then healthEvent 3 0x03 s' else s'

/-- Looks at the reserve condition again (R265, R267). -/
def checkReserve (s : State) : State :=
  let f := freeReserve s
  let n := firstReserve s
  if n = 0 then s
  else if f * 10 ≤ n ∧ !s.cur.reserveLow then healthEvent 0 0x00 (setRoCondition (fun c => { c with reserveLow := true }) s)
  else if f * 100 > n * 11 ∧ s.cur.reserveLow then setRoCondition (fun c => { c with reserveLow := false }) s
  else s

/-- Adds an extent to log 0xC3 (R151, R152): the event is raised once for each read of the page. -/
def addLost (nsid lba blocks : Nat) (s : State) : State :=
  let first := s.adm.lost.isEmpty
  let s := setAdm (fun a => { a with lost := a.lost ++ [{ nsid := nsid, lba := lba, blocks := blocks }] }) (raiseIrq 160 0x400 s)
  let s := if s.adm.lostEvent then s else asyncAll { type := 7, info := 0, lid := 0xC3 } (setAdm (fun a => { a with lostEvent := true }) s)
  if first then healthEvent 2 0x02 s else s

/-- An MU is lost: its entry stays, its range is reported (R254, R255). -/
def loseMu (gmu : Nat) (s : State) : State :=
  if s.cur.lostMus.contains gmu then s
  else
    match muOfGmu s gmu with
    | none => s
    | some (nsid, mu) =>
      match nsOf s nsid with
      | none => s
      | some n =>
        let b := blocksPerMu n
        addLost nsid (mu * b) (min b (n.nsze - mu * b)) (setCur (fun c => { c with lostMus := gmu :: c.lostMus }) s)

/-! ## Blocks (R250, R256, R268) -/

/-- The record of a block; a block without one is free with erase count 0. -/
def blockRec (s : State) (psa : Nat) : Block := Tab.getD s.cur.blocks (blockKey psa) {}
def setBlock (psa : Nat) (f : Block → Block) (s : State) : State := setCur (fun c => { c with blocks := Tab.update c.blocks (blockKey psa) {} f }) s

/-- The stripe set a block belongs to. -/
def setOfBlock (s : State) (psa : Nat) : Option Nat :=
  match (blockRec s psa).use with
  | .inSet n => some n
  | .free | .reserve | .emergency | .ledger _ | .journal | .dump _ | .retired | .fencedOut => none

/-- Block `i` of a die, by rising block number. -/
def dieBlockPsa (s : State) (ch d i : Nat) : Nat :=
  let p := geo s (·.planes)
  mkPsa (ch / 12) (ch % 12) d (i % p) (i / p) 0 0

/-- The listed blocks of a die. -/
def listedBlocks (s : State) (ch d : Nat) : List (Nat × Block) :=
  let base := blockKey (mkPsa (ch / 12) (ch % 12) d 0 0 0 0)
  s.cur.blocks.filter fun e => decide (base ≤ e.1) && decide (e.1 < base + 2 ^ 16)

/-- The first block of a die without a record. -/
def freshBlock (s : State) (ch d : Nat) : Option Nat :=
  let n := min (dieBlocks s) ((listedBlocks s ch d).length + 1)
  ((upTo n).map (dieBlockPsa s ch d)).find? fun p => !Tab.has s.cur.blocks (blockKey p)

/-- The free block that R256 takes from some channels: the lowest erase count, then a die with no open block of the stream, then the
lowest block number, then the lowest PSA. -/
def leastWorn (s : State) (chs : List Nat) (stream : CurStream) (allow : Nat → Nat → Bool) : Option Nat :=
  let dies := chs.flatMap fun ch => ((liveDiesOf s ch).filter (allow ch)).map fun d => (ch, d)
  let cands := dies.flatMap fun (cd : Nat × Nat) =>
    let listed := listedBlocks s cd.1 cd.2
    let openHere := flag (listed.any fun e => e.2.stream == some stream)
    let old := (listed.filter fun e => e.2.use == .free && !e.2.pinned).map fun e => (e.2.erases, openHere, e.1 * 2 ^ 21)
    match freshBlock s cd.1 cd.2 with
    | some p => (0, openHere, p) :: old
    | none => old
  (minBy (fun (c : Nat × Nat × Nat) => c.1 * 2 ^ 64 + c.2.1 * 2 ^ 63 + psaBlock c.2.2 * 2 ^ 48 + c.2.2) cands).map fun c => c.2.2

/-- Free blocks of a channel, reserve included; those of them that are reserve; those that user work may take. -/
def freeBlocks (s : State) (ch : Nat) : Nat :=
  ((liveDiesOf s ch).map fun d => dieBlocks s - ((listedBlocks s ch d).filter fun e => e.2.use != .free).length).foldl (· + ·) 0
def resBlocks (s : State) (ch : Nat) : Nat := (pool s (ch / 12)).resOn.getD (ch % 12) 0
def userFree (s : State) (ch : Nat) : Nat := freeBlocks s ch - resBlocks s ch

/-- The free block that a request on some channels takes, outside the reserve collection (R256). -/
def findFree (s : State) (chs : List Nat) (stream : CurStream) (allow : Nat → Nat → Bool) : Option Nat :=
  leastWorn s (chs.filter fun ch => decide (0 < userFree s ch)) stream allow

/-- Free stripe sets of a wing (CUR_SETS): none while the wing is serviced or has yet to be discovered again (R617). -/
def freeSets (s : State) (w : Nat) : Nat :=
  if islandRefuses s (.wing w) || (hdr s (32 + w)).quiesceReq || (chansOf w).any (fun ch => (chan s ch).lost) then 0
  else ((chansOf w).map (userFree s)).foldl min (userFree s (12 * w))

/-! ## The reserve collection (R262 to R266; log 150) -/

/-- One reserve block less on a channel of a wing. -/
def dropRes (w c : Nat) (s : State) : State := setPool w (fun p => { p with resOn := p.resOn.set c (p.resOn.getD c 0 - 1) }) s

/-- The channel of a wing with most reserve blocks. -/
def resChan (s : State) (w : Nat) : Nat := (minBy (fun c => 2 ^ 32 - (pool s w).resOn.getD c 0) (upTo 12)).getD 0

/-- A wing's emergency reserve gives a block; the last one is reported (R266). -/
def dropEmergency (w : Nat) (s : State) : State :=
  let p := pool s w
  let s := setPool w (fun p => { p with emergency := p.emergency - 1 }) s
  if p.emergency = 1 then capture (curPage w) 0x26 (pageAddr (curPage w) 0x48) (raiseIrq (curPage w) 0x800 s) else s

/-- The wing that lends to a wing (R264): the one with most free non-emergency reserve, where that exceeds the floor. -/
def lender (s : State) (w : Nat) : Option Nat :=
  let floor := regField s 160 0x84 7 0
  let first (v : Nat) : Nat := (pool s v).reserve0 - (pool s v).emergency0
  if (pool s w).borrowed ≥ first w then none
  else
    (minBy (fun v => 2 ^ 32 - (pool s v).reserve) ((wingsOf s).filter fun v => v != w)).filter fun v =>
      decide (0 < (pool s v).reserve) && decide ((pool s v).reserve * 100 > floor * first v)

/-- A loan: a reserve block of the lender, named in the journal, joins its user pool in place of one the borrower lost (R264). -/
def lend (v w : Nat) (s : State) : State :=
  let c := resChan s v
  let b := (leastWorn s [12 * v + c] .dump fun _ _ => true).getD (mkPsa v c 0 0 0 0 0)
  journal (.block 7 b 0 (blockRec s b).erases)
    (dropRes v c (setPool v (fun p => { p with reserve := p.reserve - 1, lent := p.lent + 1 }) (setPool w (fun p => { p with borrowed := p.borrowed + 1 }) s)))

/-- A lost block on channel `c` of a wing is replaced: from the wing's own reserve, by a loan, or from its emergency reserve (R263, R264, R266).
A reserve block of the channel is taken where it has one. -/
def replaceBlock (w c : Nat) (s : State) : State :=
  let p := pool s w
  let k := if p.resOn.getD c 0 = 0 then resChan s w else c
  if p.reserve > 0 then dropRes w k (setPool w (fun p => { p with reserve := p.reserve - 1 }) s)
  else
    match lender s w with
    | some v => lend v w s
    | none => if p.emergency = 0 then s else dropRes w k (dropEmergency w s)

/-- A block taken straight from a channel's reserve: the non-emergency part of the wing first (R262, R266). -/
def drawReserve (ch : Nat) (s : State) : State :=
  let w := ch / 12
  checkReserve (dropRes w (ch % 12) (if (pool s w).reserve > 0 then setPool w (fun p => { p with reserve := p.reserve - 1 }) s else dropEmergency w s))

/-- A block for a request (R256): a free one outside the reserve, else, where the request may draw on it, a reserve block. -/
def allocBlock (chs : List Nat) (stream : CurStream) (allow : Nat → Nat → Bool) (draw : Bool) (s : State) : Option Nat × State :=
  match findFree s chs stream allow with
  | some b => (some b, s)
  | none =>
    if !draw then (none, s)
    else
      match leastWorn s (chs.filter fun ch => decide (0 < resBlocks s ch)) stream allow with
      | some b => (some b, drawReserve (psaChannel b) s)
      | none => (none, s)

/-- No more reserve blocks stand on a channel than it has free blocks: what a lost die held goes on to channels with room. -/
def settleReserve (w : Nat) (s : State) : State :=
  let cap (c : Nat) : Nat := freeBlocks s (12 * w + c)
  let now := (pool s w).resOn
  let kept := (upTo 12).map fun c => min (now.getD c 0) (cap c)
  let excess := now.foldl (· + ·) 0 - kept.foldl (· + ·) 0
  let (res, _) := (upTo 12).foldl (fun (a : List Nat × Nat) c =>
    let more := min a.2 (cap c - kept.getD c 0)
    (a.1 ++ [kept.getD c 0 + more], a.2 - more)) (([] : List Nat), excess)
  setPool w (fun p => { p with resOn := res }) s

/-- Stripe sets a wing has room for. -/
def wingSets (s : State) (w : Nat) : Nat :=
  ((chansOf w).map fun ch => (liveDiesOf s ch).length * dieBlocks s).foldl min ((liveDiesOf s (12 * w)).length * dieBlocks s)

/-- The dump sets. -/
def dumpSetOf (s : State) (k : Nat) : DumpSet := if k = 0 then s.cur.dumpSets.a else s.cur.dumpSets.b
def setDumpSet (k : Nat) (f : DumpSet → DumpSet) (s : State) : State :=
  setCur (fun c => { c with dumpSets := if k = 0 then { c.dumpSets with a := f c.dumpSets.a } else { c.dumpSets with b := f c.dumpSets.b } }) s

/-- A dump set that is to be armed is, once every block of it is erased (R274, R277, R285): fetching resumes after a dip, and a recovery has ended. -/
def armErased (s : State) : State :=
  match s.cur.dumpSets.erasing with
  | none => s
  | some k =>
    if !(dumpSetOf s k).dirty.isEmpty then s
    else
      let resume := s.cur.dumpSets.resume
      let s := setCur (fun c => { c with dumpSets := { c.dumpSets with armed := some k, erasing := none, resume := false } }) s
      let s := onlyIf (resume && s.pwr.pfailN) (setAcc fun a => { a with stopPower := false }) s
      if s.cur.recovering then raiseIrq 160 0x1000 (setCur (fun c => { c with recovering := false }) s) else s

/-- Retires a block (R263, R268): log 0xC2, journal, replacement. Blocks of a fenced die are not logged; one that failed in a set stands for its
channel in the set's parity and is retired already (R262). A block of a dump set is replaced in its set. -/
def deaccession (psa reason : Nat) (s : State) : State :=
  let b := blockOf psa
  let use := (blockRec s b).use
  let set := (setOfBlock s b).getD 0
  let w := psaWing b
  if use == .retired || (blockRec s b).pinned || psaFenced s b then s
  else
    let s := journal (.block 6 b set (blockRec s b).erases) (setBlock b (fun x => { x with use := .retired, stream := none }) s)
    let s := setCur (fun c => { c with
      deaccessions := ({ psa := b, reason := reason, tsc := s.tsc } :: c.deaccessions).take 16384,
      deaccTotal := satAdd 0xFFFFFFFF c.deaccTotal 1 }) s
    let s := checkReserve (replaceBlock w (psaChan b) (setPool w (fun p => { p with deaccessioned := p.deaccessioned + 1 }) s))
    match use with
    | .dump k =>
      let (f, s) := allocBlock (chansOf w) .dump (fun _ _ => true) true s
      let s := setDumpSet k (fun d => { d with blocks := d.blocks.filter (· != b) ++ f.toList, dirty := d.dirty.filter (· != b) }) s
      armErased (match f with
        | some f => setBlock f (fun x => { x with use := .dump k, slc := true, stream := some .dump }) s
        | none => s)
    | .free | .inSet _ | .reserve | .emergency | .ledger _ | .journal | .retired | .fencedOut => s

/-- A block that a keeper die check found failing is retired (R209); one that a stripe set still uses goes when its set is freed, as a block that has failed
in two uses does (R268). -/
def failingBlock (reason psa : Nat) (s : State) : State :=
  match (blockRec s psa).use with
  | .free | .reserve | .emergency => deaccession psa reason s
  | .inSet _ | .ledger _ | .journal | .dump _ => setBlock (blockOf psa) (fun b => { b with badNow := true, badUses := b.badUses + 1 }) s
  | .retired | .fencedOut => s

/-- A page of a block has failed verify or was uncorrectable in this use (R268). -/
def markBad (psa : Nat) (s : State) : State := setBlock (blockOf psa) (fun b => { b with badNow := true }) s

/-- An erase of a block goes to its channel; it is free once the erase has succeeded. -/
def eraseBlock (psa : Nat) (s : State) : State :=
  submitOp (psaChannel psa) { desc := { op := 4, cls := 3, flags := flag (blockRec s psa).slc, count := 0, psa := blockOf psa, keyWord := 0,
                                        tag := blockKey psa % 2 ^ 32 }, origin := .erase (blockOf psa) } s

/-- The erase of a block has ended: it is free, or an erased block of its dump set; the journal has its erase count (R256, R281). An open that waits for
its channel may be tried again (R250). -/
def blockErased (psa : Nat) (ok : Bool) (s : State) : State :=
  if !ok then deaccession psa 2 s
  else
    let b := blockRec s psa
    let freed (n : Nat) (s : State) : State :=
      let s := setBlock psa (fun b => { b with
        use := .free, erases := b.erases + 1, slc := false, stream := none, pinned := false, badUses := if b.badNow then b.badUses + 1 else 0,
        rewriteUses := if b.rewriteNow then b.rewriteUses + 1 else 0, badNow := false, rewriteNow := false }) s
      journal (.block 5 (blockOf psa) n (b.erases + 1)) (setPool (psaWing psa) (fun p => { p with short := p.short.filter (· != psaChan psa) }) s)
    match b.use with
    | .dump k =>
      armErased (setDumpSet k (fun d => { d with dirty := d.dirty.filter (· != blockOf psa) })
        (journal (.block 5 (blockOf psa) 0 (b.erases + 1)) (setBlock psa (fun b => { b with erases := b.erases + 1 }) s)))
    | .retired | .fencedOut => s
    | .inSet n => freed n s
    | .ledger n => freed n s
    | .free | .reserve | .emergency | .journal => freed 0 s

/-! ## Stripe sets (R250 to R254) -/

/-- A stripe set. -/
def stripe (s : State) (n : Nat) : Option StripeSet := Tab.get? s.cur.sets n
def setStripe (n : Nat) (f : StripeSet → StripeSet) (s : State) : State := setCur (fun c => { c with sets := Tab.adjust c.sets n f }) s

/-- The stream has die parity for life. -/
def CurStream.sustained : CurStream → Bool
  | .hostSustained | .relocSustained => true
  | .hostOrdinary | .relocOrdinary | .map | .ledger | .journal | .dump => false

/-- The block of a channel that holds row `r` (R262). -/
def StripeSet.blockAt (x : StripeSet) (c r : Nat) : Nat :=
  match x.old.find? fun o => o.1 == c && decide (r < o.2.2) with
  | some o => o.2.1
  | none => x.blocks.getD c noPsa

/-- The channel that holds the parity page of a row of a sustained set. -/
def StripeSet.parityChan (x : StripeSet) (r : Nat) : Option Nat := if x.stream.sustained then some (r % 12) else none

/-- Channels that hold a data page of the current row. -/
def StripeSet.dataChans (x : StripeSet) : List Nat := (upTo 12).filter fun c => x.blocks.getD c noPsa != noPsa && x.parityChan x.row != some c

/-- Where the parity page of a row lies. -/
def StripeSet.parityPsa (x : StripeSet) (r : Nat) : Nat :=
  match x.parityChan r with
  | some c => pageIn (x.blockAt c r) r
  | none => pageIn x.ledger r

/-- The Ledger has room: a block of the allotment is free of unreleased parity (R251). -/
def ledgerRoom (s : State) (w : Nat) : Bool := decide ((pool s w).ledgerUsed < (pool s w).ledger0)

/-- Takes a block for a use. -/
def useBlock (psa : Nat) (use : BlockUse) (slc : Bool) (stream : CurStream) (s : State) : State :=
  setBlock psa (fun b => { b with use := use, slc := slc, stream := some stream }) s

/-- Relocation may draw on the reserve collection while the device is read-only (R266). -/
def mayDraw (s : State) (stream : CurStream) : Bool :=
  readOnly s && (match stream with
    | .relocOrdinary | .relocSustained | .map | .ledger | .journal | .dump => true
    | .hostOrdinary | .hostSustained => false)

/-- Takes a block on each of some channels; none where one of them has none. -/
def allocEach (stream : CurStream) : List Nat → State → Option (List Nat) × State
  | [], s => (some [], s)
  | ch :: chs, s =>
    match allocBlock [ch] stream (fun _ _ => true) (mayDraw s stream) s with
    | (none, s) => (none, s)
    | (some b, s) =>
      match allocEach stream chs s with
      | (none, s) => (none, s)
      | (some bs, s) => (some (b :: bs), s)

/-- Opens a stripe set for a stream in a wing (R250, R251): 12 blocks together, and a Ledger block for an ordinary one. Where a channel has
none the open takes none, and garbage collection runs until the channel has one. -/
def openSet (w : Nat) (stream : CurStream) (s : State) : State :=
  if !(pool s w).formatted then s
  else
    match allocEach stream (chansOf w) s with
    | (none, _) =>
      let lacks := (upTo 12).filter fun c => (allocBlock [12 * w + c] stream (fun _ _ => true) (mayDraw s stream) s).1.isNone
      setPool w (fun p => { p with short := lacks }) s
    | (some blocks, t) =>
      let dies := blocks.map fun b => (psaChannel b, psaDie b)
      let (led, t) := if stream.sustained then (some noPsa, t) else if !ledgerRoom s w then (none, t)
        else allocBlock (chansOf w) .ledger (fun ch d => !dies.contains (ch, d)) (mayDraw s .ledger) t
      match led with
      | none => s
      | some led =>
        let n := t.cur.nextSet
        let x : StripeSet := { wing := w, stream := stream, blocks := blocks, state := .open, ledger := led }
        let s := setCur (fun c => { c with sets := Tab.set c.sets n x, nextSet := n + 1 }) (setPool w (fun p => { p with short := [] }) t)
        let s := doAll (fun b s => journal (.block 1 b n (blockRec s b).erases) (useBlock b (.inSet n) false stream s)) blocks s
        if led = noPsa then s
        else journal (.block 8 led n (blockRec s led).erases)
          (setPool w (fun p => { p with ledgerUsed := p.ledgerUsed + 1 }) (useBlock led (.ledger n) true .ledger s))

/-- XOR of pages' data and of their out-of-band areas; a page that is not there counts as zero. -/
def xorPages (s : State) (psas : List Nat) : List Byte × List Byte :=
  psas.foldl (fun (acc : List Byte × List Byte) p =>
    match mediaAt s p with
    | none => acc
    | some m => (xorBytes acc.1 m.data, xorBytes acc.2 (padTo 128 m.oob.flatten))) (zeros 16384, zeros 128)

/-- Sends the parity page of a row to its channel; it covers the pages of the channels listed. -/
def sendParity (n row : Nat) (written : List Nat) (s : State) : State :=
  match stripe s n with
  | none => s
  | some x =>
    let p := x.parityPsa row
    let (data, oob) := xorPages s (written.map fun c => pageIn (x.blockAt c row) row)
    submitOp (psaChannel p) { desc := { op := 3, cls := 2, flags := flag (x.parityChan row).isNone, count := 0, psa := p, keyWord := 0, tag := row },
                              origin := .parity n row, data := data, oob := oob }
      (setStripe n (fun x => { x with covered := Tab.set x.covered row written }) s)

/-- The next page of a closed set goes to its verify (R253). -/
def sendVerify (n : Nat) (s : State) : State :=
  match stripe s n with
  | none => s
  | some x =>
    match x.toVerify.head? with
    | none => if x.state == .closed then
        doAll (fun b s => if b = noPsa then s else journal (.block 3 b n (blockRec s b).erases) s) x.blocks (setStripe n (fun x => { x with state := .verified }) s)
      else s
    | some p => submitOp (psaChannel p) { desc := { op := 2, cls := 4, flags := 0, count := 0, psa := p, keyWord := 0, tag := n % 2 ^ 32 }, origin := .closeVerify n } s

/-- A stripe set closes: every page of it on a live die is to be verified (R253). -/
def closeSet (n : Nat) (s : State) : State :=
  match stripe s n with
  | none => s
  | some x =>
    if x.state != .open then s
    else
      let rows := geo s (·.pagesPerBlock)
      let pages := (upTo (min rows (x.row + 1))).flatMap fun r =>
        ((upTo 12).filter fun c => x.blocks.getD c noPsa != noPsa).map fun c => pageIn (x.blockAt c r) r
      let pages := pages.filter fun p => (mediaAt s p).isSome && !psaFenced s p
      let s := setStripe n (fun x => { x with state := .closed, closing := false, closedAt := s.tsc, toVerify := pages }) s
      let s := doAll (fun b s => if b = noPsa then s else journal (.block 2 b n (blockRec s b).erases) (setBlock b (fun y => { y with stream := none }) s)) x.blocks s
      sendVerify n s

/-- The channel of a row's parity page in a sustained set has no block: the row stays without parity (R262). -/
def noParityBlock (x : StripeSet) (r : Nat) : Bool := (x.parityChan r).any fun c => x.blockAt c r == noPsa

/-- The current row has every page programmed or failed: its parity page is sent and the set goes to the next row, or closes after the last
(R251 to R253). A sustained-parity set closes once the parity page of its last row is programmed. -/
def rowEnd (n : Nat) (s : State) : State :=
  match stripe s n with
  | none => s
  | some x =>
    if x.state != .open || x.closing || !(x.dataChans.all fun c => x.written.contains c || x.failed.contains c) then s
    else
      let last := x.ends || decide (x.row + 1 ≥ geo s (·.pagesPerBlock)) || x.dataChans.all fun c => x.failed.contains c
      let parity := !x.written.isEmpty && !noParityBlock x x.row
      let s := if parity then sendParity n x.row x.written s else s
      if last && x.stream.sustained && parity then setStripe n (fun x => { x with closing := true }) s
      else if last then closeSet n s
      else setStripe n (fun x => { x with row := x.row + 1, written := [], failed := [] }) s

/-! ## The write buffer and the packer (R235 to R242) -/

/-- A write buffer entry. -/
def wb (s : State) (i : Nat) : Option WbEntry := Tab.get? s.cur.wb i
def setWb (i : Nat) (f : WbEntry → WbEntry) (s : State) : State := setCur (fun c => { c with wb := Tab.adjust c.wb i f }) s
def delWb (i : Nat) (s : State) : State := setCur (fun c => { c with wb := Tab.del c.wb i }) s

/-- Where the write buffer begins in DRAM: its minimum of 1 GiB is the last of the working area, the rest follows (R229; log 31). -/
def bufferBase (s : State) : Nat := mapSegments s * 65536 + 7 * 2 ^ 30

/-- A burst of an entry's 16 KiB in DRAM is poisoned (R511, R512). -/
def bufferPoisoned (s : State) (e : WbEntry) : Bool :=
  (upTo 256).any fun k => (drc s (dramChannelOf s (e.addr + 64 * k))).poisoned.contains (dramLocal s (e.addr + 64 * k) / 64)

/-- Whole bursts of the buffer are written: they are poisoned no longer (R511). -/
def cleanBuffer (a n : Nat) (s : State) : State :=
  if s.dram.chans.all fun c => c.2.poisoned.isEmpty then s
  else doAll (fun k s => setDrc (dramChannelOf s (a + 64 * k)) (fun c => { c with poisoned := c.poisoned.filter (· != dramLocal s (a + 64 * k) / 64) }) s) (upTo (n / 64)) s

/-- Charged dirty data in bytes (CUR_DIRTY). -/
def dirtyBytes (s : State) : Nat := (s.cur.wb.map fun e => e.2.charge * 1024).foldl (· + ·) 0

/-- The entry is what its MU was last written with (R237). -/
def WbEntry.current (s : State) (e : WbEntry) : Bool := Tab.getD s.cur.seqs e.gmu 0 == e.seq

/-- A buffered MU is wanted again: what the map names, or what was last written. -/
def WbEntry.live (s : State) (e : WbEntry) : Bool :=
  match e.reloc with
  | some (src, _) => mapEntry s e.gmu == src
  | none => e.current s

/-- The stream an entry is packed in. -/
def entryStream (s : State) (e : WbEntry) : CurStream :=
  let sus := ((nsOf s e.nsid).map (·.sustained)).getD false
  if e.reloc.isSome then (if sus then .relocSustained else .relocOrdinary) else if sus then .hostSustained else .hostOrdinary

/-- A page being packed. -/
def pack (s : State) (p : Nat) : Option PackPage := Tab.get? s.cur.packing p
def setPack (p : Nat) (f : PackPage → PackPage) (s : State) : State := setCur (fun c => { c with packing := Tab.adjust c.packing p f }) s

/-- Where the next MU of a page would start: at most one starts in a codeword (R241). -/
def PackPage.next (p : PackPage) : Nat :=
  match p.placed.getLast? with
  | none => 0
  | some (_, f) => if p.used % 4 ≠ 0 ∧ f / 4 = p.used / 4 then roundUp p.used 4 else p.used

/-- An MU of `n` slots fits a page still being filled. -/
def PackPage.fits (p : PackPage) (n : Nat) : Bool := p.sent.isNone && !p.due && decide (p.next + n ≤ 16)

/-- The wing that takes new data of a stream: one with the most free sets, the lowest among equals; a relocation stays in its wing. -/
def chooseWing (s : State) (e : WbEntry) : Nat :=
  match e.reloc with
  | some (src, _) => psaWing (entryPsa src)
  | none => (minBy (fun w => 2 ^ 32 - freeSets s w) ((wingsOf s).filter fun w => (pool s w).formatted)).getD 0

/-- How the MUs of a page lie on it. -/
def placedOf (s : State) (p : PackPage) : List Placed :=
  p.placed.filterMap fun (x : Nat × Nat) =>
    (wb s x.1).map fun e =>
      { first := x.2, slots := ((e.stored.map (·.1)).getD 16), nsid := e.nsid, mu := e.mu, raw := ((e.stored.map (·.2.1)).getD true),
        gen := ((e.reloc.map (·.2)).getD 0), seq := e.seq }

/-- The data of a page: each MU's stored bytes in its slots, zeros between (R238, R241). -/
def packData (s : State) (p : PackPage) : List Byte :=
  p.placed.foldl (fun (acc : List Byte) (x : Nat × Nat) =>
    match wb s x.1 with
    | none => acc
    | some e => overlay acc (1024 * x.2) (padTo (1024 * ((e.stored.map (·.1)).getD 16)) ((e.stored.map (·.2.2)).getD []))) (zeros 16384)

/-- The place of the next page of a stream: an open set of the wing with a channel free in its row. -/
def nextPlace (s : State) (w : Nat) (stream : CurStream) : Option (Nat × Nat) :=
  (s.cur.sets.filterMap fun e =>
    let x := e.2
    if x.wing == w && x.stream == stream && x.state == .open && !x.closing then
      let out := x.written ++ x.failed
      let busy (c : Nat) : Bool := s.cur.packing.any fun q => q.2.sent == some (pageIn (x.blocks.getD c noPsa) x.row)
      (x.dataChans.find? fun c => !out.contains c && !busy c).map fun c => (e.1, pageIn (x.blocks.getD c noPsa) x.row)
    else none).head?

/-- Sends a page that is due to a channel, when a stripe set has room for it and its media key is there (R564). -/
def sendPage (p : Nat) (s : State) : State :=
  match pack s p with
  | none => s
  | some x =>
    if x.sent.isSome || !x.due then s
    else
      match nextPlace s x.wing x.stream with
      | none => s
      | some (_, psa) =>
        let xts := (variant s).crypto && (x.stream == .hostOrdinary || x.stream == .hostSustained)
        let key := ((nsOf s x.nsid).map (·.keySlot)).getD 0
        if xts && !Tab.has s.sec.slots key then s else
        let op : ChanOp := { desc := { op := 3, cls := 2, flags := if xts then 4 else 0, count := 0, psa := psa, keyWord := if xts then key else 0, tag := p % 2 ^ 32 },
                             origin := .packer x.wing p, data := packData s x, oob := oobArea (placedOf s x) }
        submitOp (psaChannel psa) op (setPack p (fun x => { x with sent := some psa }) s)

/-- Sends every page that is due. -/
def sendDue (s : State) : State := doAll sendPage ((s.cur.packing.filter (fun e => e.2.due && e.2.sent.isNone)).map Prod.fst) s

/-- A buffered MU whose bytes in DRAM are poisoned is lost when it is to be packed (R512): it counts as an entry that cannot be restored (R228), and
an Error Information entry names its namespace and first block. One that nothing wants any more only goes. -/
def dropPoisoned (i : Nat) (e : WbEntry) (s : State) : State :=
  if !e.live s then delWb i s else
  let lba := ((nsOf s e.nsid).map fun n => e.mu * blocksPerMu n).getD 0
  let s := journal (.map 0 e.seq e.gmu wrongEntry) (setEntryRaw e.gmu wrongEntry (delWb i (setCur (fun c => { c with badMus := e.gmu :: c.badMus }) s)))
  doAll (fun c s => logError c 0xFFFF 0xFFFF (stUnrecovered.sc + stUnrecovered.sct * 256) lba e.nsid s)
    ((s.acc.ctls.filter fun x => x.2.attached.contains e.nsid).map Prod.fst) s

/-- Places one entry, first fit; a page that no MU can start on any more is due (R241). -/
def placeEntry (i : Nat) (s : State) : State :=
  match wb s i with
  | none => s
  | some e =>
    if bufferPoisoned s e then dropPoisoned i e s else
    let n := (e.stored.map (·.1)).getD 16
    let stream := entryStream s e
    let fit := s.cur.packing.find? fun q => q.2.nsid == e.nsid && q.2.stream == stream && q.2.fits n && (e.reloc.isNone || q.2.wing == chooseWing s e)
    let (p, s) := match fit with
      | some q => (q.1, s)
      | none =>
        let p := s.cur.nextPage
        (p, setCur (fun c => { c with
          packing := Tab.set c.packing p { wing := chooseWing s e, nsid := e.nsid, stream := stream, placed := [], used := 0, since := s.tsc },
          nextPage := p + 1 }) s)
    let s := setPack p (fun x => { x with placed := x.placed ++ [(i, x.next)], used := x.next + n }) s
    let s := setWb i (fun e => { e with placed := some p, urgent := false }) s
    setPack p (fun x => { x with due := x.due || decide (x.next > 15) || e.urgent }) s

/-- The entries that wait for a page: those moved to the head first, then the largest (R241, R248). -/
def packWaiting (s : State) : List Nat :=
  (sortBy (fun (e : Nat × WbEntry) => (if e.2.urgent then 0 else 64) + (16 - ((e.2.stored.map (·.1)).getD 16)))
    (s.cur.wb.filter fun e => e.2.stored.isSome && e.2.placed.isNone && !e.2.programmed)).map Prod.fst

/-- Packs what waits. With CUR_PACK_TMO 0 a page is programmed as soon as no waiting MU fits it (R288). -/
def packAll (s : State) : State :=
  let s := doAll placeEntry (packWaiting s) s
  let s := doAll (fun e s => if regField s (curPage e.2.wing) 0x5C 15 0 = 0 then setPack e.1 (fun x => { x with due := true }) s else s)
    (s.cur.packing.filter fun e => e.2.sent.isNone && !e.2.due) s
  sendDue s

/-- An MU that a Read or a flush wants is moved to the head of its packer (R248). -/
def hurry (i : Nat) (s : State) : State :=
  match wb s i with
  | none => s
  | some e =>
    match e.placed with
    | some p => sendPage p (setPack p (fun x => { x with due := true }) s)
    | none => setWb i (fun e => { e with urgent := true }) s

/-- An entry has all its blocks: without compression it is stored raw and packed, with it a compressor is asked for (R236, R238). -/
def entryComplete (e : WbEntry) (n : Namespace) : Bool := e.valid == 2 ^ blocksPerMu n - 1

/-- Moves an entry on once it is complete: stored raw, in a namespace without compression. -/
def settleEntry (i : Nat) (s : State) : State :=
  match wb s i with
  | none => s
  | some e =>
    match nsOf s e.nsid with
    | none => s
    | some n =>
      if entryComplete e n && !n.compress && e.stored.isNone then setWb i (fun e => { e with stored := some (16, true, e.data) }) s else s

/-- The entry of an MU that a new write reuses: the one last written, not yet packed (R235). -/
def reusable (s : State) (nsid mu : Nat) : Option (Nat × WbEntry) :=
  s.cur.wb.find? fun e => e.2.nsid == nsid && e.2.mu == mu && e.2.placed.isNone && e.2.reloc.isNone && !e.2.programmed && e.2.current s

/-- Valid bits of the blocks of an MU that lie outside the namespace (R225). -/
def outsideMask (n : Namespace) (mu : Nat) : Nat :=
  let b := blocksPerMu n
  ((upTo b).filter fun k => decide (mu * b + k ≥ n.nsze)).foldl (fun m k => m + 2 ^ k) 0

/-- One MU of a write enters the write buffer (R235, R237): blocks of `data` from block `first` of the MU on. Old contents found wrong are captured and
restored before a fill takes them (R228). -/
def writeMu (nsid : Nat) (n : Namespace) (mu first : Nat) (data : List Byte) (s : State) : State :=
  let gmu := gmuOf n mu
  let cnt := data.length / blockSize n
  let bits := ((upTo cnt).map fun k => 2 ^ (first + k)).foldl (· + ·) 0
  let seq := s.cur.nextSeq
  let reuse := reusable s nsid mu
  let wrong := reuse.isNone && entryWrong s gmu && bits ||| outsideMask n mu != 2 ^ blocksPerMu n - 1
  let old := if entryWrong s gmu then wrongEntry else mapEntry s gmu
  let s := if wrong then capture 160 0x20 (8 * gmu) s else s
  let s := setCur (fun c => { c with
    nextSeq := seq + 1, seqs := Tab.set c.seqs gmu seq, gens := Tab.set c.gens gmu 0,
    compressedSlots := if n.compress then Tab.set c.compressedSlots gmu 16 else c.compressedSlots }) s
  match reuse with
  | some (i, e) =>
    settleEntry i (cleanBuffer (e.addr + first * blockSize n) data.length (setWb i (fun _ => { e with
      data := overlay e.data (first * blockSize n) data, valid := e.valid ||| bits, seq := seq, charge := 16, stored := none,
      compressing := false }) s))
  | none =>
    let i := (Tab.firstFree s.cur.wb (s.cur.wb.length + 1)).getD 0
    let e : WbEntry := { nsid := nsid, mu := mu, gmu := gmu, data := overlay (zeros 16384) (first * blockSize n) data,
                         valid := bits ||| outsideMask n mu, seq := seq, charge := 16, before := old, addr := bufferBase s + 16384 * i }
    settleEntry i (setMapEntry gmu (mkEntry false 0 3 i) (cleanBuffer e.addr 16384 (setCur (fun c => { c with wb := Tab.set c.wb i e }) s)))

/-- The MUs of a range of logical blocks: MU, first block within it, blocks. -/
def muPieces (n : Namespace) (lba count : Nat) : List (Nat × Nat × Nat) :=
  let b := blocksPerMu n
  if count = 0 then []
  else
    (upTo ((lba + count - 1) / b - lba / b + 1)).map fun i =>
      let mu := lba / b + i
      let lo := max lba (mu * b)
      let hi := min (lba + count) (mu * b + b)
      (mu, lo - mu * b, hi - lo)

/-- KiB that a write of these MUs adds to the charges. -/
def chargeNeeded (s : State) (nsid : Nat) (mus : List Nat) : Nat :=
  (mus.map fun mu => match reusable s nsid mu with
    | some (_, e) => 16 - e.charge
    | none => 16).foldl (· + ·) 0

/-- The dirty-data budget admits `kib` more (R35, R258, R272, R285). -/
def budgetAdmits (s : State) (kib : Nat) : Bool :=
  s.cur.dumpSets.armed.isSome && s.cur.dumping.isNone && s.pwr.pfailN && !s.cur.recovering
    && decide (dirtyBytes s + kib * 1024 ≤ s.cur.holdup.budget)
    && (wingsOf s).any fun w => (pool s w).formatted && decide (2000 * freeSets s w ≥ regField s (curPage w) 0x54 7 0 * wingSets s w)

/-- An MU becomes deallocated (R237, R239): its entries in the write buffer that are not packed go. -/
def deallocateMu (nsid : Nat) (n : Namespace) (mu : Nat) (s : State) : State :=
  let gmu := gmuOf n mu
  let seq := s.cur.nextSeq
  let s := setCur (fun c => { c with
    nextSeq := seq + 1, seqs := Tab.set c.seqs gmu seq, gens := Tab.set c.gens gmu 0, compressedSlots := Tab.del c.compressedSlots gmu,
    wb := Tab.keep c.wb (fun _ e => !(e.nsid == nsid && e.mu == mu && e.placed.isNone && e.reloc.isNone)) }) s
  journal (.map 0 seq gmu deallocated) (setMapEntry gmu deallocated s)

/-! ## Relocation, rebuild and loss (R246, R253 to R255, R259, R260) -/

/-- The parity of a row is there: never released for a sustained set, unreleased for an ordinary one. -/
def rowProtected (x : StripeSet) (r : Nat) : Bool := x.parityRows.contains r && (x.stream.sustained || !x.released)

/-- The pages from which a page is rebuilt (R254): the parity page of its row and the other pages that it covers. None where the row has no parity,
the parity does not cover the page, or one of them lies on a fenced die. -/
def rowPeers (s : State) (psa : Nat) : Option (List Nat) :=
  match (setOfBlock s psa).bind (stripe s) with
  | none => none
  | some x =>
    let r := psaPage psa
    let covers := (Tab.getD x.covered r []).map fun c => pageIn (x.blockAt c r) r
    let peers := x.parityPsa r :: covers.filter (· != pageOf psa)
    if rowProtected x r && covers.contains (pageOf psa) && !peers.any (psaFenced s) then some peers else none

/-- A rebuild starts: each page it needs is read whole, in class 1 with XTS off (R193, R254). -/
def startRebuild (use : RebuildUse) (psa : Nat) (peers : List Nat) (s : State) : State :=
  let k := s.cur.nextRebuild
  let s := setCur (fun c => { c with
    rebuilds := Tab.set c.rebuilds k { use := use, psa := pageOf psa, waiting := peers, data := zeros 16384, oob := zeros 128 }, nextRebuild := k + 1 }) s
  doAll (fun p s => submitOp (psaChannel p) { desc := { op := 1, cls := 1, flags := flag (blockRec s p).slc, count := 16, psa := p, keyWord := 0, tag := k % 2 ^ 32 },
                                              origin := .rebuild k p } s) peers s

/-- A relocation's copy enters the write buffer for the relocation stream (R246, R259). -/
def relocEntry (gmu src : Nat) (data : List Byte) (gen seq : Nat) (s : State) : State :=
  match muOfGmu s gmu with
  | none => s
  | some (nsid, mu) =>
    let i := (Tab.firstFree s.cur.wb (s.cur.wb.length + 1)).getD 0
    let e : WbEntry := { nsid := nsid, mu := mu, gmu := gmu, data := [], valid := 0, seq := seq, charge := 0, addr := bufferBase s + 16384 * i,
                         stored := some (entrySlots src, entryRaw src, data), reloc := some (src, (gen + 1) % 256) }
    packAll (cleanBuffer e.addr 16384 (setCur (fun c => { c with wb := Tab.set c.wb i e }) s))

/-- The metadata of the codeword in which an entry's MU starts. -/
def startOob (s : State) (psa : Nat) : List Byte := ((mediaAt s psa).map fun m => m.oob.getD (psaSlot psa / 4) []).getD []

/-- Programs MUs again from the write buffer, at the head of the packer (R249, R254, R262); entries that nothing wants any more go. -/
def programAgain (idx : List Nat) (s : State) : State :=
  let back (i : Nat) (s : State) : State :=
    match wb s i with
    | none => s
    | some e => if e.live s then setWb i (fun e => { e with placed := none, programmed := false, urgent := true }) s else delWb i s
  packAll (doAll back idx s)

/-- Sends an MU of a page that cannot be read to its rebuild (R254); where its row has no parity yet its buffer entry is programmed again (R249), and
else it is lost. -/
def rebuildMu (gmu : Nat) (s : State) : State :=
  let e := mapEntry s gmu
  let psa := entryPsa e
  match rowPeers s psa with
  | some peers => startRebuild (.reloc gmu) psa peers s
  | none =>
    match s.cur.wb.find? fun x => x.2.gmu == gmu && x.2.programmed && x.2.live s with
    | some (i, _) => programAgain [i] s
    | none =>
      let protected' := ((setOfBlock s psa).bind (stripe s)).any fun x => rowProtected x (psaPage psa)
      loseMu gmu (if protected' then capture (curPage (psaWing psa)) 0x24 psa s else s)

/-- The pages of a rebuild have all come: the MU is relocated, under the map entry it still has (R254, R259). -/
def rebuiltMu (gmu : Nat) (x : Rebuild) (s : State) : State :=
  let e := mapEntry s gmu
  let psa := entryPsa e
  if entryState e ≠ 1 ∨ pageOf psa ≠ x.psa then s
  else
    let o := sliceBytes x.oob (32 * (psaSlot psa / 4)) 32
    relocEntry gmu e (sliceBytes x.data (1024 * psaSlot psa) (1024 * entrySlots e)) (oobGen o) (oobSeq o) (bumpReg (curCntPage (psaWing psa)) 0x48 1 s)

/-- A second page of the row cannot be read: the MU is lost (R255). -/
def rebuildFails (gmu : Nat) (x : Rebuild) (s : State) : State :=
  let e := mapEntry s gmu
  if entryState e ≠ 1 ∨ pageOf (entryPsa e) ≠ x.psa then s else loseMu gmu (capture (curPage (psaWing x.psa)) 0x24 (entryPsa e) s)

/-- A relocation of a GMU is under way. -/
def relocating (s : State) (gmu : Nat) : Bool :=
  s.cur.wb.any (fun e => e.2.gmu == gmu && e.2.reloc.isSome && !e.2.programmed)
    || s.cur.rebuilds.any (fun e => e.2.use == .reloc gmu)
    || s.flash.aborted.any (fun o => o.2.origin == .relocate gmu)
    || s.flash.chans.any fun c => c.2.queue.any (fun o => o.origin == .relocate gmu) || c.2.done.any fun d => d.origin == .relocate gmu && !d.taken

/-- Starts to move a valid MU (R259): a read with XTS off, in class 1, or in class 4 for the Conservator (R290); from a fenced die it is
rebuilt. -/
def startReloc (cls gmu : Nat) (s : State) : State :=
  let e := mapEntry s gmu
  if entryState e ≠ 1 ∨ entryWrong s gmu ∨ relocating s gmu ∨ s.cur.lostMus.contains gmu then s
  else if psaFenced s (entryPsa e) then rebuildMu gmu s
  else submitOp (psaChannel (entryPsa e)) { desc := { op := 1, cls := cls, flags := 0, count := entrySlots e, psa := entryPsa e, keyWord := 0, tag := gmu % 2 ^ 32 },
                                            origin := .relocate gmu } s

/-- The read of a relocation has ended. -/
def relocRead (gmu psa status : Nat) (data : List Byte) (s : State) : State :=
  let e := mapEntry s gmu
  if entryState e ≠ 1 ∨ entryPsa e ≠ psa then s
  else if status ≤ 2 then relocEntry gmu e data (oobGen (startOob s psa)) (oobSeq (startOob s psa)) s
  else if status = 0x15 ∨ status = 0x19 then s
  else rebuildMu gmu s

/-! ## Ends of programs (R242, R260, R262) -/

/-- A new map entry is journaled (R282). -/
def remap (gmu gen seq e : Nat) (s : State) : State :=
  journal (.map gen seq gmu e) (setCur (fun c => { c with gens := Tab.set c.gens gmu gen }) (setEntryRaw gmu e s))

/-- One MU of a page that has been programmed (R242, R260). Its entry stays until a parity page covers the page; a copy whose source the map names no
longer is discarded. -/
def muProgrammed (psa : Nat) (x : Nat × Nat) (s : State) : State :=
  match wb s x.1 with
  | none => s
  | some e =>
    let slots := (e.stored.map (·.1)).getD 16
    let new := mkEntry ((e.stored.map (·.2.1)).getD true) (slots - 1) 1 (psa + x.2)
    match e.reloc with
    | some (src, gen) =>
      let s := setWb x.1 (fun e => { e with programmed := true, reloc := some (new, gen) }) s
      if mapEntry s e.gmu = src then
        let w := psaWing (entryPsa src)
        let s := bumpReg64 (curCntPage w) 0x40 slots s
        let s := setCur (fun c => { c with bytesRelocated := c.bytesRelocated + 1024 * slots }) s
        let s := match setOfBlock s (entryPsa src) with
          | some n => setStripe n (fun y => { y with moved := (e.gmu, e.seq, gen) :: y.moved }) s
          | none => s
        remap e.gmu gen e.seq new s
      else s
    | none =>
      let entry := mkEntry false 0 3 x.1
      let s := setCur (fun c => { c with wb := Tab.mapVals c.wb fun _ y => if y.before = entry ∧ y.gmu = e.gmu then { y with before := new } else y }) s
      let s := setWb x.1 (fun e => { e with programmed := true }) s
      if e.current s then
        let s := if ((nsOf s e.nsid).map (·.compress)) = some true then
            setCur (fun c => { c with compressedSlots := Tab.set c.compressedSlots e.gmu slots }) s else s
        remap e.gmu 0 e.seq new s
      else s

/-- The stripe set, row and channel of a page. -/
def pagePlace (s : State) (psa : Nat) : Option (Nat × Nat × Nat) := (setOfBlock s psa).map fun n => (n, psaPage psa, psaChan psa)

/-- The record of a successful operation with an origin stands on a channel. -/
def doneOk (s : State) (ch : Nat) (o : OpOrigin) : Option ChanDone := (chan s ch).done.find? fun d => d.origin == o && !d.taken && d.status == 0

/-- A data page is programmed (R242): entries become mapped, the row goes on. -/
def pageProgrammed (p : Nat) (s : State) : State :=
  match pack s p with
  | none => s
  | some x =>
    match x.sent with
    | none => s
    | some psa =>
      match doneOk s (psaChannel psa) (.packer x.wing p) with
      | none => s
      | some d =>
        let s := takeDone (psaChannel psa) d (setPack p (fun y => { y with done := true }) s)
        let s := doAll (muProgrammed psa) x.placed s
        match pagePlace s psa with
        | none => s
        | some (n, _, c) => sendDue (rowEnd n (setStripe n (fun y => { y with written := y.written ++ [c] }) s))

/-- The pages of a row that the packer has programmed and still holds, and their write buffer entries. -/
def rowPacks (s : State) (n row : Nat) : List (Nat × PackPage) :=
  s.cur.packing.filter fun e => e.2.done && (match e.2.sent with
    | some psa => (pagePlace s psa).any fun t => t.1 == n && t.2.1 == row
    | none => false)

/-- The pages of a row leave the packer and their MUs are programmed again from the write buffer, into a later row or another set (R254, R262). -/
def rowAgain (n row : Nat) (s : State) : State :=
  let mine := rowPacks s n row
  programAgain (mine.flatMap fun e => e.2.placed.map Prod.fst)
    (setCur (fun c => { c with packing := Tab.keep c.packing (fun k _ => !(mine.map Prod.fst).contains k) }) s)

/-- The parity page of a row is programmed: the entries of the pages it covers are freed (R242). The last one closes a sustained-parity set; one that comes
after the close is verified with its set (R253, R254). -/
def parityProgrammed (n row : Nat) (s : State) : State :=
  match stripe s n with
  | none => s
  | some x =>
    let p := x.parityPsa row
    let ch := psaChannel p
    match doneOk s ch (.parity n row) with
    | none => s
    | some d =>
      let s := takeDone ch d (setStripe n (fun y => { y with parityRows := y.parityRows ++ [row] }) s)
      let covers := Tab.getD x.covered row []
      let pages := ((rowPacks s n row).filter fun e => e.2.sent.any fun psa => covers.contains (psaChan psa)).map Prod.fst
      let s := setCur (fun c => { c with
        packing := Tab.keep c.packing (fun k _ => !pages.contains k),
        wb := Tab.keep c.wb (fun _ e => !(e.programmed && e.placed.any fun k => pages.contains k)) }) s
      if x.closing && row == x.row then closeSet n s
      else if x.stream.sustained && x.state != .open then
        sendVerify n (setStripe n (fun y => { y with state := .closed, toVerify := y.toVerify ++ [p] }) s)
      else s

/-- Pages of padding take no part in any parity: rows of a replacement block that are past (R262). -/
def sendPads (n block rows : Nat) (s : State) : State :=
  doAll (fun r s => submitOp (psaChannel block) { desc := { op := 3, cls := 2, flags := 0, count := 0, psa := pageIn block r, keyWord := 0, tag := r },
                                                  origin := .pad n, data := zeros 16384, oob := oobArea [] } s) (upTo rows) s

/-- A block of a set is lost to a failed program (R262): it stands for its channel in the parity of the rows before; a replacement takes the
channel's place from the next row on, from the channel's free blocks or the wing's reserve. Where there is none the set closes after the row. -/
def replaceInSet (n c : Nat) (s : State) : State :=
  match stripe s n with
  | none => s
  | some x =>
    let b := x.blocks.getD c noPsa
    let sent := x.written.contains c || x.failed.contains c || s.cur.packing.any fun q => q.2.sent == some (pageIn b x.row)
    let rows := if x.state == .open then (if sent then x.row + 1 else x.row) else geo s (·.pagesPerBlock)
    let s := setStripe n (fun y => { y with old := y.old ++ [(c, b, rows)] }) (deaccession b 1 s)
    let s := setBlock b (fun y => { y with use := .inSet n, pinned := true }) s
    let (f, s) := if x.state == .open then allocBlock [12 * x.wing + c] x.stream (fun _ _ => true) true s else (none, s)
    match f with
    | some f => sendPads n f rows (journal (.block 1 f n (blockRec s f).erases)
        (setStripe n (fun y => { y with blocks := y.blocks.set c f }) (useBlock f (.inSet n) false x.stream s)))
    | none => setStripe n (fun y => { y with blocks := y.blocks.set c noPsa, ends := true }) s

/-- The MUs of a page go back to the head of the packer; a relocation redoes the copy from its source (R262). -/
def returnPage (p : Nat) (s : State) : State :=
  match pack s p with
  | none => s
  | some x =>
    let mine := s.cur.wb.filter fun e => x.placed.any fun q => q.1 == e.1
    let relocs := mine.filter fun e => e.2.reloc.isSome
    let s := setCur (fun c => { c with packing := Tab.del c.packing p }) s
    let s := doAll (fun e s => delWb e.1 s) relocs s
    doAll (fun e s => startReloc 1 e.2.gmu s) relocs (programAgain ((mine.filter fun e => e.2.reloc.isNone).map Prod.fst) s)

/-- A data page program failed in row p (R262). -/
def pageFailed (p : Nat) (s : State) : State :=
  match pack s p with
  | none => s
  | some x =>
    match x.sent with
    | none => s
    | some psa =>
      match pagePlace s psa with
      | none => returnPage p s
      | some (n, row, c) =>
        let old := blockOf psa
        let s := returnPage p (setStripe n (fun y => { y with failed := y.failed ++ [c] }) s)
        let s := if psaFenced s psa then s else replaceInSet n c s
        let s := doAll (startReloc 1) (gmusOn s fun q => blockOf q == old && decide (psaPage q < row)) s
        packAll (rowEnd n s)

/-- A page of padding failed to program: its block is replaced like one whose data page failed (R262). -/
def padFailed (n psa : Nat) (s : State) : State :=
  match stripe s n with
  | none => s
  | some x => if x.state == .open && x.blocks.getD (psaChan psa) noPsa == blockOf psa && !psaFenced s psa then rowEnd n (replaceInSet n (psaChan psa) s) else s

/-- A set's Ledger block is gone: another takes its place, and holds again the parity pages of the rows not released, copied, or formed from their
data pages where they cannot be read (R262). -/
def moveLedger (n : Nat) (s : State) : Bool × State :=
  match stripe s n with
  | none => (false, s)
  | some x =>
    let dies := ((x.blocks.filter (· != noPsa)).map fun b => (psaChannel b, psaDie b))
    let (f, s) := allocBlock (chansOf x.wing) .ledger (fun ch d => !dies.contains (ch, d)) true s
    match f with
    | none => (false, s)
    | some f =>
      let copy (r : Nat) (s : State) : State :=
        let m := match (if psaFenced s x.ledger then none else mediaAt s (pageIn x.ledger r)) with
          | some m => m
          | none =>
            let (data, oob) := xorPages s ((Tab.getD x.covered r []).map fun c => pageIn (x.blockAt c r) r)
            { data := data, oob := chunks 32 oob, slc := true }
        setCur (fun c => { c with bytesProgrammed := c.bytesProgrammed + 16384 }) (setFlash (fun y => { y with media := Tab.set y.media (pageKey (pageIn f r)) m }) s)
      let s := journal (.block 8 f n (blockRec s f).erases) (useBlock f (.ledger n) true .ledger s)
      (true, doAll copy x.parityRows (setStripe n (fun y => { y with ledger := f }) s))

/-- A parity page program failed (R262), or its die was fenced (R254): an ordinary set's parity goes to another Ledger block; the MUs of a row that is left without
parity are programmed again from the write buffer. -/
def parityFailed (n row psa : Nat) (s : State) : State :=
  match stripe s n with
  | none => s
  | some x =>
    let there := blockOf psa == blockOf (x.parityPsa row)
    let s := match x.parityChan row with
      | some c =>
        let s := if psaFenced s psa || !there then s else replaceInSet n c s
        rowAgain n row s
      | none =>
        let (ok, s) := if !there then (true, s) else moveLedger n (if psaFenced s psa then s else deaccession psa 1 s)
        if ok then sendParity n row (Tab.getD x.covered row []) s else rowAgain n row s
    if x.closing && row == x.row && x.stream.sustained then closeSet n s else s

/-! ## Verify at close, release, free (R253, R255, R261) -/

/-- The verify of the first page of a closed set has ended (R253); `none`: its die has been fenced since, and the page is not verified. -/
def closeVerified (n psa : Nat) (pass : Option Bool) (s : State) : State :=
  match stripe s n with
  | none => s
  | some x =>
    let fails := pass == some false
    let s := setStripe n (fun y => { y with toVerify := y.toVerify.filter (· != psa), bad := if fails then psa :: y.bad else y.bad }) s
    let s := onlyIf pass.isSome (fun s => { s with care := { s.care with counts := { s.care.counts with closeVerifies := s.care.counts.closeVerifies + 1 } } }) s
    let s := if !fails then s
      else doAll (startReloc 1) (gmusOn s fun q => pageOf q == psa)
        (capture (curPage x.wing) 0x23 psa (bumpReg (curCntPage x.wing) 0x4C 1 s))
    sendVerify n s

/-- The parity of an ordinary set may be released (R253): every row's parity is programmed, every page has passed or been relocated, and no MU of it that
is not lost lies on a fenced die. -/
def releasable (s : State) (x : StripeSet) : Bool :=
  x.state == .verified && !x.released && !x.stream.sustained
    && x.covered.all (fun e => x.parityRows.contains e.1)
    && (gmusOn s fun q => x.bad.contains (pageOf q) || (psaFenced s q && x.blocks.contains (blockOf q))).all (fun g => s.cur.lostMus.contains g)

/-- Releases the parity of a set; its Ledger block is erased (R253). -/
def releaseParity (n : Nat) (s : State) : State :=
  match stripe s n with
  | none => s
  | some x =>
    if !releasable s x then s
    else
      let s := setStripe n (fun y => { y with released := true, old := [] }) s
      let s := doAll (fun (o : Nat × Nat × Nat) s => setBlock o.2.1 (fun b => { b with use := .retired, pinned := false }) s) x.old s
      let s := journal (.block 4 x.ledger n (blockRec s x.ledger).erases) (setPool x.wing (fun p => { p with ledgerUsed := p.ledgerUsed - 1 }) s)
      eraseBlock x.ledger s

/-- MUs whose entry names a slot of a set. -/
def setGmus (s : State) (n : Nat) : List Nat := gmusOn s fun q => setOfBlock s q == some n

/-- A directory copy that is kept, or the journal since, names a map segment copy in a set of the map stream (R279, R282). -/
def holdsSegments (s : State) (n : Nat) : Bool :=
  s.cur.dirs.any fun d => d.segs.any fun e => setOfBlock s e.2.1 == some n

/-- A closed set with no valid slot is returned to the free pool once the records of every move out of it are durable (R261). -/
def freeSet (n : Nat) (s : State) : State :=
  match stripe s n with
  | none => s
  | some x =>
    let used := s.cur.wb.any fun e => entryState e.2.before == 1 && setOfBlock s (entryPsa e.2.before) == some n && e.2.stored.isNone
    if x.state == .open || !x.moved.isEmpty || used || !(setGmus s n).isEmpty || holdsSegments s n then s
    else
      let s := if !x.stream.sustained && !x.released then
          eraseBlock x.ledger (setPool x.wing (fun p => { p with ledgerUsed := p.ledgerUsed - 1 }) s) else s
      let s := doAll (fun (o : Nat × Nat × Nat) s => setBlock o.2.1 (fun b => { b with use := .retired, pinned := false }) s) x.old s
      let s := doAll (fun b s => if b = noPsa then s else
        let r := blockRec s b
        if r.badNow && decide (r.badUses ≥ 1) then deaccession b 3 s
        else if r.rewriteNow && decide (r.rewriteUses ≥ 2) then deaccession b 4 s
        else eraseBlock b s) (x.blocks.filter fun b => !psaFenced s b) s
      let s := setCur (fun c => { c with sets := Tab.del c.sets n }) s
      if freeSets s x.wing * 1000 > regField s (curPage x.wing) 0x54 15 8 * wingSets s x.wing then
        setPool x.wing (fun p => { p with collecting := false }) s else s

/-! ## Garbage collection (R257) -/

/-- Valid slots of a set: of the MUs the map names, or of the segment copies the newest directory copy names. -/
def validSlots (s : State) (n : Nat) : Nat :=
  ((setGmus s n).map fun g => entrySlots (mapEntry s g)).foldl (· + ·) 0
    + 64 * ((s.cur.dirs.getLast?.map fun d => (d.segs.filter fun e => setOfBlock s e.2.1 == some n).length).getD 0)

/-- The score of a set as a fraction (R257): v × A over slots × (A + a) with a in nanoseconds and A in the same unit, or v over slots when A is 0. -/
def gcScore (s : State) (n : Nat) (x : StripeSet) : Nat × Nat :=
  let aa := regField s (curPage x.wing) 0x58 15 0 * (3600 * 10 ^ 9)
  let slots := 12 * 16 * geo s (·.pagesPerBlock)
  if aa = 0 then (validSlots s n, slots) else (validSlots s n * aa, slots * (aa + (s.tsc - x.closedAt)))

/-- The victim of a wing: least score, then the earliest close, then the lowest number. -/
def gcVictim (s : State) (w : Nat) : Option Nat :=
  let cands := s.cur.sets.filter fun e => e.2.wing == w && e.2.state == .verified && !e.2.victim
  (cands.foldl (fun (best : Option (Nat × StripeSet)) e =>
    match best with
    | none => some e
    | some b =>
      let (p, q) := gcScore s e.1 e.2
      let (p', q') := gcScore s b.1 b.2
      if p * q' < p' * q ∨ (p * q' = p' * q ∧ e.2.closedAt < b.2.closedAt) then some e else best) none).map Prod.fst

/-- Garbage collection starts in a wing short of free sets, or that has a channel without a free block for an open, and picks its victim (R250, R257). The
segments of a victim of the map stream are to be copied again. -/
def startGc (w : Nat) (s : State) : State :=
  let low := decide (freeSets s w * 1000 < regField s (curPage w) 0x54 7 0 * wingSets s w)
  if !(low || (pool s w).collecting || !(pool s w).short.isEmpty) || !(pool s w).formatted then s
  else
    let s := if low then setPool w (fun p => { p with collecting := true }) s else s
    match gcVictim s w with
    | none => s
    | some n =>
      let segs := ((s.cur.dirs.getLast?.map fun d => d.segs.filter fun e => setOfBlock s e.2.1 == some n).getD []).map Prod.fst
      setCur (fun c => { c with changed := c.changed ++ segs.filter fun i => !c.changed.contains i }) (setStripe n (fun x => { x with victim := true }) s)

/-! ## A fenced die (R254) -/

/-- A set with a block on the fenced die closes at once (R254). Pages on their way to the row begun take no part in its parity: their MUs go to another
set. The row's parity is formed over what was written, or its MUs are programmed again where the parity page would lie on the fenced die. -/
def fenceSet (n ch d : Nat) (s : State) : State :=
  match stripe s n with
  | none => s
  | some x =>
    if x.state != .open || !(x.blocks.any fun b => b != noPsa && psaChannel b == ch && psaDie b == d) then s
    else
      let flying := (s.cur.packing.filter fun e => !e.2.done && e.2.sent.any fun psa => setOfBlock s psa == some n).map Prod.fst
      let s := setStripe n (fun x => { x with state := .closed }) s
      let s := doAll returnPage flying s
      let s := if x.closing || x.written.isEmpty then s
        else if noParityBlock x x.row || psaFenced s (x.parityPsa x.row) && x.stream.sustained then rowAgain n x.row s
        else sendParity n x.row x.written s
      closeSet n (setStripe n (fun x => { x with state := .open }) s)

/-- The blocks of a dump set that lie on a fenced die are replaced in the set (R263, R274). -/
def moveDumpBlocks (k w : Nat) (gone : Nat → Bool) (s : State) : State :=
  let lost := (dumpSetOf s k).blocks.filter gone
  if lost.isEmpty then s
  else
    let s := setDumpSet k (fun d => { d with blocks := d.blocks.filter fun b => !gone b, dirty := d.dirty.filter fun b => !gone b }) s
    armErased (doAll (fun _ s =>
      match allocBlock (chansOf w) .dump (fun _ _ => true) true s with
      | (none, s) => s
      | (some f, s) => setDumpSet k (fun d => { d with blocks := d.blocks ++ [f] }) (useBlock f (.dump k) true .dump s)) lost s)

/-- What the Curator does about a fenced die: its blocks are replaced from the reserve, its sets close, parity that lay on it is formed again in another
Ledger block, and the MUs of released ordinary sets are lost; the others are rebuilt by relocation (R254, R262, R263). -/
def curFence (ch d : Nat) (s : State) : State :=
  let w := ch / 12
  let gone := dieBlocks s - ((listedBlocks s ch d).filter fun e => e.2.use == .retired || e.2.pinned).length
  let s := if (pool s w).formatted then settleReserve w (doAll (fun _ s => replaceBlock w (ch % 12) s) (upTo gone) s) else s
  let onDie (p : Nat) : Bool := p != noPsa && psaChannel p == ch && psaDie p == d
  let s := doAll (fun k s => moveDumpBlocks k w onDie s) [0, 1] s
  let s := doAll (fun (e : Nat × StripeSet) s => if onDie e.2.ledger && !e.2.released then (moveLedger e.1 s).2 else s) s.cur.sets s
  let s := doAll (fun n s => fenceSet n ch d s) s.cur.sets.keys s
  let mus := gmusOn s onDie
  let lost (g : Nat) : Bool :=
    match (setOfBlock s (entryPsa (mapEntry s g))).bind (stripe s) with
    | some x => x.released && !x.stream.sustained
    | none => true
  checkReserve (doAll loseMu (mus.filter lost) s)

/-- `n` blocks spread over the channels of a wing that have live dies (log 150). -/
def spread (s : State) (w n : Nat) : List Nat :=
  let live := (upTo 12).filter fun c => !(liveDiesOf s (12 * w + c)).isEmpty
  (upTo 12).map fun c => match live.idxOf? c with
    | some i => n / live.length + (if i < n % live.length then 1 else 0)
    | none => 0

/-- First format of a wing (R251, R263): the reserve, its emergency part and the Ledger allotment. -/
def formatWing (w : Nat) (s : State) : State :=
  if (pool s w).formatted then s
  else
    let good := wingLiveDies s w * dieBlocks s
    let res := ceilDiv (good * 25) 1000
    let emg := ceilDiv good 1000
    setPool w (fun _ => { good := good, reserve0 := res, emergency0 := emg, reserve := res - emg, emergency := emg, resOn := spread s w res,
                          ledger0 := ceilDiv (good * 25) 10000, formatted := true }) s

end Sys2Proof.Machine
end

