-- ==== Sys2Proof/Machine/JournalOps.lean ====
section
/-! DEFINITION. The Curator's system pages on media: journal pages, map segment copies, directory copies and root records, and how each is read again
(R228, R279 to R283). Layouts that the spec leaves open: log 31. -/

namespace Sys2Proof.Machine

/-- All of some options, in order. -/
def allSome {α : Type} : List (Option α) → Option (List α)
  | [] => some []
  | none :: _ => none
  | some x :: xs => (allSome xs).map (x :: ·)

/-! ## Codewords of system pages (R243, R244) -/

/-- Writes one codeword of an SLC-mode system page: NSID 0, clear. -/
def putCodeword (psa kind mu seq : Nat) (data : List Byte) (s : State) : State :=
  let m := (mediaAt s psa).getD { data := zeros 16384, oob := List.replicate 4 [], slc := true }
  let c := psaSlot psa / 4
  let m := { m with data := overlay m.data (4096 * c) (padTo 4096 data), oob := m.oob.set c (oobBytes 0 mu 0 0 kind seq) }
  setCur (fun c => { c with bytesProgrammed := c.bytesProgrammed + 4096 }) (setFlash (fun x => { x with media := Tab.set x.media (pageKey psa) m }) s)

/-- Writes a whole page with one metadata for its four codewords. -/
def putPage (psa kind mu seq : Nat) (slc : Bool) (data : List Byte) (s : State) : State :=
  let m : MediaPage := { data := padTo 16384 data, oob := List.replicate 4 (oobBytes 0 mu 0 0 kind seq), slc := slc }
  setCur (fun c => { c with bytesProgrammed := c.bytesProgrammed + 16384 }) (setFlash (fun x => { x with media := Tab.set x.media (pageKey psa) m }) s)

/-- A codeword that reads: programmed, on a die that is not fenced, not among those that fail decoding, its metadata valid. -/
def codewordAt (s : State) (bad : List Nat) (psa : Nat) : Option (List Byte × List Byte) :=
  if decide (noPsa ≤ psa) || psaFenced s psa || bad.contains (psa / 4 * 4) then none
  else
    match mediaAt s psa with
    | none => none
    | some m =>
      let c := psaSlot psa / 4
      let o := m.oob.getD c []
      if o.length == 32 && oobOk o then some (sliceBytes m.data (4096 * c) 4096, o) else none

/-- A codeword of a system page of a kind. -/
def systemAt (s : State) (bad : List Nat) (kind psa : Nat) : Option (List Byte × List Byte) :=
  (codewordAt s bad psa).filter fun x => oobNsid x.2 == 0 && oobKind x.2 == kind

/-- A page of user or map data as it reads, or as its row gives it (R254). -/
def pageBytes (s : State) (bad : List Nat) (psa : Nat) : Option (List Byte) :=
  let read (p : Nat) : Option (List Byte) := (allSome ((upTo 4).map fun c => codewordAt s bad (pageOf p + 4 * c))).map fun xs => xs.flatMap (·.1)
  match read psa with
  | some d => some d
  | none => ((rowPeers s psa).bind fun ps => allSome (ps.map read)).map fun ds => ds.foldl xorBytes (zeros 16384)

/-! ## Journal records and pages (R280, R281) -/

/-- A record of 32 bytes. -/
def recBytes (type b1 x y z : Nat) : List Byte := leBytes 1 type ++ leBytes 1 b1 ++ zeros 6 ++ leBytes 8 x ++ leBytes 8 y ++ leBytes 8 z
def JRec.bytes : JRec → List Byte
  | .map gen seq gmu entry => recBytes 1 gen seq gmu entry
  | .segment index psa snap => recBytes 2 0 index psa snap
  | .block event psa set erases => recBytes 3 event psa set erases
  | .dump event seq set => recBytes 4 event seq set 0
  | .nsSegment nsid index m => recBytes 5 0 nsid index m

/-- A record as it is read; none: its type is none of the table's. -/
def jrecOf (b : List Byte) : Option JRec :=
  let e := leAt b 1 1
  let x := leAt b 8 8
  let y := leAt b 16 8
  let z := leAt b 24 8
  match leAt b 0 1 with
  | 1 => some (.map e x y z)
  | 2 => some (.segment x y z)
  | 3 => some (.block e x y z)
  | 4 => some (.dump e x y)
  | 5 => some (.nsSegment x y z)
  | _ => none

/-- Records one after another. -/
def jrecsOf (b : List Byte) (n : Nat) : Option (List JRec) := allSome ((upTo n).map fun k => jrecOf (sliceBytes b (32 * k) 32))

/-- The PSA field of a link; none is all ones. -/
def linkBytes (psa : Nat) : List Byte := leBytes 6 (min psa (2 ^ 48 - 1))
def linkAt (b : List Byte) (o : Nat) : Nat := if leAt b o 6 = 2 ^ 48 - 1 then noPsa else leAt b o 6

/-- A journal page. -/
def journalBytes (p : JPage) : List Byte :=
  let body := padTo 4088 (leBytes 8 p.seq ++ linkBytes p.next ++ leBytes 2 p.records.length ++ linkBytes p.nextMirror ++ zeros 2 ++ p.records.flatMap JRec.bytes)
  ascii "QJNL" ++ leBytes 4 (crc32c body) ++ body

/-- A journal page as it is read: magic, CRC and every record's type are right. -/
def journalOf (b : List Byte) : Option JPage :=
  if sliceBytes b 0 4 == ascii "QJNL" && leAt b 4 4 == crc32c (sliceBytes b 8 4088) && decide (leAt b 22 2 ≤ 127) then
    (jrecsOf (b.drop 32) (leAt b 22 2)).map fun rs => { seq := leAt b 8 8, next := linkAt b 16, nextMirror := linkAt b 24, records := rs }
  else none

/-- The journal page of a sequence number at its places: the mirror where the primary fails (R283). -/
def journalAt (s : State) (bad : List Nat) (seq psa mirror : Nat) : Option JPage :=
  let at' (p : Nat) : Option JPage := ((systemAt s bad 0 p).bind fun x => journalOf x.1).filter fun x => x.seq == seq
  match at' psa with
  | some p => some p
  | none => at' mirror

/-- The journal from a page on, up to the first that does not read or is out of sequence, each with its places (R283). -/
def walkJournal (s : State) (bad : List Nat) : Nat → Nat → Nat → Nat → List (JPage × Nat × Nat)
  | 0, _, _, _ => []
  | fuel + 1, seq, psa, mirror =>
    match journalAt s bad seq psa mirror with
    | none => []
    | some p => (p, psa, mirror) :: walkJournal s bad fuel (seq + 1) p.next p.nextMirror

/-- The journal page that is kept at a place. -/
def keptPages (s : State) (bad : List Nat) : List (Option JPage) := s.cur.journal.map fun x => journalAt s bad x.1 x.2.1 x.2.2

/-! ## Places for system pages (R256, R280) -/

/-- Channels of the primary and of the mirror copies: two wings, or different channels of the one wing that has live dies. -/
def journalChans (s : State) : List Nat × List Nat :=
  match (wingsOf s).filter fun w => decide (0 < wingLiveDies s w) with
  | a :: b :: _ => (chansOf a, chansOf b)
  | [a] => ((chansOf a).filter fun ch => ch % 2 == 0, (chansOf a).filter fun ch => ch % 2 == 1)
  | [] => ([], [])

/-- A new SLC-mode block for the journal stream. -/
def journalBlock (chs : List Nat) (s : State) : Option Nat × State :=
  match allocBlock chs .journal (fun _ _ => true) (mayDraw s .journal) s with
  | (none, s) => (none, s)
  | (some b, s) => (some b, useBlock b .journal true .journal s)

/-- The codeword after a place in its block, else the first of a new block. -/
def nextCodeword (chs : List Nat) (psa : Nat) (s : State) : Option Nat × State :=
  if psaSlot psa < 12 then (some (psa + 4), s)
  else if psaPage psa + 1 < geo s (·.pagesPerBlock) then (some (pageIn (blockOf psa) (psaPage psa + 1)), s)
  else journalBlock chs s

/-- A reserved place that can still be written. -/
def placeGood (s : State) (psa : Nat) : Bool := decide (psa < noPsa) && !psaFenced s psa
def reservedPlace (chs : List Nat) (psa : Nat) (s : State) : Option Nat × State := if placeGood s psa then (some psa, s) else journalBlock chs s

/-- Blocks of the journal stream that hold nothing kept are erased (R282). -/
def releaseJournal (s : State) : State :=
  let live := ((s.cur.journal.flatMap fun p => [p.2.1, p.2.2]) ++ [s.cur.nextJ, s.cur.nextJMirror]
    ++ s.cur.dirs.flatMap fun d => d.chain ++ [d.nextPsa, d.nextMirror]).map blockKey
  let gone := s.cur.blocks.filter fun e => e.2.use == .journal && !live.contains e.1
  doAll (fun e s => eraseBlock (e.1 * 2 ^ 21) s) gone s

/-! ## The newest durable entry of a GMU (R228, R282) -/

/-- The data pages of a set from a page of it on, in the order they are written. -/
def pagesFrom (s : State) (psa rows : Nat) : List Nat :=
  match (setOfBlock s psa).bind (stripe s) with
  | none => []
  | some x =>
    let all := (upTo rows).flatMap fun r =>
      let row := psaPage psa + r
      ((upTo 12).filter fun c => x.blockAt c row != noPsa && x.parityChan row != some c).map fun c => pageIn (x.blockAt c row) row
    all.dropWhile fun p => p != pageOf psa

/-- The page of a segment copy that holds an entry: 4 pages that follow each other in their set. -/
def segmentPage (s : State) (bad : List Nat) (psa k : Nat) : Option (List Byte) := ((pagesFrom s psa 5)[k]?).bind (pageBytes s bad)

/-- The entry of a GMU that a segment copy gives; without a copy it is 0. -/
def copiedEntry (s : State) (bad : List Nat) (gmu : Nat) : Option Nat :=
  match (s.cur.dirs.getLast?).bind fun d => Tab.get? d.segs (gmu / 8192) with
  | none => some 0
  | some (psa, _) => (segmentPage s bad psa (gmu % 8192 / 2048)).map fun b => leAt b (8 * (gmu % 2048)) 8

/-- The entry of a GMU after some records. -/
def recordedEntry (gmu : Nat) (recs : List JRec) (e : Nat) : Nat :=
  recs.foldl (fun e r => match r with
    | .map _ _ g x => if g = gmu then x else e
    | .nsSegment _ _ m => if m = gmu / 8192 then 0 else e
    | .segment _ _ _ | .block _ _ _ _ | .dump _ _ _ => e) e

/-- The entry that the map checkpoint and the journal give a GMU (R228); none: one of them does not read, or gives none that is right. -/
def restoredEntry (s : State) (bad : List Nat) (gmu : Nat) : Option Nat :=
  match copiedEntry s bad gmu, allSome (keptPages s bad) with
  | some e, some ps => some (recordedEntry gmu (ps.flatMap (·.records) ++ s.cur.tail) e) |>.filter entryOk
  | _, _ => none

/-- The entry of a GMU that a copy of its segment takes: an in-flight one stands for what its MU was before, a wrong one for what is restored. -/
def durableEntry (s : State) (gmu : Nat) : Nat → Nat → Nat
  | 0, _ => 0
  | fuel + 1, e =>
    if e = wrongEntry ∨ !entryOk e then (restoredEntry s [] gmu).getD wrongEntry
    else if entryState e = 3 then durableEntry s gmu fuel (((wb s (entryPsa e)).map (·.before)).getD wrongEntry) else e

/-- The 64 KiB of a map segment. -/
def segmentBytes (s : State) (i : Nat) : List Byte :=
  (upTo 8192).flatMap fun k =>
    let g := 8192 * i + k
    leBytes 8 (durableEntry s g (s.cur.wb.length + 2) (if entryWrong s g then wrongEntry else mapEntry s g))

/-- Map segments in use. -/
def segmentsInUse (s : State) : List Nat := sortBy id (s.adm.namespaces.flatMap fun e => e.2.segs)

/-! ## Map segment copies (R241, R244, R282) -/

/-- Data pages that a set still has room for. -/
def roomLeft (s : State) (x : StripeSet) : Nat :=
  let n := x.dataChans.length
  (if x.ends then n else (geo s (·.pagesPerBlock) - x.row) * n) - x.written.length

/-- One page of the map stream is programmed at the set's next place; the row goes on. -/
def mapPage (n kind mu seq : Nat) (data : List Byte) (s : State) : Option Nat × State :=
  match (stripe s n).bind fun x => nextPlace s x.wing .map with
  | none => (none, s)
  | some (m, psa) =>
    if m ≠ n then (none, s)
    else (some psa, rowEnd n (setStripe n (fun y => { y with written := y.written ++ [psaChan psa] }) (putPage psa kind mu seq false data s)))

/-- The open set of the map stream, with room for a segment; one with less is filled with padding, and a new set is opened. -/
def mapSet (s : State) : Option Nat × State :=
  let here (s : State) : Option (Nat × StripeSet) := s.cur.sets.find? fun e => e.2.stream == .map && e.2.state == .open && !e.2.closing
  let s := match here s with
    | some (n, x) => if roomLeft s x < 4 then doAll (fun _ s => (mapPage n 0 0 0 [] s).2) (upTo (roomLeft s x)) s else s
    | none => s
  match here s with
  | some (n, _) => (some n, s)
  | none =>
    let s := match minBy (fun w => 2 ^ 32 - freeSets s w) ((wingsOf s).filter fun w => (pool s w).formatted) with
      | some w => openSet w .map s
      | none => s
    ((here s).map (·.1), s)

/-- Copies a map segment: four pages of kind 1 in the map stream. -/
def copySegment (snap i : Nat) (s : State) : Option Nat × State :=
  match mapSet s with
  | (none, s) => (none, s)
  | (some n, s) =>
    let b := segmentBytes s i
    (upTo 4).foldl (fun (a : Option Nat × State) k =>
      let (p, s) := mapPage n 1 (4 * i + k) snap (sliceBytes b (16384 * k) 16384) a.2
      (if k = 0 then p else a.1, s)) (none, s)

/-- Copies some segments: index, PSA and page sequence number at the snapshot of each; none where one of them finds no place. -/
def copySegments (snap : Nat) : List Nat → State → Option (Tab (Nat × Nat)) × State
  | [], s => (some [], s)
  | i :: is, s =>
    match copySegment snap i s with
    | (none, s) => (none, s)
    | (some p, s) =>
      match copySegments snap is s with
      | (none, s) => (none, s)
      | (some t, s) => (some (Tab.set t i (p, snap)), s)

/-! ## Directory copies (R282) -/

/-- Bytes of a copy that one block holds: its last 8 bytes link to the next. -/
def blockRoom (s : State) : Nat := geo s (·.pagesPerBlock) * 16384 - 8

/-- A directory copy. -/
def directoryBytes (d : DirCopy) : List Byte :=
  let head := leBytes 8 d.seq ++ leBytes 8 d.start ++ linkBytes d.startPsa ++ linkBytes d.startMirror ++ linkBytes d.next ++ linkBytes d.nextMirror
    ++ leBytes 4 d.records.length ++ leBytes 8 d.writeSeq
  let body := padTo 56 head ++ d.records.flatMap JRec.bytes
  ascii "QDIR" ++ leBytes 4 (crc32c body) ++ body

/-- A directory copy as it is read: magic, CRC and every record's type are right. -/
def directoryOf (b : List Byte) : Option DirCopy :=
  if sliceBytes b 0 4 == ascii "QDIR" && leAt b 4 4 == crc32c (b.drop 8) then
    (jrecsOf (b.drop 64) (leAt b 48 4)).map fun rs =>
      { seq := leAt b 8 8, start := leAt b 16 8, startPsa := linkAt b 24, startMirror := linkAt b 30, next := linkAt b 36, nextMirror := linkAt b 42,
        writeSeq := leAt b 52 8, records := rs }
  else none

/-- Codeword `k` of a block. -/
def codewordIn (block k : Nat) : Nat := pageIn block (k / 4) + 4 * (k % 4)

/-- Writes a copy over its blocks, in codewords of kind 2. -/
def putCopy (seq room : Nat) : List Nat → List Byte → State → State
  | [], _, s => s
  | b :: bs, bytes, s =>
    let here := if bs.isEmpty then bytes else padTo room (bytes.take room) ++ leBytes 8 (bs.headD noPsa)
    let s := doAll (fun (x : Nat × List Byte) s => putCodeword (codewordIn b x.1) 2 x.1 seq x.2 s) ((chunks 4096 here).mapIdx fun k c => (k, c)) s
    putCopy seq room bs (bytes.drop room) s

/-- The first `len` bytes of a chain of blocks. -/
def readChain (s : State) (bad : List Nat) : Nat → Nat → Nat → Option (List Byte)
  | 0, _, _ => none
  | fuel + 1, b, len =>
    let room := blockRoom s
    let here := if len ≤ room then len else room + 8
    match allSome ((upTo (ceilDiv here 4096)).map fun k => systemAt s bad 2 (codewordIn b k)) with
    | none => none
    | some xs =>
      let bytes := xs.flatMap (·.1)
      if len ≤ room then some (bytes.take len) else (readChain s bad fuel (leAt bytes room 8) (len - room)).map fun r => bytes.take room ++ r

/-- The blocks of a chain that holds `len` bytes. -/
def chainBlocks (s : State) (bad : List Nat) : Nat → Nat → Nat → List Nat
  | 0, _, _ => []
  | fuel + 1, b, len =>
    let room := blockRoom s
    if len ≤ room then [b]
    else match systemAt s bad 2 (codewordIn b (room / 4096)) with
      | none => [b]
      | some x => b :: chainBlocks s bad fuel (leAt x.1 (room % 4096) 8) (len - room)

/-- The directory copy at one place; at either of its places. -/
def directoryHere (s : State) (bad : List Nat) (psa : Nat) : Option DirCopy :=
  (systemAt s bad 2 psa).bind fun h => (readChain s bad (s.flash.media.length + 1) (blockOf psa) (64 + 32 * leAt h.1 48 4)).bind directoryOf
def directoryAt (s : State) (bad : List Nat) (psa mirror : Nat) : Option DirCopy :=
  match directoryHere s bad psa with
  | some d => some d
  | none => directoryHere s bad mirror

/-- The newest directory copy that the chain from one reaches (R282). -/
def followDirs (s : State) (bad : List Nat) : Nat → DirCopy → DirCopy
  | 0, d => d
  | fuel + 1, d =>
    match directoryAt s bad d.next d.nextMirror with
    | some x => if x.seq = d.seq + 1 then followDirs s bad fuel x else d
    | none => d

/-- More blocks of the journal stream for a copy. -/
def journalBlocks (chs : List Nat) : Nat → State → Option (List Nat) × State
  | 0, s => (some [], s)
  | n + 1, s =>
    match journalBlock chs s with
    | (none, s) => (none, s)
    | (some b, s) => match journalBlocks chs n s with
      | (none, s) => (none, s)
      | (some bs, s) => (some (b :: bs), s)

/-- One of the two copies of a directory: its blocks, from the place reserved for it on, and the block reserved for the next. -/
def copyPlace (chs : List Nat) (reserved more : Nat) (s : State) : Option (List Nat × Nat) × State :=
  match reservedPlace chs reserved s with
  | (none, s) => (none, s)
  | (some b, s) =>
    match journalBlocks chs (more + 1) s with
    | (none, s) => (none, s)
    | (some bs, s) => (some (b :: bs.dropLast, bs.getLastD noPsa), s)

/-! ## Root records (R279) -/

/-- A root record: sequence number, anchor, mirror of the anchor, identities of the two dump sets. -/
def rootBytes (seq anchor mirror a b : Nat) : List Byte :=
  let head := padTo 60 (leBytes 8 seq ++ linkBytes anchor ++ linkBytes mirror ++ leBytes 4 a ++ leBytes 4 b)
  head ++ leBytes 4 (crc32c head)

/-- The newest valid root record. -/
def newestRoot (s : State) : Option (List Byte) :=
  minBy (fun r => 2 ^ 64 - leAt r 0 8) (s.cur.roots.filter fun r => leAt r 60 4 == crc32c (sliceBytes r 0 60))

/-- No root record may be written yet. -/
def rootSoon (s : State) : Bool := !s.cur.roots.isEmpty && decide (s.tsc < s.cur.rootAt + 60 * 10 ^ 9)

/-- The dump sets take the blocks they are to move to: the old ones are erased and free (R276). -/
def takeMoved (s : State) : State :=
  match s.cur.dumpSets.moved with
  | none => s
  | some (a, b) =>
    if !s.cur.dumpSets.live.isEmpty || s.cur.dumping.isSome then s
    else
      let old := s.cur.dumpSets.a.blocks ++ s.cur.dumpSets.b.blocks
      let s := setCur (fun c => { c with dumpSets := { c.dumpSets with a := a, b := b, moved := none, armed := some 0, erasing := none } }) s
      doAll (fun p s => eraseBlock p (setBlock p (fun x => { x with use := .journal, stream := none }) s)) (old.filter fun p => !psaFenced s p) s

/-- A root record names the newest directory copy and the dump sets; the copies before it are released. -/
def rootNow (s : State) : State :=
  match s.cur.dirs.getLast? with
  | none => s
  | some d =>
    let s := takeMoved s
    let r := rootBytes (((newestRoot s).map fun r => leAt r 0 8).getD 0 + 1) d.psa d.mirror s.cur.dumpSets.a.id s.cur.dumpSets.b.id
    releaseJournal (setCur (fun c => { c with
      roots := (c.roots ++ [r]).drop ((c.roots.length + 1) - 16384), rootAt := s.tsc, dirs := c.dirs.filter fun x => decide (x.seq ≥ d.seq) }) s)

/-- ROOT_RECORD_WRITE: no more often than once in 60 s. -/
def rootWrite (s : State) : State := if rootSoon s then s else rootNow s

/-! ## The journal start advances, and pages become durable (R280 to R282) -/

/-- The dumps up to this one have been consumed: the newest dump that no unconsumed one precedes. -/
def consumedDump (s : State) : Nat := ((s.cur.dumpSets.live.map (·.1)).foldl min s.cur.dumpSets.next) - 1

/-- The journal start advances (R282): the segments changed since their last copy are copied and a new directory copy, in two copies, names them all.
Nothing changes where a block for it is missing. Where neither reserved place can be written the chain ends, and a root record names the new copy. -/
def journalAdvance (s : State) : State :=
  let (ca, cb) := journalChans s
  let snap := s.cur.nextJSeq - 1
  let last := s.cur.dirs.getLast?
  let had := (last.map (·.segs)).getD []
  let use := segmentsInUse s
  let todo := use.filter fun i => s.cur.changed.contains i || !Tab.has had i
  let pa := (last.map (·.nextPsa)).getD noPsa
  let pb := (last.map (·.nextMirror)).getD noPsa
  let cut := last.isSome && !placeGood s pa && !placeGood s pb
  if cut && rootSoon s then s
  else
    match copySegments snap todo s with
    | (none, _) => s
    | (some new, t) =>
      let segs := new.foldl (fun a e => Tab.set a e.1 e.2) (Tab.keep had fun i _ => use.contains i)
      let (ja, t) := reservedPlace ca t.cur.nextJ t
      let (jb, t) := reservedPlace cb t.cur.nextJMirror t
      let recs := segs.map (fun e => JRec.segment e.1 e.2.1 e.2.2) ++ (if consumedDump t = 0 then [] else [.dump 2 (consumedDump t) 0])
      let more := ceilDiv (64 + 32 * recs.length) (blockRoom t) - 1
      let (a, t) := copyPlace ca pa more t
      let (b, t) := copyPlace cb pb more t
      match ja, jb, a, b with
      | some ja, some jb, some (as, na), some (bs, nb) =>
        let d : DirCopy := { seq := ((last.map (·.seq)).getD 0) + 1, start := t.cur.nextJSeq, startPsa := ja, startMirror := jb, next := na, nextMirror := nb,
                             writeSeq := t.cur.nextSeq, records := recs }
        let t := putCopy d.seq (blockRoom t) bs (directoryBytes d) (putCopy d.seq (blockRoom t) as (directoryBytes d) t)
        let kept : DirKept := { seq := d.seq, psa := as.headD noPsa, mirror := bs.headD noPsa, nextPsa := na, nextMirror := nb, chain := as ++ bs,
                                segs := segs, sets := t.cur.sets, blocks := t.cur.blocks }
        let t := setCur (fun c => { c with
          dirs := c.dirs ++ [kept], journal := [], nextJ := ja, nextJMirror := jb, changed := c.changed.filter fun i => !use.contains i,
          tail := (c.tail.filter fun r => match r with
            | .segment _ _ _ => false
            | .map _ _ _ _ | .block _ _ _ _ | .dump _ _ _ | .nsSegment _ _ _ => true) ++ new.map fun e => .segment e.1 e.2.1 e.2.2 }) t
        releaseJournal (onlyIf cut rootNow t)
      | _, _, _, _ => s

/-- The dump set that holds the newest dump. -/
def newestDumpSet (s : State) : Nat :=
  let top (k : Nat) : Nat := (((dumpSetOf s k).blocks.flatMap fun b => (s.flash.media.filter fun e => e.1 / 2 ^ 14 == blockKey b).map fun e =>
    oobSeq (e.2.oob.headD [])).foldl max 0)
  if top 0 ≤ top 1 then 1 else 0

/-- The set that does not hold the newest dump is erased, to be armed (R274, R277, R285). -/
def armOther (s : State) : State :=
  if s.cur.dumpSets.armed.isSome then s
  else
    let k := 1 - newestDumpSet s
    let s := setCur (fun c => { c with dumpSets := { c.dumpSets with erasing := some k } }) s
    let under (b : Nat) : Bool := (chan s (psaChannel b)).queue.any fun o => o.origin == .erase b
    armErased (doAll eraseBlock ((dumpSetOf s k).dirty.filter fun b => !under b) s)

/-- The records that say some dumps are consumed are durable: the other set is erased and armed (R277, R285). -/
def consumptionDurable (s : State) : State :=
  let waits := s.cur.tail.any fun r => match r with
    | .dump 2 q _ => s.cur.dumpSets.consuming.contains q
    | .dump _ _ _ | .map _ _ _ _ | .segment _ _ _ | .block _ _ _ _ | .nsSegment _ _ _ => false
  if s.cur.dumpSets.consuming.isEmpty || waits then s
  else
    armOther (setCur (fun c => { c with
      dumpSets := { c.dumpSets with live := c.dumpSets.live.filter fun d => !c.dumpSets.consuming.contains d.1, consuming := [] },
      wb := Tab.mapVals c.wb fun _ e => { e with fromDump := false } }) s)

/-- Up to 127 records of the tail become a durable journal page, in its two copies (R280); the moves they record hold their source no longer (R261). -/
def journalPage (s : State) : State :=
  let recs := s.cur.tail.take 127
  let (ca, cb) := journalChans s
  let (p0, s) := reservedPlace ca s.cur.nextJ s
  let (m0, s) := reservedPlace cb s.cur.nextJMirror s
  match p0, m0 with
  | some p, some m =>
    let (p1, s) := nextCodeword ca p s
    let (m1, s) := nextCodeword cb m s
    let bytes := journalBytes { seq := s.cur.nextJSeq, next := p1.getD noPsa, nextMirror := m1.getD noPsa, records := recs }
    let s := putCodeword m 0 0 s.cur.nextJSeq bytes (putCodeword p 0 0 s.cur.nextJSeq bytes s)
    let gone (x : Nat × Nat × Nat) : Bool := recs.any fun r => match r with
      | .map gen seq g _ => x == (g, seq, gen)
      | .segment _ _ _ | .block _ _ _ _ | .dump _ _ _ | .nsSegment _ _ _ => false
    consumptionDurable (setCur (fun c => { c with
      tail := c.tail.drop 127, journal := c.journal ++ [(c.nextJSeq, p, m)], nextJSeq := c.nextJSeq + 1, nextJ := p1.getD noPsa, nextJMirror := m1.getD noPsa,
      sets := Tab.mapVals c.sets fun _ x => { x with moved := x.moved.filter fun y => !gone y } }) s)
  | _, _ => s

/-- The journal with one page more would exceed CUR_JNL_MAX, or no link leads to the next page's place. -/
def mustAdvance (s : State) : Bool :=
  decide (regField s 160 0xA4 12 0 * 2 ^ 20 < (s.cur.journal.length + 1) * 4096) || !(placeGood s s.cur.nextJ || placeGood s s.cur.nextJMirror)

/-- JOURNAL_PAGE_DURABLE (R280, R282): where the page would take the journal past CUR_JNL_MAX its start advances first. -/
def journalDurable (s : State) : State :=
  if s.cur.tail.isEmpty || s.cur.dirs.isEmpty then s
  else
    let s := if mustAdvance s then journalAdvance s else s
    if mustAdvance s then s else journalPage s

/-- A fence whose record is not durable holds back every journal page and directory copy (R212). -/
def fenceUndurable (s : State) : Bool := s.flash.fences.any fun e => (e.state == 0 || e.state == 1) && !e.durable

/-! ## Restoring a map entry (R228) -/

/-- A wrong entry is restored from the write buffer, the map checkpoint and the journal; where that cannot be, its MU fails until it is changed. -/
def restoreGmu (bad : List Nat) (gmu : Nat) (s : State) : State :=
  let found := match s.cur.wb.find? fun e => e.2.gmu == gmu && e.2.reloc.isNone && !e.2.programmed && e.2.current s with
    | some (i, _) => some (mkEntry false 0 3 i)
    | none => restoredEntry s bad gmu
  if !entryWrong s gmu then s
  else
    match found with
    | none => setCur (fun c => { c with badMus := gmu :: c.badMus.filter (· != gmu) }) s
    | some e =>
      let n := dramChannelOf s (8 * gmu)
      let b := dramLocal s (8 * gmu) / 64
      setDrc n (fun c => { c with poisoned := c.poisoned.filter (· != b) }) (setEntryRaw gmu e s)

end Sys2Proof.Machine
end

