-- ==== Sys2Proof/Machine/SecOps.lean ====
section
/-! DEFINITION. Operations of the SECURITY island (chapter 13): derived keys, key slots, cipher messages, digest parts and signatures. -/

namespace Sys2Proof.Machine

/-- Changes the SECURITY state. -/
def setSec (f : Security → Security) (s : State) : State := { s with sec := f s.sec }

/-! ## Derived keys (R527) -/

/-- TOP_UID as the KDF context. -/
def uidContext (s : State) : List Byte := leBytes 8 s.fuses.uid

/-- The root key. -/
def rootKey (s : State) : List Byte := kdf256 (beBytes 32 Config.deviceSecret) (ascii "QS-ROOT") (uidContext s)

/-- A key-encryption key: 0 media, 1 SCE, 2 state. -/
def kek (s : State) (n : Nat) : List Byte :=
  kdf256 (rootKey s) (ascii (if n = 0 then "QS-KEK-MEDIA" else if n = 1 then "QS-KEK-SCE" else "QS-KEK-STATE")) (uidContext s)

/-! ## Key slots -/

/-- A media or SCE slot. -/
def mediaSlot (s : State) (n : Nat) : Option KeySlot := Tab.get? s.sec.slots n
def sceSlot (s : State) (n : Nat) : Option KeySlot := Tab.get? s.sec.slots (1024 + n)

/-- The index of a slot of a class in the table. -/
def slotIndex (cls slot : Nat) : Nat := if cls = 0 then slot else 1024 + slot

/-- The slot index exceeds its class (R533). -/
def slotOutOfRange (cls slot : Nat) : Bool := if cls = 0 then decide (slot > 1023) else decide (slot > 63)

/-- Kind and length allowed in a class (R530). -/
def kindLenOk (cls kind len : Nat) : Bool :=
  if cls = 0 then kind == 1 && len == 64
  else (kind == 2 && (len == 16 || len == 24 || len == 32))
    || (kind == 3 && decide (16 ≤ len) && decide (len ≤ 64) && len % 8 == 0)

/-- The lengths a record of a class may have. -/
def classLens (cls : Nat) : List Nat := if cls = 0 then [64] else [16, 24, 32, 40, 48, 56, 64]

/-- A media key whose halves are equal (R530). -/
def equalHalves (kind : Nat) (key : List Byte) : Bool := kind == 1 && key.take 32 == key.drop 32

/-- The slot is exhausted (R541). -/
def KeySlot.exhausted (k : KeySlot) : Bool := decide (k.invoc ≥ 0xFFFFFFFF)

/-- A digest part in service belongs to a message keyed from an SCE slot (R551). -/
def Dge.usesSlot (d : Dge) (slot : Nat) : Bool := d.busy && decide (d.mode ≥ 5) && d.slot == slot

/-- A message in service uses an SCE slot (R533): one in the SCE, or one in a DGE while a part of it is in service. -/
def slotInUse (s : State) (slot : Nat) : Bool :=
  s.sec.msg.any (fun m => m.slot == slot) || s.sec.dge0.usesSlot slot || s.sec.dge1.usesSlot slot

/-- KEY_WRAP as bytes: byte 4k in bits [7:0] of word k (R560). -/
def keyWrapBytes (s : State) : List Byte := (upTo 22).flatMap fun k => leBytes 4 (getReg s 250 (0x80 + 4 * k)).toNat

/-- Stores KEY_WRAP. -/
def putKeyWrap (bs : List Byte) (s : State) : State :=
  doAll (fun k s => putReg 250 (0x80 + 4 * k) (word (leAt bs (4 * k) 4)) s) (upTo 22) s

/-- The plaintext of a wrapped record: key and attribute block (R531). -/
def recordPlain (kind len : Nat) (key : List Byte) : List Byte :=
  key ++ [BitVec.ofNat 8 kind, BitVec.ofNat 8 len] ++ zeros 14

/-- Puts a key into a slot; an SCE slot also draws its fixed field and starts its invocations at 0 (R532). -/
def loadSlot (cls slot kind len : Nat) (key : List Byte) (s : State) : State :=
  let (f, s) := if cls = 0 then ([], s) else drawRandom s 8
  setSec (fun x => { x with slots := Tab.set x.slots (slotIndex cls slot) { kind := kind, len := len, key := key, fixed := ofBe f } }) s

/-- Ends a key command with a result, raising cmd_done; a refusal is captured (R532, R533, R561). -/
def keyResult (result : Nat) (s : State) : State :=
  let s := raiseIrq 250 0x100 (setSec (fun x => { x with keyResult := result }) s)
  if result = 0 then s else capture 250 (if result = 2 then 0x21 else 0x20) (pageAddr 250 0x40) s

/-- The refusals common to the key commands (R533): slot index, unarmed, slot in use. -/
def keyRefusal (cls slot : Nat) (changes : Bool) (s : State) : Nat :=
  if slotOutOfRange cls slot then 1
  else if !s.sec.armed then 4
  else if changes && cls != 0 && slotInUse s slot then 5
  else 0

/-- Generate (R532). -/
def keyGenerate (cls kind len slot : Nat) (s : State) : State :=
  let r := keyRefusal cls slot true s
  if r ≠ 0 then keyResult r s
  else if !kindLenOk cls kind len then keyResult 3 s
  else
    let (key, s1) := drawRandom s len
    if equalHalves kind key then keyResult 3 s1
    else keyResult 0 (putKeyWrap (padTo 88 (keyWrap (kek s cls) (recordPlain kind len key))) (loadSlot cls slot kind len key s1))

/-- The key of a record and its attributes, for the first length of the class at which the integrity value holds (log 18). -/
def unwrapRecord (s : State) (cls : Nat) (record : List Byte) : List Nat → Option (Nat × List Byte)
  | [] => none
  | l :: ls =>
    match keyUnwrap (kek s cls) (record.take (l + 24)) with
    | some p => some (l, p)
    | none => unwrapRecord s cls record ls

/-- Unwrap (R532). -/
def keyUnwrapCmd (cls slot : Nat) (s : State) : State :=
  let r := keyRefusal cls slot true s
  if r ≠ 0 then keyResult r s
  else
    match unwrapRecord s cls (keyWrapBytes s) (classLens cls) with
    | none => keyResult 2 s
    | some (l, p) =>
      let kind := (p.getD l 0).toNat
      let len := (p.getD (l + 1) 0).toNat
      if len ≠ l ∨ !kindLenOk cls kind len ∨ equalHalves kind (p.take l) then keyResult 3 s
      else keyResult 0 (putKeyWrap (zeros 88) (loadSlot cls slot kind len (p.take l) s))

/-- The keeper firmware unwraps the media keys' records into their slots, at the end of recovery and of PS4 (R531, R603, R617; DEDUCED,
log 35). -/
def unwrapRecords (s : State) : State :=
  if !s.sec.armed then s
  else doAll (fun (e : Nat × List Byte) s =>
    match keyUnwrap (kek s 0) (e.2.take 88) with
    | some p => loadSlot 0 e.1 1 64 (p.take 64) s
    | none => s) s.sec.records s

/-- Clear (R532). -/
def keyClear (cls slot : Nat) (s : State) : State :=
  let r := keyRefusal cls slot true s
  if r ≠ 0 then keyResult r s
  else keyResult 0 (setSec (fun x => { x with slots := Tab.del x.slots (slotIndex cls slot) }) s)

/-- What a status command finds in a slot: KEY_SLOT_INFO, KEY_FIXED and KEY_INVOC (R532, R560). -/
def keyShown (cls slot : Nat) (s : State) : KeyShown :=
  match Tab.get? s.sec.slots (slotIndex cls slot) with
  | none => {}
  | some k =>
    { info := word (2 ^ 31 + flag (decide (cls = 1) && k.exhausted) * 2 ^ 30 + flag (decide (cls = 1) && slotInUse s slot) * 2 ^ 29
        + k.kind * 2 ^ 27 + k.len * 2 ^ 16)
      fixed := k.fixed, invoc := k.invoc }

/-- Status (R532): the three registers are loaded. -/
def keyStatus (cls slot : Nat) (s : State) : State :=
  let r := keyRefusal cls slot false s
  if r ≠ 0 then keyResult r s
  else keyResult 0 (setSec (fun x => { x with shown := keyShown cls slot s }) s)

/-- A 32-slot word of a validity map (R560). -/
def keyValidWord (s : State) (first : Nat) : Word :=
  (upTo 32).foldl (fun w j => putBit w j (Tab.has s.sec.slots (first + j))) 0

/-- Consumes an invocation of an SCE slot; reaching the end raises slot_exhausted (R541). -/
def consumeInvocation (slot : Nat) (s : State) : State :=
  match sceSlot s slot with
  | none => s
  | some k =>
    let k' := { k with invoc := k.invoc + 1 }
    let s := setSec (fun x => { x with slots := Tab.set x.slots (1024 + slot) k', sceInvoc := k.invoc }) s
    if k'.exhausted then capture 250 0x23 (pageAddr 250 0x40) (raiseIrq 250 0x200 s) else s

/-! ## Symmetric cipher engine -/

/-- A 16-byte block held in four registers, big-endian in each (R542). -/
def regBlock (s : State) (page off : Nat) : List Byte := (upTo 4).flatMap fun k => beBytes 4 (getReg s page (off + 4 * k)).toNat
def putRegBlock (page off : Nat) (bs : List Byte) (s : State) : State :=
  doAll (fun k s => putReg page (off + 4 * k) (word (ofBe (sliceBytes bs (4 * k) 4))) s) (upTo 4) s

/-- A 48-bit address held in a register pair. -/
def regAddr (s : State) (page off : Nat) : Nat := (getReg s page off).toNat + 2 ^ 32 * bits (getReg s page (off + 4)) 15 0

/-- The length rules of R540. -/
def sceLengthsOk (mode : Nat) (decrypt : Bool) (len aad : Nat) : Bool :=
  match mode with
  | 1 => len % 16 == 0 && aad == 0
  | 2 | 3 => aad == 0
  | 4 => !decrypt || decide (len ≤ 65536)
  | _ => false

/-- The destination equals the source or does not overlap it (R540). -/
def sceBuffersOk (src dst len : Nat) : Bool := src == dst || decide (src + len ≤ dst) || decide (dst + len ≤ src)

/-- The checks of R539 in order: a status, 0 when the message may start. -/
def sceCheck (mode slot : Nat) (decrypt auto : Bool) (len aad src dst : Nat) (ctr0 : Nat) (s : State) : Nat :=
  if !s.sec.armed then 0x16
  else if mode = 0 ∨ mode > 4 ∨ (mode = 4 ∧ auto = decrypt) ∨ ((mode = 1 ∨ mode = 2) ∧ auto) then 0x18
  else match sceSlot s slot with
    | none => 0x13
    | some k =>
      if k.kind ≠ 2 then 0x13
      else if k.exhausted then 0x14
      else if !sceLengthsOk mode decrypt len aad || !sceBuffersOk src dst len then 0x11
      else if mode = 3 ∧ decide (ctr0 + ceilDiv len 16 > 2 ^ 32) then 0x12
      else 0

/-- The output of a message, its tag and its status (R540 to R544). -/
def sceCompute (mode : Nat) (decrypt : Bool) (key iv aad tag data : List Byte) : Nat × List Byte × List Byte :=
  match mode, decrypt with
  | 1, false => (0, cbcEncrypt key iv (chunks 16 data), [])
  | 1, true => (0, cbcDecrypt key iv (chunks 16 data), [])
  | 2, false => (0, cfbEncrypt key iv (chunks 16 data), [])
  | 2, true => (0, cfbDecrypt key iv (chunks 16 data), [])
  | 3, _ => (0, ctrCrypt key iv data, [])
  | 4, false =>
    let ct := gcmCrypt key (iv.take 12) data
    (0, ct, gcmTag key (iv.take 12) aad ct)
  | _, _ =>
    if gcmTag key (iv.take 12) aad data = tag then (0, gcmCrypt key (iv.take 12) data, []) else (0x10, [], [])

/-- The IV of a message: built from the slot, or as software left it (R543). -/
def sceIv (mode : Nat) (auto : Bool) (k : KeySlot) (soft : List Byte) : List Byte :=
  if !auto then soft
  else if mode = 3 then beBytes 8 k.fixed ++ beBytes 4 k.invoc ++ beBytes 4 1
  else beBytes 8 k.fixed ++ beBytes 4 k.invoc ++ soft.drop 12

/-- The fields of SCE_CTRL that are held: mode, decrypt, auto_iv and slot (R547); the reserved bits read 0 (R6). -/
def sceCtrlBits : Word := 0x0FC0003F

/-- Starts a message from the registers of page 248 as SCE_CTRL asks (R539 to R546). -/
def sceStart (v : Word) (s : State) : State :=
  let s := putReg 248 0x44 (v &&& sceCtrlBits) s
  let mode := bits v 27 24
  let decrypt := bit v 23
  let auto := bit v 22
  let slot := bits v 5 0
  let len := (getReg s 248 0x4C).toNat
  let aadLen := (getReg s 248 0x50).toNat
  let src := regAddr s 248 0x60
  let dst := regAddr s 248 0x68
  let soft := regBlock s 248 0x80
  let st := sceCheck mode slot decrypt auto len aadLen src dst (if auto then 1 else ofBe (soft.drop 12)) s
  if st ≠ 0 then capture 248 0x22 (pageAddr 248 0x44) (setSec (fun x => { x with sceStatus := st }) s)
  else if len = 0 ∧ mode ≠ 4 then raiseIrq 248 0x100 (setSec (fun x => { x with sceStatus := 0 }) s)
  else
    match sceSlot s slot with
    | none => s
    | some k =>
      let iv := sceIv mode auto k soft
      let tag := regBlock s 248 0x90
      let (rd, s) := busRead src len s
      let (ra, s) := busRead (regAddr s 248 0x70) (if mode = 4 then aadLen else 0) s
      let s := consumeInvocation slot s
      let s := if auto then putRegBlock 248 0x80 iv s else s
      let s := if decrypt then putRegBlock 248 0x90 (zeros 16) s else s
      let bad := rd.code != 0 || (mode == 4 && aadLen != 0 && ra.code != 0)
      let (c, out, t) := if bad then (0x17, [], []) else sceCompute mode decrypt k.key iv ra.bytes tag rd.bytes
      setSec (fun x => { x with msg := some { slot := slot, status := c, dst := dst, bytes := out, tag := t, iv := iv } }) s

/-- A message that is cut short: a free part of its output remains written, the engine state is wiped (R538, R546). -/
def sceAbort (status : Nat) (s : State) : State :=
  match s.sec.msg with
  | none => s
  | some m =>
    let (n, s) := draw s
    let (_, s) := busWrite m.dst (m.bytes.take (n % (m.bytes.length + 1))) s
    putRegBlock 248 0x80 (zeros 16) (putRegBlock 248 0x90 (zeros 16) (setSec (fun x => { x with msg := none, sceStatus := status }) s))

/-- Ends the owner's message with status 0x15, wipes the engine and frees the lock (R538). -/
def sceForceRelease (s : State) : State :=
  let s := if s.sec.msg.isSome then raiseIrq 248 0x200 (sceAbort 0x15 s) else s
  setSec (fun x => { x with owner := 0xFF }) s

/-! ## Digest engines -/

/-- A digest engine. -/
def dge (s : State) (e : Nat) : Dge := if e = 0 then s.sec.dge0 else s.sec.dge1

/-- Changes a digest engine. -/
def setDge (e : Nat) (f : Dge → Dge) (s : State) : State :=
  setSec (fun x => if e = 0 then { x with dge0 := f x.dge0 } else { x with dge1 := f x.dge1 }) s

/-- The registers of an engine. -/
def dgeBase (e : Nat) : Nat := 0x40 + 0x40 * e

/-- The algorithm of a mode (R555). -/
def shaOf (mode : Nat) : Sha := if mode % 4 = 1 then sha256 else if mode % 4 = 2 then sha384 else sha512

/-- A keyed mode, and a mode that exists (R555). -/
def keyedMode (mode : Nat) : Bool := decide (mode ≥ 5)
def modeOk (mode : Nat) : Bool := (decide (1 ≤ mode) && decide (mode ≤ 3)) || (decide (5 ≤ mode) && decide (mode ≤ 7))

/-- An engine whose state is cleared. -/
def Dge.cleared (d : Dge) (status : Nat) : Dge :=
  { d with mode := 0, chain := [], outer := [], count := 0, part := [], busy := false, last := false, wordMode := false, input := [], status := status }

/-- Ends an operation of an engine with a status, raising its done bit (R554, R556). -/
def dgeStatus (e status : Nat) (s : State) : State :=
  raiseIrq 249 (word (0x100 * 2 ^ e)) (setDge e (fun d => { d with status := status }) s)

/-- A refused part (R554, R556). -/
def dgeRefuse (e status code : Nat) (s : State) : State := dgeStatus e status (capture 249 code (pageAddr 249 (dgeBase e)) s)

/-- Adds bytes to the message of an engine. -/
def Dge.absorb (d : Dge) (bs : List Byte) : Dge :=
  let r := (shaOf d.mode).absorb d.chain (d.part ++ bs)
  { d with chain := r.1, part := r.2, count := d.count + bs.length }

/-- The digest of the message an engine holds. -/
def Dge.digestOf (d : Dge) : List Byte :=
  let h := shaOf d.mode
  if keyedMode d.mode then h.finish d.outer (h.block + h.digest) (h.finish d.chain (h.block + d.count) d.part)
  else h.finish d.chain d.count d.part

/-- The end of a part: a last part leaves the digest, any other keeps the state (R549, R550). -/
def dgeFinishPart (e : Nat) (s : State) : State :=
  dgeStatus e 0 (setDge e (fun d =>
    if d.last then { (d.cleared 0) with digest := d.digestOf } else { d with busy := false, wordMode := false, input := [] }) s)

/-- Why a part may not start (R551, R554, R570): a status and the code captured; 0 when it may. -/
def dgeCheck (mode slot : Nat) (first : Bool) (len : Nat) (d : Dge) (s : State) : Nat × Nat :=
  if !modeOk mode || (!first && d.mode != mode) || (!first && decide (d.count + len ≥ 2 ^ 48)) then (0x10, 0x20)
  else if keyedMode mode && !(variant s).crypto then (0x15, 0x05)
  else if keyedMode mode && !s.sec.armed then (0x14, 0x20)
  else if keyedMode mode && first then
    match sceSlot s slot with
    | none => (0x11, 0x20)
    | some k => if k.kind ≠ 3 ∨ k.exhausted then (0x11, 0x20) else (0, 0)
  else (0, 0)

/-- Starts a message in an engine (R549, R551). -/
def dgeFirst (e mode slot : Nat) (s : State) : State :=
  let h := shaOf mode
  if keyedMode mode then
    match sceSlot s slot with
    | none => s
    | some k =>
      let st := h.hmacStates k.key
      let prev := s.sec.sceInvoc
      let s := consumeInvocation slot s
      setDge e (fun d => { d with mode := mode, chain := st.1, outer := st.2, count := 0, part := [], slot := slot }) (setSec (fun x => { x with sceInvoc := prev }) s)
  else setDge e (fun d => { d with mode := mode, chain := h.init, outer := [], count := 0, part := [] }) s

/-- Starts a part as DGE_CTRL asks (R549 to R552). -/
def dgeHashPart (e : Nat) (v : Word) (s : State) : State :=
  let mode := bits v 27 24
  let first := bit v 23
  let len := if bit v 21 then 0 else (getReg s 249 (dgeBase e + 0x10)).toNat + 2 ^ 32 * bits (getReg s 249 (dgeBase e + 0x14)) 15 0
  if (dge s e).busy then dgeRefuse e 0x10 0x20 s
  else
    let (st, code) := dgeCheck mode (bits v 5 0) first len (dge s e) s
    if st ≠ 0 then dgeRefuse e st code s
    else
      let s := if first then dgeFirst e mode (bits v 5 0) s else s
      if bit v 21 then setDge e (fun d => { d with busy := true, wordMode := true, last := bit v 22, status := 0 }) s
      else
        let (r, s) := if len = 0 then ({ code := 0, bytes := [] }, s) else busRead (regAddr s 249 (dgeBase e + 8)) len s
        if r.code ≠ 0 then dgeRefuse e 0x12 0x22 (setDge e (fun d => d.cleared 0x12) s)
        else setDge e (fun d => { d with busy := true, wordMode := false, last := bit v 22, input := r.bytes, status := 0 }) s

/-- The first 304 bytes of the state record of an engine (R553). -/
def dgeRecordHead (d : Dge) (iv : List Byte) : List Byte :=
  let h := shaOf d.mode
  ascii "QDGS" ++ [BitVec.ofNat 8 d.mode, if keyedMode d.mode then 1 else 0, BitVec.ofNat 8 d.part.length, 0]
    ++ leBytes 8 d.count ++ padTo 12 iv ++ zeros 4
    ++ padTo 64 (d.chain.flatMap (beBytes (h.w / 8))) ++ padTo 64 (d.outer.flatMap (beBytes (h.w / 8))) ++ padTo 128 d.part ++ zeros 16

/-- What the tag of a record authenticates besides the ciphertext: bytes 0 to 31 and 288 to 303 (log 19). -/
def dgeRecordAad (record : List Byte) : List Byte := sliceBytes record 0 32 ++ sliceBytes record 288 16

/-- Save (R553). -/
def dgeSave (e : Nat) (s : State) : State :=
  let d := dge s e
  let a := regAddr s 249 (dgeBase e + 0x18)
  if d.busy || d.mode == 0 || a % 64 != 0 then dgeRefuse e 0x10 0x20 s
  else
    let (iv, s) := if keyedMode d.mode then drawRandom s 12 else ([], s)
    let head := dgeRecordHead d iv
    let k := kek s 2
    let ct := gcmCrypt k iv (sliceBytes head 32 256)
    let record := if keyedMode d.mode then sliceBytes head 0 32 ++ ct ++ sliceBytes head 288 16 ++ gcmTag k iv (dgeRecordAad head) ct
               else head ++ zeros 16
    let (c, s) := busWrite a record s
    if c = 0 then dgeStatus e 0 s else dgeRefuse e 0x12 0x22 (setDge e (fun d => d.cleared 0x12) s)

/-- Restore (R553, R570). -/
def dgeRestore (e : Nat) (s : State) : State :=
  let d := dge s e
  let a := regAddr s 249 (dgeBase e + 0x18)
  if d.busy || a % 64 != 0 then dgeRefuse e 0x10 0x20 s
  else
    let (r, s) := busRead a 320 s
    let record := r.bytes
    let mode := leAt record 4 1
    let wrapped := leAt record 5 1 % 2 == 1
    let iv := sliceBytes record 16 12
    let k := kek s 2
    if r.code ≠ 0 then dgeRefuse e 0x12 0x22 (setDge e (fun d => d.cleared 0x12) s)
    else if wrapped && !(variant s).crypto then dgeRefuse e 0x15 0x05 s
    else if wrapped && !s.sec.armed then dgeRefuse e 0x14 0x20 s
    else if sliceBytes record 0 4 ≠ ascii "QDGS" ∨ !modeOk mode ∨ (keyedMode mode != wrapped)
        ∨ (wrapped ∧ gcmTag k iv (dgeRecordAad record) (sliceBytes record 32 256) ≠ sliceBytes record 304 16) then dgeRefuse e 0x13 0x21 s
    else
      let body := if wrapped then gcmCrypt k iv (sliceBytes record 32 256) else sliceBytes record 32 256
      let h := shaOf mode
      let words (o : Nat) := (upTo 8).map fun i => ofBe (sliceBytes body (o + i * (h.w / 8)) (h.w / 8))
      dgeStatus e 0 (setDge e (fun d => { d with
        mode := mode, chain := words 0, outer := if keyedMode mode then words 64 else [],
        count := leAt record 8 8, part := sliceBytes body 128 (leAt record 6 1) }) s)

/-- DGE_DATA: four bytes of a word-mode part (R550). -/
def dgeData (e : Nat) (v : Word) (s : State) : State :=
  if (dge s e).busy && (dge s e).wordMode then setDge e (fun d => d.absorb (beBytes 4 v.toNat)) s else s

/-- DGE_LAST: the last word of a word-mode part (R550). -/
def dgeLast (e : Nat) (v : Word) (s : State) : State :=
  if (dge s e).busy && (dge s e).wordMode then
    dgeFinishPart e (setDge e (fun d => d.absorb ((beBytes 4 v.toNat).take (regField s 249 (dgeBase e + 0x24) 2 0))) s)
  else s

/-- The end of a part read by DMA (R549). -/
def dgePartEnd (e : Nat) (s : State) : State :=
  let d := dge s e
  if d.busy && !d.wordMode then dgeFinishPart e (setDge e (fun d => d.absorb d.input) s) else s

/-- Both engines' states are cleared by a refused access to page 249 (R552). -/
def dgeClearBoth (status : Nat) (s : State) : State :=
  capture 249 0x22 (pageAddr 249 0) (setDge 0 (fun d => d.cleared status) (setDge 1 (fun d => d.cleared status) s))

/-! ## Signatures (R557, R558) -/

/-- A signature block's fields: key index, public key bytes, r and s; none where its magic or algorithm is another. -/
def parseSignature (sig : List Byte) : Option (Nat × List Byte × Nat × Nat) :=
  if sliceBytes sig 0 4 = ascii "QSIG" ∧ leAt sig 4 1 = 1 then
    some (leAt sig 5 1, sliceBytes sig 8 97, ofBe (sliceBytes sig 112 48), ofBe (sliceBytes sig 160 48))
  else none

/-- The signature over a message verifies under the key it names. -/
def signatureHolds (pub : List Byte) (r s : Nat) (msg : List Byte) : Bool :=
  leAt pub 0 1 == 4 && ecdsaVerify (ofBe (sliceBytes pub 1 48), ofBe (sliceBytes pub 49 48)) (sha384.hash msg) r s

/-- A firmware signature is accepted (R558). -/
def firmwareSigned (s : State) (img : FwImage) : Bool :=
  match parseSignature img.signature with
  | none => false
  | some (i, pub, r, t) =>
    decide (i < 4) && s.fuses.hashes[i]? == some (sha384.hash pub) && !s.fuses.revoked.contains i
      && signatureHolds pub r t (img.bytes ++ img.digest)

/-- A Praton signature is accepted: its key hash is in the program-key list (R558). -/
def programSigned (s : State) (image digest sig : List Byte) : Bool :=
  match parseSignature sig with
  | none => false
  | some (_, pub, r, t) => s.boot.programKeys.contains (sha384.hash pub) && signatureHolds pub r t (image ++ digest)

/-- Derives the keys and arms the device (R527, R598), unless an alarm stands or a fuse alarm is set. -/
def deriveKeys (s : State) : State := setSec (fun x => { x with armed := true }) s

/-! ## Register writes with behaviour -/

/-- A write of KEY_CMD with go = 1 (R532, R533, R560). -/
def keyCommand (v : Word) (s : State) : State :=
  let s := putReg 250 0x40 (v &&& 0x7EFF03FF) s
  let cls := bits v 27 27
  let slot := bits v 9 0
  match bits v 30 28 with
  | 1 => keyGenerate cls (bits v 26 25) (bits v 23 16) slot s
  | 2 => keyUnwrapCmd cls slot s
  | 3 => keyClear cls slot s
  | 4 => keyStatus cls slot s
  | _ => keyResult 6 s

/-- The word a key command is written as. -/
def keyWord (cmd cls kind len slot : Nat) : Word := word (2 ^ 31 + cmd * 2 ^ 28 + cls * 2 ^ 27 + kind * 2 ^ 25 + len * 2 ^ 16 + slot)

/-- A write of SCE_LOCK by keeper core k (R536, R538). -/
def sceLockWrite (k : Nat) (v : Word) (s : State) : State :=
  let s := if bit v 31 && s.sec.owner == 0xFF then setSec (fun x => { x with owner := k }) s else s
  if bit v 30 && s.sec.owner == k then sceForceRelease s else s

/-- A write of SCE_FORCE (R538). -/
def sceForceWrite (v : Word) (s : State) : State :=
  if bits v 31 16 = 0xF0CE ∧ bit v 0 then sceForceRelease s else s

/-- A write of SCE_CTRL by keeper core k: only the owner's counts (R537); go while busy is refused (R547). -/
def sceCtrlWrite (k : Nat) (v : Word) (s : State) : State :=
  if s.sec.owner ≠ k then capture 248 0x20 (pageAddr 248 0x44) s
  else if s.sec.msg.isSome then capture 248 0x21 (pageAddr 248 0x44) s
  else if bit v 31 && (hdr s 249).quiesceReq then capture 248 2 (pageAddr 248 0x44) s
  else if bit v 31 then sceStart v s
  else putReg 248 0x44 (v &&& sceCtrlBits) s

/-- The end of the message in service (R544); a memory access error wipes the engine state (R546). -/
def sceEnd (s : State) : State :=
  match s.sec.msg with
  | none => s
  | some m =>
    let (c, s) := if m.status = 0 ∧ m.bytes ≠ [] then busWrite m.dst m.bytes s else (0, s)
    let st := if c = 0 then m.status else 0x17
    let s := if st = 0 ∧ m.tag ≠ [] then putRegBlock 248 0x90 m.tag s
      else if st = 0x17 then putRegBlock 248 0x80 (zeros 16) (putRegBlock 248 0x90 (zeros 16) s) else s
    raiseIrq 248 0x100 (setSec (fun x => { x with msg := none, sceStatus := st }) s)

/-- A write of KEY_PK_REVOKE (R559). -/
def revokeWrite (v : Word) (s : State) : State :=
  let want := (upTo 4).filter fun i => bit v i || s.fuses.revoked.contains i
  if want.length = 4 then capture 251 0x24 (pageAddr 251 0xD0) s
  else { s with fuses := { s.fuses with revoked := want } }

/-- A write of KEY_ROLLBACK (R559). -/
def rollbackWrite (v : Word) (s : State) : State :=
  if bits v 5 0 < s.fuses.rollback then capture 250 0x24 (pageAddr 250 0x58) s
  else { s with fuses := { s.fuses with rollback := bits v 5 0 } }

/-- Marks the newest entry of log 0xC8 with the outcome of a re-arm (R567). -/
def rearmOutcome (outcome : Nat) (s : State) : State :=
  setSec (fun x => { x with log := match x.log with
    | [] => []
    | e :: t => { e with outcome := outcome, tscRearm := if outcome = 1 then s.tsc else e.tscRearm } :: t }) s

/-- Sources go quiet by themselves: those that are still live are a free part of those that were (log 43). -/
def liveNow (s : State) : State :=
  let (n, s) := draw s
  setSec (fun x => { x with live := x.live.filter fun i => n.testBit i }) s

/-- A write of ALM_REARM.go (R566). -/
def rearmWrite (s : State) : State :=
  let s := liveNow s
  let r := if s.sec.live ≠ [] then 1 else if s.sec.count ≥ 8 then 2 else if s.sec.fuseAlarm then 3 else 0
  let s := raiseIrq 2 0x200 (setSec (fun x => { x with rearmResult := r }) s)
  if r = 0 then rearmOutcome 1 (deriveKeys (setSec (fun x => { x with latched := [] }) s))
  else rearmOutcome 2 (capture 2 0x21 (pageAddr 2 0x48) s)

/-- A write of DGE_CTRL (R555): go starts the operation. -/
def dgeCtrlWrite (e : Nat) (v : Word) (s : State) : State :=
  let s := if (dge s e).busy then s else putField 249 (dgeBase e) 30 21 (bits v 30 21) (putField 249 (dgeBase e) 5 0 (bits v 5 0) s)
  if !bit v 31 then s
  else if (hdr s 249).quiesceReq then capture 249 2 (pageAddr 249 (dgeBase e)) s
  else match bits v 30 28 with
    | 1 => dgeHashPart e v s
    | 2 => dgeSave e s
    | 3 => dgeRestore e s
    | _ => dgeRefuse e 0x10 0x20 s

end Sys2Proof.Machine
end

