-- ==== Sys2Proof/Machine/IoOps.lean ====
section
/-! DEFINITION. The I/O commands of the NVM command set: checks, reads through the channels, writes into the write buffer, fills and inline compression, and what the Curator does with each completion record (chapters 01, 03, 06). -/

namespace Sys2Proof.Machine

/-! ## Checks (R139, R143, R165 to R174, R565) -/

/-- A sanitize runs, or has failed. -/
def sanitizing (s : State) : Bool := s.adm.sanitize == .blockErase || s.adm.sanitize == .cryptoErase
def sanitizeFailed (s : State) : Bool := s.adm.sanitize == .failed

/-- The namespace's media key is there, or none is needed (R535, R565). -/
def keyThere (s : State) (n : Namespace) : Bool := !(variant s).crypto || Tab.has s.sec.slots n.keySlot

/-- A namespace reports not ready (R92, R174, R565). -/
def nsNotReady (s : State) (n : Namespace) : Bool := n.notReady || n.formatting.isSome || !s.cur.mediaReady || !keyThere s n

/-- The namespace of an I/O command of a set, or the status that refuses the command. One that started before its namespace was
detached or its deletion began runs to its end (R143). -/
def ioNamespace (s : State) (c : Cmd) (csi : Nat) : Completion ⊕ Namespace :=
  if sanitizing s then .inl stSanitizing
  else if sanitizeFailed s then .inl stSanitizeFailed
  else
    match nsOf s c.nsid with
    | none => .inl stInvalidNs
    | some n =>
      if (!c.onNs && (!(ctlOf s c.ref.ctl).attached.contains c.nsid || n.deleting.isSome)) || n.csi != csi then .inl stInvalidNs
      else if csi = 0 && nsNotReady s n then .inl stNotReady
      else .inr n

/-- A check of a range of blocks: within the namespace, and at most MDTS where data moves (R139). -/
def rangeStatus (n : Namespace) (lba count : Nat) (moves : Bool) : Option Completion :=
  if moves && decide (count * blockSize n > 262144) then some stInvalidField
  else if lba + count > n.nsze then some stLbaRange
  else none

/-- Runs an I/O command of the NVM set on its namespace, or finishes it with the status that refuses it. -/
def onNvm (c : Cmd) (f : Namespace → State → State) (s : State) : State :=
  match ioNamespace s c 0 with
  | .inl st => finish c.ref st s
  | .inr n => f n s

/-! ## Reads (R247 to R249) -/

/-- The piece of a job that lies in an MU. -/
def ReadJob.piece (j : ReadJob) (n : Namespace) (mu : Nat) : Nat × Nat :=
  (((muPieces n j.lba j.blocks).find? fun p => p.1 == mu).map fun p => p.2).getD (0, 0)

/-- Slots of a raw MU that hold a piece: first and count. -/
def pieceSlots (n : Namespace) (p : Nat × Nat) : Nat × Nat :=
  let lo := p.1 * blockSize n / 1024
  (lo, ceilDiv ((p.1 + p.2) * blockSize n) 1024 - lo)

/-- Changes the job of a command. -/
def setJob (r : CmdRef) (f : ReadJob → ReadJob) (s : State) : State :=
  setCur (fun c => { c with reads := updFirst (fun j => j.ref == r) f c.reads }) s
def jobOf (s : State) (r : CmdRef) : Option ReadJob := s.cur.reads.find? fun j => j.ref == r
def dropJob (r : CmdRef) (s : State) : State :=
  inlineDrop (InlineUse.readsFor r) (setCur (fun c => { c with reads := dropFirst (fun j => j.ref == r) c.reads }) s)

/-- A job ends with an error: one that is unrecovered is logged (R147, R249). -/
def failJob (j : ReadJob) (st : Completion) (s : State) : State :=
  let s := finish j.ref st (dropJob j.ref s)
  if st = stUnrecovered then
    logError j.ref.ctl j.ref.sq j.ref.cid (st.sc + st.sct * 256) j.lba j.nsid
      (onlyIf (decide (j.kind = 0)) (setAdm fun a => { a with integrityErrors := a.integrityErrors + 1 }) s)
  else s

/-- A job has all its MUs: the data goes to the host, or is compared, or was only read (R139). -/
def endJobIfDone (r : CmdRef) (s : State) : State :=
  match jobOf s r with
  | none => s
  | some j =>
    match nsOf s j.nsid with
    | none => failJob j stInvalidNs s
    | some n =>
      if !j.waiting.isEmpty then s
      else
        let bytes := (muPieces n j.lba j.blocks).flatMap fun p => sliceBytes (Tab.getD j.arrived p.1 []) (p.2.1 * blockSize n) (p.2.2 * blockSize n)
        let s := dropJob r s
        if j.kind = 0 then
          finish r (success 0 0) (sendData r bytes (setAdm (fun a => { a with bytesRead := a.bytesRead + bytes.length }) s))
        else if j.kind = 1 then finish r (if bytes = j.compare then success 0 0 else stCompareFailure) s
        else finish r (success 0 0) s

/-- One MU of a job has arrived: its bytes from offset `off` of the MU on. -/
def muArrived (r : CmdRef) (mu off : Nat) (bytes : List Byte) (s : State) : State :=
  endJobIfDone r (setJob r (fun j => { j with
    waiting := j.waiting.filter (· != mu), coded := Tab.del j.coded mu,
    arrived := Tab.set j.arrived mu (overlay (zeros 16384) off bytes) }) s)

/-- The wing whose packer has a buffered MU, or will have it. -/
def packerWing (s : State) (i : Nat) : Nat :=
  match wb s i with
  | none => 0
  | some e => ((e.placed.bind (pack s)).map fun p => p.wing).getD (chooseWing s e)

/-- Looks an MU of a job up and starts what it needs (R226, R228, R247, R248, R254). -/
def lookupMu (r : CmdRef) (mu : Nat) (s : State) : State :=
  match jobOf s r with
  | none => s
  | some j =>
    match nsOf s j.nsid with
    | none => failJob j stInvalidNs s
    | some n =>
      let gmu := gmuOf n mu
      let e := mapEntry s gmu
      if !j.waiting.contains mu then s
      else if s.cur.badMus.contains gmu || s.cur.lostMus.contains gmu then failJob j stUnrecovered s
      else if entryWrong s gmu then capture 160 0x20 (8 * gmu) s
      else if entryState e = 3 then
        let s := if j.waited then s else bumpReg (curCntPage (packerWing s (entryPsa e))) 0x50 1 (setJob r (fun j => { j with waited := true }) s)
        hurry (entryPsa e) s
      else if entryState e = 1 then
        let (lo, cnt) := if entryRaw e then pieceSlots n (j.piece n mu) else (0, entrySlots e)
        submitOp (psaChannel (entryPsa e)) {
          desc := { op := 1, cls := 0, flags := if (variant s).crypto then 4 else 0, count := cnt, psa := entryPsa e + lo,
                    keyWord := if (variant s).crypto then n.keySlot else 0, tag := r.cid },
          origin := .hostRead r gmu } s
      else muArrived r mu 0 (zeros 16384) s

/-- Jobs that wait for an MU look it up again, unless their read is under way. -/
def retryReads (gmu : Nat) (s : State) : State :=
  let under (r : CmdRef) : Bool := s.flash.chans.any fun c =>
    c.2.queue.any (fun o => o.origin == .hostRead r gmu) || c.2.done.any fun d => d.origin == .hostRead r gmu && !d.taken
  let waits := s.cur.reads.filterMap fun j =>
    match nsOf s j.nsid with
    | none => none
    | some n => (j.waiting.find? fun mu => gmuOf n mu == gmu && !Tab.has j.coded mu && !under j.ref).map fun mu => (j.ref, mu)
  doAll (fun (p : CmdRef × Nat) s => lookupMu p.1 p.2 s) waits s

/-- Starts a job (R247). -/
def startJobRead (c : Cmd) (n : Namespace) (lba count kind : Nat) (data : List Byte) (s : State) : State :=
  match rangeStatus n lba count (kind != 2) with
  | some st => finish c.ref st s
  | none =>
    let mus := (muPieces n lba count).map (·.1)
    let s := setCur (fun x => { x with
      reads := x.reads ++ [{ ref := c.ref, nsid := c.nsid, lba := lba, blocks := count, kind := kind, compare := data, waiting := mus,
                             arrived := [], failed := false }] }) s
    doAll (fun mu s => lookupMu c.ref mu s) mus s

/-- A mapped page that fails every decoding step: its MU is rebuilt and relocated, or programmed again from the write buffer where its row has no parity
yet; none where neither can be (R249, R254). -/
def recoverRead (gmu : Nat) (s : State) : Option State :=
  if relocating s gmu then some s
  else
    match rowPeers s (entryPsa (mapEntry s gmu)) with
    | some peers => some (startRebuild (.reloc gmu) (entryPsa (mapEntry s gmu)) peers s)
    | none => (s.cur.wb.find? fun x => x.2.gmu == gmu && x.2.programmed && x.2.live s).map fun x => programAgain [x.1] s

/-- The channel read of a job's MU has ended (R247 to R249, R564, R617). A page that fails every decoding step is rebuilt and its MU relocated, or
programmed again from the write buffer where its row has no parity yet; the Read goes on with the new page. -/
def hostReadDone (r : CmdRef) (gmu : Nat) (d : ChanDone) (s : State) : State :=
  match jobOf s r with
  | none => s
  | some j =>
    match nsOf s j.nsid, muOfGmu s gmu with
    | some n, some (_, mu) =>
      let e := mapEntry s gmu
      let lo := (pieceSlots n (j.piece n mu)).1
      if d.status ≤ 2 then
        if entryRaw e ∨ d.desc.psa ≠ entryPsa e then muArrived r mu (1024 * lo) d.data s
        else setJob r (fun j => { j with coded := Tab.set j.coded mu d.data }) s
      else if d.status = 0x15 ∨ d.status = 0x19 then s
      else if d.status = 0x17 then failJob j stNotReady s
      else if d.desc.psa / 2 ^ 7 ≠ entryPsa e / 2 ^ 7 then lookupMu r mu s
      else if d.status = 0x10 then (recoverRead gmu s).getD (failJob j stUnrecovered s)
      else failJob j stUnrecovered s
    | _, _ => failJob j stInvalidNs s

/-- An inline decompression of a read (R322, R347, R348): it waits for an engine, then runs. -/
def decompressMu (r : CmdRef) (mu : Nat) (s : State) : State :=
  match jobOf s r with
  | none => s
  | some j =>
    match Tab.get? j.coded mu with
    | none => s
    | some stored =>
      let use : InlineUse := .readMu r mu
      let pref := preferredIsland (((nsOf s j.nsid).map fun n => psaWing (entryPsa (mapEntry s (gmuOf n mu)))).getD 0)
      let s := if (inlineEngine s use).isSome || s.cmp.waiting.any (fun w => w.1 == use) then s else inlineRequest use true stored pref s
      match inlineEngine s use with
      | none => s
      | some eng =>
        let s := inlineEnd use s
        let need := match nsOf s j.nsid with
          | some n => let p := j.piece n mu
            (p.1 + p.2) * blockSize n
          | none => 16384
        match mediaPrefix stored stored.length need with
        | (0, out) => muArrived r mu 0 (padTo 16384 out) (bumpReg64 (cmpPage eng.island) 0x58 out.length s)
        | _ => failJob j stUnrecovered (inlineDataError eng.island 0 s)

/-! ## Fills (R236) -/

/-- The missing blocks of an MU that the namespace has. -/
def missingBlocks (n : Namespace) (e : WbEntry) : List Nat := (upTo (blocksPerMu n)).filter fun k => !e.valid.testBit k

/-- Lays the missing blocks of an entry from the MU's contents. -/
def fillFrom (n : Namespace) (e : WbEntry) (src : List Byte) : List Byte :=
  (missingBlocks n e).foldl (fun d k => overlay d (k * blockSize n) (sliceBytes src (k * blockSize n) (blockSize n))) e.data

/-- An entry gets its missing blocks from the MU's contents; blocks that the media cannot give are zeros, their ranges are reported lost and the Error
Information log gains an entry (R151, R236). -/
def fillWith (i : Nat) (src : Option (List Byte)) (s : State) : State :=
  match wb s i with
  | none => s
  | some e =>
    match nsOf s e.nsid with
    | none => s
    | some n =>
      let miss := missingBlocks n e
      let full := 2 ^ blocksPerMu n - 1
      let s := doAll (fun k s => cleanBuffer (e.addr + k * blockSize n) (blockSize n) s) miss s
      let s := setWb i (fun e => { e with data := fillFrom n e (src.getD (zeros 16384)), valid := full, filling := false, fillCoded := none }) s
      let s := if src.isSome then s
        else
          let s := doAll (fun k s => addLost e.nsid (e.mu * blocksPerMu n + k) 1 s) miss s
          doAll (fun c s => logError c 0xFFFF 0xFFFF (stUnrecovered.sc + stUnrecovered.sct * 256) (e.mu * blocksPerMu n + miss.headD 0) e.nsid s)
            ((s.acc.ctls.filter fun x => x.2.attached.contains e.nsid).map Prod.fst) s
      packAll (settleEntry i s)

/-- The stored form of the MU has come for a fill: a raw one is laid at once, a compressed one waits for a decompressor (R236, R322). -/
def fillStored (i : Nat) (raw : Bool) (bytes : List Byte) (s : State) : State :=
  if raw then fillWith i (some bytes) s
  else
    let s := setWb i (fun e => { e with fillCoded := some bytes }) s
    inlineRequest (.fillMu i) true bytes (preferredIsland (packerWing s i)) s

/-- A fill's decompressor has run. -/
def fillDecompress (i : Nat) (stored : List Byte) (s : State) : State :=
  match inlineEngine s (.fillMu i) with
  | none => s
  | some eng =>
    let s := inlineEnd (.fillMu i) s
    match mediaDecode stored stored.length with
    | (0, out) => fillWith i (some (padTo 16384 out)) (bumpReg64 (cmpPage eng.island) 0x58 out.length s)
    | _ => fillWith i none (inlineDataError eng.island 0 s)

/-- The page of the MU that an entry is filled from cannot be read: it is rebuilt from parity, or taken from the older entry that is still buffered, or is lost. -/
def fillUnreadable (i : Nat) (e : WbEntry) (s : State) : State :=
  match rowPeers s (entryPsa e.before) with
  | some peers => startRebuild (.fill i) (entryPsa e.before) peers (setWb i (fun e => { e with filling := true }) s)
  | none =>
    let holds (x : WbEntry) : Bool := x.programmed && x.gmu == e.gmu && x.reloc.isNone
      && ((x.placed.bind (pack s)).bind fun p => p.sent) == some (pageOf (entryPsa e.before))
    fillWith i ((s.cur.wb.find? fun x => holds x.2).map fun x => x.2.data) s

/-- Starts or goes on with the fill of a partial MU (R236): from media by a class 1 read, from the older entry of an MU in flight once that is whole, or with
zeros. Old contents found wrong wait for their restoration (R228). -/
def fillEntry (i : Nat) (s : State) : State :=
  match wb s i with
  | none => inlineDrop (· == .fillMu i) s
  | some e =>
    match nsOf s e.nsid with
    | none => s
    | some n =>
      if entryComplete e n then s
      else
        match e.fillCoded with
        | some stored => fillDecompress i stored s
        | none =>
          if e.filling || !entryOk e.before then s
          else if entryState e.before = 3 then
            match wb s (entryPsa e.before) with
            | some x => if entryComplete x n then fillWith i (some x.data) s else s
            | none => fillWith i none s
          else if entryState e.before ≠ 1 then fillWith i (some (zeros 16384)) s
          else if !keyThere s n then s
          else if psaFenced s (entryPsa e.before) then fillUnreadable i e s
          else
            submitOp (psaChannel (entryPsa e.before)) {
              desc := { op := 1, cls := 1, flags := if (variant s).crypto then 4 else 0, count := entrySlots e.before, psa := entryPsa e.before,
                        keyWord := if (variant s).crypto then n.keySlot else 0, tag := i % 2 ^ 32 },
              origin := .fill i } (setWb i (fun e => { e with filling := true }) s)

/-- The read of a fill has ended. -/
def fillRead (i : Nat) (d : ChanDone) (s : State) : State :=
  match wb s i with
  | none => s
  | some e =>
    if !e.filling ∨ d.desc.psa ≠ entryPsa e.before ∨ d.status = 0x15 ∨ d.status = 0x19 then s
    else if d.status ≤ 2 then fillStored i (entryRaw e.before) d.data s
    else if d.status = 0x17 then setWb i (fun e => { e with filling := false }) s
    else fillUnreadable i e s

/-! ## Rebuilds (R254, R255) -/

/-- Every page of a rebuild has come. -/
def rebuildDone (x : Rebuild) (s : State) : State :=
  match x.use with
  | .reloc gmu => rebuiltMu gmu x s
  | .fill i =>
    match wb s i with
    | none => s
    | some e =>
      match nsOf s e.nsid with
      | none => s
      | some n =>
        if !e.filling ∨ pageOf (entryPsa e.before) ≠ x.psa then s
        else
          let s := bumpReg (curCntPage (psaWing x.psa)) 0x48 1 s
          let key := ((Tab.get? s.sec.slots n.keySlot).map (·.key)).getD []
          let page := if (variant s).crypto then xtsPage false key (chunks 32 x.oob) x.data else x.data
          fillStored i (entryRaw e.before) (sliceBytes page (1024 * psaSlot (entryPsa e.before)) (1024 * entrySlots e.before)) s

/-- One page of a rebuild has been read, or cannot be: a second page of the row that is unreadable ends the rebuild (R255). -/
def rebuildRead (k psa : Nat) (d : ChanDone) (s : State) : State :=
  match Tab.get? s.cur.rebuilds k with
  | none => s
  | some x =>
    if d.status = 0x15 ∨ d.status = 0x19 then s
    else if d.status ≤ 2 then
      let oob := ((mediaAt s psa).map fun m => padTo 128 m.oob.flatten).getD (zeros 128)
      let y := { x with waiting := x.waiting.filter (· != psa), data := xorBytes x.data d.data, oob := xorBytes x.oob oob }
      if y.waiting.isEmpty then rebuildDone y (setCur (fun c => { c with rebuilds := Tab.del c.rebuilds k }) s)
      else setCur (fun c => { c with rebuilds := Tab.set c.rebuilds k y }) s
    else
      let s := setCur (fun c => { c with rebuilds := Tab.del c.rebuilds k }) s
      match x.use with
      | .reloc gmu => rebuildFails gmu x s
      | .fill i => fillWith i none (capture (curPage (psaWing x.psa)) 0x24 x.psa s)

/-! ## What the Curator does with completion records (R193) -/

/-- The order of patrol: wing by wing, in stripe-set order, row by row, a row's parity page on a Ledger block last (R296); never 0. -/
def patrolKey (s : State) (n psa : Nat) : Nat :=
  let w := ((stripe s n).map fun x => x.wing).getD 0
  let c := if (stripe s n).any fun x => !x.stream.sustained && x.ledger == blockOf psa then 12 else psaChan psa
  (((w * 2 ^ 32 + n) * 2 ^ 14 + psaPage psa) * 16 + c) + 1

/-- A page of a set has been verified now (R316). -/
def noteVerified (n psa : Nat) (s : State) : State :=
  { s with care := { s.care with verified := Tab.set s.care.verified (patrolKey s n psa) s.tsc } }

/-- An offset inside the range that the parameter page allows (R299). -/
def calClamp (s : State) (x : Int) : Int := (s.flash.geometry.map fun g => max g.offsetMin (min g.offsetMax x)).getD x

/-- The offset of the passing trial with the fewest corrected bits, the first tried among equals (R299). -/
def calBest (tries : List (Int × Option Nat)) : Option Int :=
  (minBy (fun (e : Int × Nat) => e.2) (tries.filterMap fun e => e.2.map fun n => (e.1, n))).map Prod.fst

/-- The offset that the next trial of a level uses: −6, −3, 0, +3 and +6 around the current one, then −1 and +1 around the best of these; none: the
level is done (R299). -/
def calTrial (s : State) (r : CalRun) : Option Int :=
  let k := r.tries.length
  let first (x : Int) : Int := calClamp s (r.offsets.getD r.level 0 + x)
  if k < 5 then some (first (([-6, -3, 0, 3, 6] : List Int).getD k 0))
  else if k < 7 then (calBest (r.tries.take 5)).map fun b => calClamp s (b + (if k = 5 then -1 else 1))
  else none

/-- A trial of a calibration has ended with a completion status and its result bytes; with its last one a level is done (R299). -/
def calTried (s : State) (r : CalRun) (status result : Nat) : CalRun :=
  let n := ((leBytes 4 result).map (·.toNat)).foldl (· + ·) 0
  let r := { r with tries := r.tries ++ [((calTrial s r).getD 0, if status = 0x00 then some n else none)], passed := r.passed || decide (status = 0x00) }
  if (calTrial s r).isSome then r
  else { r with offsets := r.offsets.set r.level ((calBest r.tries).getD (r.offsets.getD r.level 0)), level := r.level + 1, tries := [] }

/-- A calibration's verify has ended. One that a reset of its channel cut off is sent again; a fence ends the calibration. -/
def calibrateDone (k : Nat) (d : ChanDone) (s : State) : State :=
  match s.care.cal with
  | none => s
  | some r =>
    if r.group ≠ k ∨ d.status = 0x15 ∨ d.status = 0x19 then s
    else { s with care := { s.care with cal := if d.status = 0x00 ∨ d.status = 0x10 then some (calTried s r d.status d.result) else none } }

/-- The verify of a patrol page has ended (R296): a page that fails, or that reaches CON_REWRITE_THR, schedules a threshold rewrite of its set. -/
def patrolDone (n : Nat) (d : ChanDone) (s : State) : State :=
  if d.status = 0x15 ∨ d.status = 0x19 then s
  else
    let care (f : Care → Care) (s : State) : State := { s with care := f s.care }
    let s := care (fun c => { c with
      live := { c.live with patrolPos := patrolKey s n (pageOf d.desc.psa) }, counts := { c.counts with patrolPages := c.counts.patrolPages + 1 } })
      (onlyIf (decide (d.status = 0x00 ∨ d.status = 0x10)) (noteVerified n (pageOf d.desc.psa)) s)
    let thr := regField s 176 0x48 7 0
    let worst := (leBytes 4 d.result).foldl (fun m b => max m b.toNat) 0
    let fails := d.status = 0x10
    let due := thr ≠ 0 ∧ worst ≥ thr
    if fails ∨ due then
      setStripe n (fun x => { x with rewrite := true }) (setBlock (blockOf d.desc.psa) (fun b => { b with rewriteNow := true }) s)
    else s

/-- A stream that reads a namespace is bound to a window, and goes on (R447, R453). -/
def streamReads (s : State) (g w : Nat) : Bool :=
  let x := window s g w
  !x.ended && (x.bound.bind fun n => Tab.get? s.rgs.moves n).any fun m => decide (m.kind = 0) && !m.stopped

/-- One record. The record of a stream's read stands until its window takes the data. A success of a packer's or a parity program stands until PAGE_PROGRAMMED or PARITY_PROGRAMMED takes it. The operations that ended with 0x15 or
0x19 are sent again (R277, R616). -/
def takeRecord (ch : Nat) (d : ChanDone) (s : State) : State :=
  let s := if d.status = 0x10 && d.origin != .keeper && (d.desc.op = 1 || d.desc.op = 2) then markBad d.desc.psa s else s
  let again := d.status = 0x15 ∨ d.status = 0x19
  match d.origin with
  | .keeper => s
  | .hostRead r gmu => hostReadDone r gmu d (takeDone ch d s)
  | .relocate gmu => relocRead gmu d.desc.psa d.status d.data (takeDone ch d s)
  | .rebuild k psa => rebuildRead k psa d (takeDone ch d s)
  | .fill i => fillRead i d (takeDone ch d s)
  | .packer _ p =>
    if (pack s p).isNone then takeDone ch d s
    else if d.status = 0 then s
    else if again then takeDone ch d s
    else if d.status = 0x17 then sendDue (setPack p (fun x => { x with sent := none }) (takeDone ch d s))
    else pageFailed p (takeDone ch d s)
  | .parity n row =>
    if (stripe s n).isNone then takeDone ch d s
    else if d.status = 0 then s
    else if again then takeDone ch d s
    else parityFailed n row d.desc.psa (takeDone ch d s)
  | .pad n => if d.status = 0x11 then padFailed n d.desc.psa (takeDone ch d s) else takeDone ch d s
  | .closeVerify n =>
    let s := takeDone ch d s
    if again then s
    else
      let s := onlyIf (decide (d.status ≤ 2 ∨ d.status = 0x10)) (noteVerified n (pageOf d.desc.psa)) s
      closeVerified n (pageOf d.desc.psa) (if d.status ≤ 2 then some true else if d.status = 0x10 then some false else none) s
  | .erase b =>
    let s := takeDone ch d s
    if d.status = 0 then blockErased b true s else if d.status = 0x12 then blockErased b false s else s
  | .patrol n => patrolDone n d (takeDone ch d s)
  | .calibrate k => calibrateDone k d (takeDone ch d s)
  | .stream g w gmu => if streamReads s g w then s else takeDone ch d (inlineDrop (· == .scanMu g w gmu) s)

/-- Every record that has not been taken, on every channel. -/
def freshRecords (s : State) : List (Nat × ChanDone) :=
  s.flash.chans.flatMap fun c => (c.2.done.filter fun d => !d.taken && d.origin != .keeper).map fun d => (c.1, d)

/-- Reads that wait for an MU that has been lost, or found not restorable, end (R228, R254, R255). -/
def endLost (s : State) : State :=
  let lost := s.cur.badMus ++ s.cur.lostMus
  if s.cur.reads.isEmpty || lost.isEmpty then s else doAll retryReads lost s

/-- Takes the records that have come, and those that this brings. -/
def settle (s : State) : State :=
  let once (s : State) : State := doAll (fun (p : Nat × ChanDone) s => takeRecord p.1 p.2 s) (freshRecords s) s
  endLost (once (once (once s)))

/-- The key copies of the XTS engines are zeroed (R18, R563, R616): an operation whose data has not wholly passed its engine ends with
0x17 (R564). Whether the data of a program still running has passed is free; a suspended one's has. -/
def xtsClear (s : State) : State :=
  let each (e : Nat × Channel) (s : State) : State :=
    let live (o : ChanOp) : Bool := o.started && o.desc.xts && o.outcome.isNone && o.resetAt.isNone
    doAll (fun o s =>
      let (n, s) := draw s
      if o.desc.op = 3 ∧ (o.suspended ∨ n % 2 = 1) then s
      else endOps e.1 (fun x => x == o) 0x17 s) (e.2.queue.filter live) s
  settle (doAll each s.flash.chans s)

/-! ## Writes (R35, R234 to R239) -/

/-- An MU is deallocated, and the Reads that wait for it go on (R237, R239, R248). -/
def deallocMu (nsid : Nat) (n : Namespace) (mu : Nat) (s : State) : State := retryReads (gmuOf n mu) (deallocateMu nsid n mu s)

/-- Whether a piece is all of an MU that lies inside the namespace. -/
def wholePiece (n : Namespace) (p : Nat × Nat × Nat) : Bool := p.2.1 == 0 && p.2.2 == min (blocksPerMu n) (n.nsze - p.1 * blocksPerMu n)

/-- MUs of a write that take the write buffer: all of a Write's, the partial ones of a Write Zeroes. -/
def chargedPieces (n : Namespace) (j : WriteJob) (count : Nat) : List (Nat × Nat × Nat) :=
  (muPieces n j.lba count).filter fun p => !(j.zeroes && wholePiece n p)

/-- Blocks of a waiting write. -/
def WriteJob.blocks (j : WriteJob) (n : Namespace) : Nat := j.data.length / blockSize n

/-- A write is admitted: each of its MUs is charged and holds its data, and it completes (R35, R235). -/
def admitWrite (n : Namespace) (j : WriteJob) (s : State) : State :=
  let one (p : Nat × Nat × Nat) (s : State) : State :=
    if j.zeroes && wholePiece n p then deallocMu j.nsid n p.1 s
    else writeMu j.nsid n p.1 p.2.1 (sliceBytes j.data ((p.1 * blocksPerMu n + p.2.1 - j.lba) * blockSize n) (p.2.2 * blockSize n)) s
  let s := doAll one (muPieces n j.lba (j.blocks n)) s
  let s := onlyIf (!j.zeroes) (setAdm fun a => { a with bytesWritten := a.bytesWritten + j.data.length }) s
  packAll (finish j.ref (success 0 0) s)

/-- The media used by compressed namespaces, and 16 KiB for each MU that a write touches, fit beside the reservations (R234). -/
def capacityFits (s : State) (n : Namespace) (j : WriteJob) : Bool :=
  decide (compressedUsed s + 16384 * (chargedPieces n j (j.blocks n)).length + reservations s ≤ userCapacity s)

/-- The budget admits a write now. -/
def writeFits (s : State) (n : Namespace) (j : WriteJob) : Bool :=
  let mus := (chargedPieces n j (j.blocks n)).map (·.1)
  mus.isEmpty || budgetAdmits s (chargeNeeded s j.nsid mus)

/-- A Write, or a Write Zeroes, on its namespace (R234, R235, R239, R265). -/
def startWrite (c : Cmd) (lba : Nat) (data : List Byte) (zeroes : Bool) (n : Namespace) (s : State) : State :=
  let count := data.length / blockSize n
  if readOnly s then finish c.ref stWriteProtected s
  else
    match rangeStatus n lba count (!zeroes) with
    | some st => finish c.ref st s
    | none =>
      let j : WriteJob := { ref := c.ref, nsid := c.nsid, lba := lba, data := data, zeroes := zeroes }
      if n.compress && !capacityFits s n j then finish c.ref stCapacity s
      else if writeFits s n j then admitWrite n j s
      else setCmd c.ref (fun k => { k with waitsCharge := true, onNs := false }) (setCur (fun x => { x with writes := x.writes ++ [j] }) s)

/-- The status that ends a waiting write instead of its admission: it has not started, so what a Write meets at its start meets it
(R143, R171, R234, R265). -/
def waitingRefusal (s : State) (c : Cmd) (j : WriteJob) : Option Completion :=
  match ioNamespace s c 0 with
  | .inl st => some st
  | .inr n =>
    if readOnly s then some stWriteProtected
    else if n.compress && !capacityFits s n j then some stCapacity else none

/-- A waiting write is admitted once the budget allows and the earlier commands of its SQ have started (R35, R107, R123, R258, R272); it
ends at once where a Write is refused now. -/
def chargeAdmit (r : CmdRef) (s : State) : State :=
  match s.cur.writes.find? (fun j => j.ref == r), cmdOf s r with
  | some j, some c =>
    let out (s : State) : State := setCur (fun x => { x with writes := x.writes.filter fun w => w.ref != r }) s
    match waitingRefusal s c j with
    | some st => finish r st (out s)
    | none =>
      match nsOf s j.nsid with
      | none => s
      | some n =>
        if startsAllowed s r && writeFits s n j then admitWrite n j (setCmd r (fun k => { k with waitsCharge := false, onNs := true }) (out s))
        else s
  | _, _ => s

/-- A Write starts when its data fetch begins (R107): its data is asked for at its start where its charge is sure, whatever it touches
(17 MUs at most) and whatever Writes under way still take (log 143). -/
def writeRoom (s : State) : Bool :=
  budgetAdmits s (272 * (1 + (s.acc.cmds.filter fun c => writesMedia s c && c.phase == .started && !c.waitsCharge && c.cpl.isNone).length))

/-- The namespace of an I/O command is attached and not going: the command starts on it (R143). -/
def nsHere (s : State) (c : Cmd) : Bool :=
  c.ref.sq != 0 && (ctlOf s c.ref.ctl).attached.contains c.nsid && (nsOf s c.nsid).any fun n => n.deleting.isNone

/-- A command starts, or finishes at once as invalid (R107, R110, R135). An Execute Program waits for its execution to start. -/
def startCmd (r : CmdRef) (s : State) : State :=
  match awaitedOf s r with
  | none => s
  | some c =>
    if !mayStart s c then s
    else
      match headerRefusal s c with
      | some st => finishAwaited r st s
      | none =>
        if executes s c then s
        else
          let asks := takesData c && decide ((linkOf s (ctlLink s r.ctl)).reqs.length < 8192) && (!writesMedia s c || writeRoom s)
          let s := setAwaited r (fun k => { k with phase := .started, onNs := nsHere s c }) s
          if asks then hostRequest r.ctl (.data r) s else s

/-- The ranges of a Dataset Management cover every block of an MU (R239). -/
def covered (n : Namespace) (ranges : List LbaRange) (mu : Nat) : Bool :=
  (upTo (blocksPerMu n)).all fun k =>
    let l := mu * blocksPerMu n + k
    decide (l ≥ n.nsze) || ranges.any fun r => decide (r.lba ≤ l) && decide (l < r.lba + r.blocks)

/-- Dataset Management (R239). -/
def datasetManage (c : Cmd) (deallocate : Bool) (ranges : List LbaRange) (n : Namespace) (s : State) : State :=
  if ranges.any fun r => decide (r.lba + r.blocks > n.nsze) then finish c.ref stLbaRange s
  else if !deallocate then finish c.ref (success 0 0) s
  else if readOnly s then finish c.ref stWriteProtected s
  else
    let mus := (ranges.flatMap fun r => (muPieces n r.lba r.blocks).map (·.1)).eraseDups.filter (covered n ranges)
    finish c.ref (success 0 0) (doAll (fun mu s => deallocMu c.nsid n mu s) mus s)

/-! ## Inline compression (R238, R325) -/

/-- A complete MU of a compressed namespace asks for a compressor (R238, R322). -/
def compressRequest (i : Nat) (s : State) : State :=
  match wb s i with
  | none => s
  | some e =>
    match nsOf s e.nsid with
    | none => s
    | some n =>
      if n.compress && entryComplete e n && e.stored.isNone && !e.compressing then
        inlineRequest (.compressMu i) false e.data (preferredIsland (chooseWing s e)) (setWb i (fun e => { e with compressing := true }) s)
      else s

/-- An inline compression is done: stored form, charge and counts (R235, R238, R325, R353). -/
def compressDone (i : Nat) (s : State) : State :=
  match inlineEngine s (.compressMu i) with
  | none => s
  | some eng =>
    let s := inlineEnd (.compressMu i) s
    match wb s i with
    | none => s
    | some e =>
      if !e.compressing then s
      else
        let (slots, raw, bytes) := inlineCompress (regField s (cmpPage eng.island) 0x40 3 0) e.data
        let s := countCompression eng.island 16384 bytes.length (flag raw) s
        let s := onlyIf raw (bumpReg (curCntPage (chooseWing s e)) 0x54 1) s
        packAll (setWb i (fun e => { e with stored := some (slots, raw, bytes), charge := slots, compressing := false }) s)

end Sys2Proof.Machine
end

