-- ==== Sys2Proof/Machine/WingOps.lean ====
section
/-! DEFINITION. Wings: discovery, admission, training, die fencing and qualification, and the registers of the FCH and WNG pages (chapter 05). -/

namespace Sys2Proof.Machine

/-! ## Fencing (R207 to R212, R217) -/

/-- Changes the fence log entry of a die. -/
def setFence (ch d : Nat) (f : FenceEntry → FenceEntry) (s : State) : State :=
  setFlash (fun x => { x with fences := updFirst (fun e => e.channel == ch && e.die == d) f x.fences }) s
def fenceOf (s : State) (ch d : Nat) : Option FenceEntry := s.flash.fences.find? fun e => e.channel == ch && e.die == d

/-- The fence log entry of a newly fenced die: one for each die ever fenced (R217). -/
def noteFence (ch d reason : Nat) (s : State) : State :=
  match fenceOf s ch d with
  | some _ => setFence ch d (fun e => { e with reason := reason, state := 0, tscFence := s.tsc, durable := false }) s
  | none =>
    let x := die s ch d
    let e : FenceEntry := { channel := ch, die := d, reason := reason, state := 0, quals := 0, tscFence := s.tsc, tscResponse := 0, responses := 0,
                            page := x.page, uid := x.uid, durable := false }
    if s.flash.fences.length < 1536 then setFlash (fun f => { f with fences := f.fences ++ [e] }) s else s

/-- The channel stops using a die (R210): operations queued for it and running on it complete with 0x14. -/
def stopDie (ch d : Nat) (s : State) : State :=
  endOps ch (fun o => o.desc.dieNo == d) 0x14 (setChan ch (fun c => { c with fenced := if c.fenced.contains d then c.fenced else sortBy id (d :: c.fenced) }) s)

/-- A wing's discovery has ended when no channel of it is training: each is running, fenced, or left untrained (R184, R221). -/
def checkDiscovery (w : Nat) (s : State) : State :=
  match Tab.get? s.flash.discovering w with
  | none => s
  | some _ =>
    if (chansOf w).any (fun ch => (chan s ch).state == 1 || (chan s ch).state == 2) then s
    else
      let s := setFlash (fun f => { f with discovering := Tab.del f.discovering w }) s
      let s := doAll (fun ch s => raiseIrq (fchPage ch) 0x1000 s) (chansOf w) s
      raiseIrq (32 + w) 0x100 (formatWing w s)

/-- A channel with no present, unfenced die does not train (R180): a training under way ends, but for the one of command 3 (R216). -/
def trainingLapses (ch : Nat) (s : State) : State :=
  let c := chan s ch
  let by3 := c.command.any fun k => k.1 == 3
  if (c.state ≠ 1 ∧ c.state ≠ 4) ∨ by3 ∨ !(liveDiesOf s ch).isEmpty then s
  else checkDiscovery (ch / 12) (putField (fchPage ch) 0x40 8 8 0 (setChan ch (fun c => { c with state := 0, rate := 0 }) s))

/-- A die is fenced (R208, R210, R254). -/
def fenceDie (ch d reason : Nat) (s : State) : State :=
  if dieFenced s ch d then s
  else trainingLapses ch (settle (curFence ch d (stopDie ch d (noteFence ch d reason s))))

/-- A response from a fenced die (R210): counted, recorded, and captured once since arming. -/
def fencedResponse (ch d : Nat) (s : State) : State :=
  if !dieFenced s ch d then s
  else
    let s := bumpReg (fchPage ch) 0x6C 1 s
    let s := setFence ch d (fun e => { e with responses := satAdd 0xFFFFFFFF e.responses 1, tscResponse := s.tsc }) s
    let s := raiseIrq (fchPage ch) 0x200 s
    if (chan s ch).respCaptured then s
    else capture (fchPage ch) 0x22 (mkPsa (ch / 12) (ch % 12) d 0 0 0 0) (setChan ch (fun c => { c with respCaptured := true }) s)

/-- Distinct blocks of a list within 24 h. -/
def recentBlocks (s : State) (xs : List (Nat × Nat)) : Nat := (((xs.filter fun e => decide (s.tsc ≤ e.2 + 86400 * 10 ^ 9)).map (·.1)).eraseDups).length

/-- A keeper die check (R208, R209): `failed` are the written pages of the 64 that failed their verify. A die that passes stays in service and its failing
blocks are deaccessioned: those of the pages that failed, as verify failures (reason 3; log 149). -/
def keeperCheck (ch d : Nat) (readable : Bool) (failed : List Nat) (s : State) : State :=
  let x := die s ch d
  let failed := failed.filter fun p => psaChannel p == ch && psaDie p == d && (mediaAt s p).isSome
  let fails := !readable || decide (failed.length > 8)
  if dieFenced s ch d then s
  else if !fails then settle (doAll (failingBlock 3) ((failed.map blockOf).eraseDups) s)
  else if recentBlocks s x.statusFails ≥ 4 then fenceDie ch d 2 s
  else if recentBlocks s x.uncorrectable ≥ 8 then fenceDie ch d 3 s
  else s

/-! ## Discovery (R184 to R187) -/

/-- Requirements that do not need the reference geometry (R185): none, or the error captured. -/
def pageFault (p : ParamPage) : Option Nat :=
  if !p.signature || !p.crcOk then some 0x24
  else if (nbits p.rates 5 1) = 0 ∨ p.dataBytes ≠ 16384 ∨ p.spareBytes < 2048 ∨ p.pagesPerBlock > 16384 ∨ p.blocksPerPlane > 16384
      ∨ !([1, 2, 4].contains p.planes) ∨ !([1, 2].contains p.luns) then some 0x25
  else none

/-- The page agrees with the reference geometry. -/
def sameGeometry (g p : ParamPage) : Bool :=
  p.bits == g.bits && p.pagesPerBlock == g.pagesPerBlock && p.blocksPerPlane == g.blocksPerPlane && p.planes == g.planes && p.luns == g.luns

/-- Rates that every admitted, unfenced die of a channel lists, as a mask. -/
def commonRates (s : State) (ch : Nat) : Nat :=
  (liveDiesOf s ch).foldl (fun m d => m &&& (((die s ch d).page.map (·.rates)).getD 0)) 0x3E

/-- The capture of a die that is not admitted. -/
def refuseDie (a : DieAnswer) (code : Nat) (s : State) : State :=
  capture (fchPage a.channel) code (mkPsa (a.channel / 12) (a.channel % 12) a.die 0 0 0 0) s

/-- The identity of a die that a qualification readmitted differs from its fence record (R208 reason 4). A parameter page without a correct copy has not
been read, so only the unique ID is compared then (log 149). -/
def identityDiffers (e : FenceEntry) (a : DieAnswer) : Bool :=
  e.state == 2 && ((a.page.signature && a.page.crcOk && e.page != some a.page) || e.uid != a.uid)

/-- A die position that does not exist: LUN 1 of a target of one LUN (R181). -/
def DieAnswer.absent (a : DieAnswer) : Bool := a.die % 2 == 1 && a.page.luns == 1

/-- Admits one die, or leaves it unused (R185, R187). -/
def admitIt (a : DieAnswer) (s : State) : State :=
    match pageFault a.page with
    | some code => refuseDie a code s
    | none =>
      if ((liveDiesOf s a.channel) != []) && commonRates s a.channel &&& a.page.rates == 0 then refuseDie a 0x25 s
      else if (s.flash.geometry.map fun g => sameGeometry g a.page) ≠ some true then refuseDie a 0x25 s
      else setDie a.channel a.die (fun x => { x with page := some a.page, uid := a.uid, admitted := true }) s

/-- One die of a discovery: a fenced one is left alone; a readmitted one whose identity has changed is fenced again, whether or not it meets the requirements
(R187, R208 reason 4). -/
def admitDie (a : DieAnswer) (s : State) : State :=
  if dieFenced s a.channel a.die || a.absent then s
  else
    let s := admitIt a s
    if (fenceOf s a.channel a.die).any fun e => identityDiffers e a then fenceDie a.channel a.die 4 s else s

/-- The answers of a wing in order of channel and die. -/
def inOrder (answers : List DieAnswer) : List DieAnswer := sortBy (fun a => a.channel * 16 + a.die) answers

/-- Steps 5 and 6: the dies are admitted and each channel with one trains. -/
def admitWing (w : Nat) (answers : List DieAnswer) (s : State) : State :=
  let s := doAll admitDie (inOrder answers) s
  let s := doAll (fun ch s => if (chan s ch).command.any (fun k => k.1 == 3) then s else setChan ch (fun c => { c with
    lost := false, cap := regField s (fchPage ch) 0x40 2 0,
    state := if (liveDiesOf s ch).isEmpty then (if (hdr s (fchPage ch)).fenced then 5 else 0) else 1 }) s) (chansOf w) s
  checkDiscovery w (setFlash (fun f => { f with discovering := Tab.set f.discovering w [] }) s)

/-- No reference: every wing's discovery ends, no die is used (R186). -/
def noReference (s : State) : State :=
  let ws := s.flash.discovering.map Prod.fst
  let s := doAll (fun w s => doAll (fun ch s => raiseIrq (fchPage ch) 0x1000 (setChan ch (fun c => { c with state := 0 }) s)) (chansOf w) s) ws s
  let s := setFlash (fun f => { f with discovering := [] }) s
  capture 32 0x20 (pageAddr 32 0x40) (doAll (fun w s => raiseIrq (32 + w) 0x100 s) ws s)

/-- Discovery of a wing starts (R184, R186). -/
def startDiscovery (w : Nat) (answers : List DieAnswer) (s : State) : State :=
  if Tab.has s.flash.discovering w || decide (w ≥ (variant s).wings) then s
  else
    let mine := answers.filter fun a => a.channel / 12 == w && decide (a.die < 16) && !a.absent
    let s := doAll (fun ch s => if (chan s ch).command.any (fun k => k.1 == 3) then s else setChan ch (fun c => { c with
      state := 2, rate := 0, fails := 0,
      dies := Tab.mapVals c.dies fun _ x => { x with admitted := false } }) s) (chansOf w) s
    let s := setFlash (fun f => { f with discovering := Tab.set f.discovering w mine }) s
    if s.flash.geometry.isSome then admitWing w mine s
    else if w ≠ 0 then s
    else
      match (inOrder mine).find? fun a => !dieFenced s a.channel a.die && (pageFault a.page).isNone with
      | none => noReference s
      | some a => admitWing 0 mine (setFlash (fun f => { f with geometry := some a.page }) s)

/-- Wings whose admission was held go on once the reference is known (R186). -/
def referenceFound (s : State) : State :=
  if s.flash.geometry.isNone then s
  else doAll (fun (e : Nat × List DieAnswer) s => 
    if (chansOf e.1).any fun ch => (chan s ch).state == 2 then admitWing e.1 e.2 s else s) s.flash.discovering s

/-! ## Training (R180 to R183) -/

/-- The highest rate of a mask at or below the cap, else the lowest rate of it. -/
def rateOf (mask cap : Nat) : Nat × Bool :=
  match ((upTo 6).reverse.filter fun r => mask.testBit r && decide (1 ≤ r)).find? fun r => decide (r ≤ cap) with
  | some r => (r, true)
  | none => ((((upTo 6).filter fun r => mask.testBit r && decide (1 ≤ r)).head?).getD 0, false)

/-- Rates that the fence records of a channel's present dies all list (R216). -/
def recordRates (s : State) (ch : Nat) : Nat :=
  ((s.flash.fences.filter fun e => e.channel == ch && diePresent s ch e.die).map fun e => (e.page.map (·.rates)).getD 0x3E).foldl (· &&& ·) 0x3E

/-- Hottest sensor of a wing. -/
def wingTemp (s : State) (ch : Nat) : Nat := (Tab.getD s.care.sensors (3 + ch / 12) {}).temp

/-- A channel fenced under R183: the third training failure in a row. -/
def fenceChannel (ch : Nat) (s : State) : State :=
  let s := setChan ch (fun c => { c with state := 5, rate := 0 }) s
  let s := doAll (fun d s => fenceDie ch d 6 s) ((upTo 16).filter fun d => diePresent s ch d) s
  raiseIrq (32 + ch / 12) 0x200 (setFenced (fchPage ch) true s)

/-- Ends a die command (R219). -/
def endCommand (ch cmd result : Nat) (s : State) : State :=
  let s := setChan ch (fun c => { c with command := none, lastCmd := cmd, lastResult := result }) s
  raiseIrq (fchPage ch) 0x800 (putField (fchPage ch) 0x50 31 31 0 s)

/-- A training ends well: the channel runs at the highest rate of a mask at or below the cap that was in force when it started, else at the lowest one, with a
capture (R180, R219). Operations that were held for it go (R617). -/
def trained (ch mask : Nat) (s : State) : State :=
  let (r, within) := rateOf mask (chan s ch).cap
  let s := if within then s else capture (fchPage ch) 0x28 (pageAddr (fchPage ch) 0x40) s
  let s := putField (fchPage ch) 0x40 8 8 0 (setChan ch (fun c => { c with
    rate := r, state := 3, fails := 0, lost := false, trainedAt := s.tsc, trainedTemp := wingTemp s ch }) s)
  if s.pwr.pfailN then sendAborted (· == ch) s else s

/-- A channel's training ends (R182, R183, R216). -/
def trainingDone (ch : Nat) (ok : Bool) (s : State) : State :=
  let c := chan s ch
  match c.command with
  | some (3, _, _) =>
    if ok && recordRates s ch != 0 then
      checkDiscovery (ch / 12) (endCommand ch 3 0 (setFenced (fchPage ch) false (trained ch (recordRates s ch) s)))
    else if c.qualTries ≤ 1 then
      checkDiscovery (ch / 12) (endCommand ch 3 3 (capture (fchPage ch) 0x26 (pageAddr (fchPage ch) 0x50)
        (raiseIrq (fchPage ch) 0x400 (setChan ch (fun c => { c with state := 5, rate := 0, qualTries := 0 }) s))))
    else raiseIrq (fchPage ch) 0x400 (setChan ch (fun c => { c with qualTries := c.qualTries - 1 }) s)
  | _ =>
    if (c.state ≠ 1 ∧ c.state ≠ 4) ∨ (liveDiesOf s ch).isEmpty then s
    else if ok then checkDiscovery (ch / 12) (trained ch (commonRates s ch) s)
    else
      let s := raiseIrq (fchPage ch) 0x400 s
      if c.fails ≥ 2 then checkDiscovery (ch / 12) (putField (fchPage ch) 0x40 8 8 0 (fenceChannel ch s))
      else capture (fchPage ch) 0x20 (pageAddr (fchPage ch) 0x44) (setChan ch (fun c => { c with fails := c.fails + 1 }) s)

/-- FCH_CFG (R219): the cap, and the retrain of a running channel with a die to train (R180). -/
def fchCfgWrite (ch : Nat) (v : Word) (s : State) : State :=
  let cap := bits v 2 0
  let s := if cap = 0 ∨ cap > 5 then capture (fchPage ch) 0x28 (pageAddr (fchPage ch) 0x40) s else putField (fchPage ch) 0x40 2 0 cap s
  if bit v 8 && decide ((chan s ch).state = 3) && !(liveDiesOf s ch).isEmpty then
    putField (fchPage ch) 0x40 8 8 1 (setChan ch (fun c => { c with state := 4, cap := regField s (fchPage ch) 0x40 2 0 }) s) else s

/-- FCH_TMO (R219). -/
def fchTmoWrite (ch : Nat) (v : Word) (s : State) : State :=
  if bits v 15 0 < 5 ∨ bits v 15 0 > 1000 then capture (fchPage ch) 0x28 (pageAddr (fchPage ch) 0x58) s
  else putReg (fchPage ch) 0x58 (word (bits v 15 0)) s

/-! ## Die commands (R212 to R216, R219) -/

/-- A refusal: FCH_DIE_STAT shows it and 0x27 is captured. -/
def refuseCommand (ch cmd result : Nat) (s : State) : State :=
  endCommand ch cmd result (capture (fchPage ch) 0x27 (pageAddr (fchPage ch) 0x50) s)

/-- Command 4: the die is present and fenced, without rebuild and without a log entry. -/
def restoreFence (ch d : Nat) (s : State) : State :=
  trainingLapses ch (settle (stopDie ch d s))

/-- A write of FCH_DIE_CTRL. -/
def dieCtrlWrite (ch : Nat) (v : Word) (s : State) : State :=
  let page := fchPage ch
  let d := bits v 3 0
  let cmd := bits v 11 8
  if (chan s ch).command.isSome then capture page 0x27 (pageAddr page 0x50) s
  else
    let s := putReg page 0x50 (v &&& 0x00FF0F0F) s
    if !bit v 31 then s
    else if cmd = 0 then endCommand ch 0 0 s
    else if cmd = 1 then
      if !diePresent s ch d then refuseCommand ch 1 7 s else endCommand ch 1 0 (fenceDie ch d 5 s)
    else if cmd = 2 then
      if !dieFenced s ch d then refuseCommand ch 2 1 s
      else if ((fenceOf s ch d).map fun e => decide (e.quals ≥ 2)) = some true then refuseCommand ch 2 5 s
      else if (hdr s page).fenced then refuseCommand ch 2 6 s
      else putField page 0x50 31 31 1 (setFence ch d (fun e => { e with state := 1 }) (setChan ch (fun c => { c with command := some (2, d, bits v 23 16), cap := regField s page 0x40 2 0 }) s))
    else if cmd = 3 then
      if !(hdr s page).fenced then refuseCommand ch 3 1 s
      else putField page 0x50 31 31 1 (setChan ch (fun c => { c with command := some (3, d, 0), qualTries := 3, state := 1, cap := regField s page 0x40 2 0 }) s)
    else if cmd = 4 then endCommand ch 4 0 (restoreFence ch d s)
    else capture page 0x27 (pageAddr page 0x50) s

/-- The channel is not running because every present die of it is fenced: a qualification trains it with its die alone (R213). -/
def trainsAlone (s : State) (ch : Nat) : Bool := (chan s ch).state != 3 && (liveDiesOf s ch).isEmpty

/-- The result of a qualification (R213): the requirements of R185 include a rate in common with the channel's other dies. -/
def qualResult (s : State) (ch d : Nat) (t : DieTest) : Nat :=
  let recorded := match fenceOf s ch d with
    | some e => e.page == some t.page && e.uid == t.uid
    | none => true
  if !recorded then 2
  else if (pageFault t.page).isSome || (s.flash.geometry.map fun g => sameGeometry g t.page) ≠ some true then 3
  else if !(liveDiesOf s ch).isEmpty && commonRates s ch &&& t.page.rates == 0 then 3
  else if trainsAlone s ch && !t.trained then 3
  else if !t.passed then 3 else 0

/-- A die is readmitted with no valid data: its blocks join the wing's reserve (R213). Its old contents are never read: what the map still names on it goes to its
rebuild first, and no stripe set names its blocks any more. -/
def readmit (ch d : Nat) (t : DieTest) (s : State) : State :=
  let s := doAll (startReloc 1) (gmusOn s fun q => psaChannel q == ch && psaDie q == d) s
  let base := blockKey (mkPsa (ch / 12) (ch % 12) d 0 0 0 0)
  let mine (k : Nat) : Bool := decide (base ≤ k) && decide (k < base + 2 ^ 16)
  let kept := (s.cur.blocks.filter fun e => mine e.1 && e.2.use == .retired).length
  let s := setFlash (fun f => { f with media := Tab.keep f.media (fun k _ => !mine (k / 2 ^ 14)) }) s
  let back (k : Nat) (b : Block) : Block :=
    if mine k && b.use != .retired then { b with use := .free, slc := false, stream := none, pinned := false } else b
  let out (b : Nat) : Nat := if mine (blockKey b) then noPsa else b
  let s := setCur (fun c => { c with
    blocks := Tab.mapVals c.blocks back, sets := Tab.mapVals c.sets fun _ x => { x with blocks := x.blocks.map out, ledger := out x.ledger } }) s
  let solo := trainsAlone s ch
  let s := setChan ch (fun c => { c with fenced := c.fenced.filter (· != d) }) s
  let s := setDie ch d (fun _ => { page := some t.page, uid := t.uid, admitted := true }) s
  let s := if solo then trained ch t.page.rates s else s
  let n := dieBlocks s - kept
  checkReserve (setPool (ch / 12) (fun p => { p with reserve := p.reserve + n, resOn := p.resOn.set (ch % 12) (p.resOn.getD (ch % 12) 0 + n) }) s)

/-- A qualification ends (R213, R219). -/
def qualifyEnd (ch : Nat) (t : DieTest) (s : State) : State :=
  match (chan s ch).command with
  | some (2, d, _) =>
    let r := qualResult s ch d t
    let quals := (((fenceOf s ch d).map (·.quals)).getD 0) + 1
    let s := setFence ch d (fun e => { e with quals := quals, state := if r = 0 then 2 else if quals ≥ 2 then 3 else 0 }) s
    if r = 0 then endCommand ch 2 0 (readmit ch d t s)
    else endCommand ch 2 r (capture (fchPage ch) 0x26 (pageAddr (fchPage ch) 0x50) s)
  | _ => s

/-- A qualification is abandoned (R214). -/
def abandonQualify (ch : Nat) (s : State) : State :=
  match (chan s ch).command with
  | some (2, d, _) => endCommand ch 2 4 (setFence ch d (fun e => { e with state := if e.quals ≥ 2 then 3 else 0 }) s)
  | _ => s

/-! ## Register views (R219, R221) -/

/-- Bits of a list. -/
def maskOf (xs : List Nat) : Nat := ((xs.eraseDups).map fun d => 2 ^ d).foldl (· + ·) 0

def fchStat (s : State) (ch : Nat) : Word :=
  let c := chan s ch
  if c.lost then word (c.state * 16) else
  word (((upTo 16).filter fun d => (die s ch d).admitted).length * 256 + c.state * 16 + c.rate)
def fchPresent (s : State) (ch : Nat) : Word := word (maskOf ((upTo 16).filter fun d => diePresent s ch d && (!(chan s ch).lost || dieFenced s ch d)))
def fchFenced (s : State) (ch : Nat) : Word := word (maskOf (chan s ch).fenced)
def fchDieStat (s : State) (ch : Nat) : Word := word ((chan s ch).lastCmd * 256 + (chan s ch).lastResult)
def wngStat (s : State) (w : Nat) : Word :=
  word (maskOf ((upTo 12).filter fun c => (hdr s (fchPage (12 * w + c))).fenced) * 65536 + maskOf ((upTo 12).filter fun c => (chan s (12 * w + c)).state == 3))
def wngLost (s : State) (w : Nat) : Bool := (chansOf w).any fun ch => (chan s ch).lost
def wngLive (s : State) (w : Nat) : Word := if wngLost s w then 0 else word (wingLiveDies s w % 256)
def wngGeomA (s : State) (w : Nat) : Word :=
  if wngLost s w then 0 else word (geo s (·.bits) * 2 ^ 20 + geo s (·.planes) * 65536 + geo s (·.pagesPerBlock))
def wngGeomB (s : State) (w : Nat) : Word := if wngLost s w then 0 else word (geo s (·.luns) * 65536 + geo s (·.blocksPerPlane))

/-! ## Power failure and re-initialisation of a wing (R203, R214, R616) -/

/-- PFAIL_N goes low. -/
def wingPowerFail (s : State) : State :=
  doAll (fun w s => doAll (fun ch s => abandonQualify ch (chanPowerFail ch s)) (chansOf w) s) (wingsOf s) s

/-- Operations of a channel end with 0x19; the Curator's and the commands' own are kept to be sent again (R616, R617). -/
def endReinit (ch : Nat) (p : ChanOp → Bool) (s : State) : State :=
  endOps ch p 0x19 (keepAborted (((chan s ch).queue.filter p).map fun o => (ch, o)) s)

/-- A wing island is re-initialised (R610, R616): its queued operations complete with 0x19; those that run have until it is ready. The fields of domain I go to
their defaults: the channels are untrained and their dies unknown until a discovery has run again, and training failures are forgotten (R218; log 30). -/
def wingReinit (w : Nat) (s : State) : State :=
  let one (ch : Nat) (s : State) : State :=
    let s := endReinit ch (fun o => !o.started) s
    let s := abandonQualify ch s
    putField (fchPage ch) 0x40 8 8 0 (setChan ch (fun c => { c with
      offsets := [], lastCmd := 0, lastResult := 0, command := none, qualTries := 0, rate := 0, state := 0, fails := 0, lost := true }) s)
  setFlash (fun f => { f with discovering := Tab.del f.discovering w }) (doAll one (chansOf w) s)

/-- The wing reports ready: what still ran has ended with 0x19, and the keeper has reloaded the offset tables (R616). The operations held for its channels
are sent again as each runs again (R617). -/
def wingReady (w : Nat) (s : State) : State :=
  let s := doAll (fun ch s => endReinit ch (fun _ => true) s) (chansOf w) s
  settle (doAll (fun ch s => setChan ch (fun c => { c with offsets := c.offsetCopy }) s) (chansOf w) s)

end Sys2Proof.Machine
end

