-- ==== Sys2Proof/Machine/Durable.lean ====
section
/-! DEFINITION. The Curator's durable state: hold-up measurement and budget, dumps, and recovery (chapter 06). -/

namespace Sys2Proof.Machine

/-- Changes the hold-up state. -/
def setHu (f : HoldUp → HoldUp) (s : State) : State := setCur (fun c => { c with holdup := f c.holdup }) s

/-! ## Hold-up (R269 to R273, R632) -/

/-- Bytes of the write buffer: 1 GiB of the working area, and the DRAM that map and subsystem local memory leave (R229, R419). -/
def slmBytes (s : State) : Nat := (s.adm.namespaces.map fun e => if e.2.csi = 3 then e.2.nsze else 0).foldl (· + ·) 0
def writeBufferBytes (s : State) : Nat := 2 ^ 30 + (installedBytes s - mapSegments s * 65536 - 8 * 2 ^ 30 - slmBytes s)

/-- R_dump in bytes per second (R271). -/
def dumpRate (s : State) : Nat :=
  let chans := ((wingsOf s).flatMap chansOf).filter fun ch => (chan s ch).rate != 0 && !(liveDiesOf s ch).isEmpty
  let byChan := chans.length * 4000000000
  if s.flash.tProgSlc = 0 then byChan
  else min byChan (liveDies s * geo s (·.planes) * 16384 * 10 ^ 9 / s.flash.tProgSlc)

/-- T_hold in ns from a capacitance in µF and a voltage in mV. -/
def holdTime (s : State) (uf mv : Nat) : Nat :=
  let dv := mv * mv - s.boot.vMin * s.boot.vMin
  if s.boot.pDump = 0 then 600000000 else min 600000000 (uf * dv * s.boot.efficiency * 4 / (10000000 * s.boot.pDump))

/-- The bytes a dump may hold (R271). -/
def budgetOf (s : State) (uf mv : Nat) : Nat := (holdTime s uf mv - 2000000) * dumpRate s / 10 ^ 9

/-- The blocks of a dump set in a wing, spread over its live dies: a die takes another once every die has as many (R256, R274). -/
def dumpBlocks (w : Nat) : Nat → List Nat → State → List Nat × State
  | 0, bs, s => (bs, s)
  | n + 1, bs, s =>
    let on (ch d : Nat) : Nat := (bs.filter fun b => psaChannel b == ch && psaDie b == d).length
    let least := ((chansOf w).flatMap fun ch => (liveDiesOf s ch).map (on ch)).foldl min bs.length
    let (f, s) := match allocBlock (chansOf w) .dump (fun ch d => on ch d == least) false s with
      | (some b, s) => (some b, s)
      | (none, s) => allocBlock (chansOf w) .dump (fun _ _ => true) false s
    match f with
    | none => (bs, s)
    | some b => dumpBlocks w n (bs ++ [b]) (useBlock b (.dump 0) true .dump s)

/-- A dump set for `size` bytes with its descriptors and a journal tail of 4 MiB, shared among the wings (R274, R275). -/
def newDumpSet (k id size : Nat) (s : State) : DumpSet × State :=
  let ws := (wingsOf s).filter fun w => decide (0 < wingLiveDies s w)
  let bytes := ceilDiv (size + size / 32 + 2 ^ 22) (max 1 ws.length)
  let n := ceilDiv bytes (max 1 (geo s (·.pagesPerBlock) * 16384))
  let (bs, s) := ws.foldl (fun (a : List Nat × State) w => let (b, s) := dumpBlocks w n [] a.2; (a.1 ++ b, s)) (([] : List Nat), s)
  ({ id := id, blocks := bs }, doAll (fun b s => useBlock b (.dump k) true .dump s) bs s)

/-- The dump sets are sized at format from the declared capacitance, and set A is armed (R274). -/
def sizeDumpSets (s : State) : State :=
  if s.cur.dumpSets.size ≠ 0 then s
  else
    let size := budgetOf s s.boot.capacitance s.boot.voltage
    let (a, s) := newDumpSet 0 (s.cur.dumpSets.b.id + 1) size s
    let (b, s) := newDumpSet 1 (s.cur.dumpSets.b.id + 2) size s
    setCur (fun c => { c with dumpSets := { c.dumpSets with size := size, a := a, b := b, armed := some 0 } }) s

/-- The first format of the device ends with its last wing: the dump sets are sized (R274), and the first directory copy and root record are written. -/
def formatDone (s : State) : State :=
  if (wingsOf s).all (fun w => (pool s w).formatted) && s.cur.dirs.isEmpty && s.cur.roots.isEmpty then rootNow (journalAdvance (sizeDumpSets s)) else s

/-- A measurement may start. -/
def startMeasure (s : State) : State :=
  if s.cur.holdup.measuring || !s.cur.holdup.charged || !s.pwr.pfailN then s
  else setHu (fun h => { h with measuring := true }) (advanceTo s.cur.holdup.due s)

/-- A new budget takes effect at once (R271 to R273). -/
def newBudget (b : Nat) (s : State) : State :=
  let s := onlyIf (decide (b ≠ s.cur.holdup.budget)) (raiseIrq 160 0x200) s
  let low := decide (b < regField s 160 0xA0 15 0 * 2 ^ 20)
  let was := s.cur.holdup.low
  let s := setRoCondition (fun c => { c with holdup := { c.holdup with budget := b, valid := true, low := low } }) s
  if low && !was then healthEvent 4 0x04 s else s

/-- The capacitor health test after a measurement. -/
def capacitorHealth (s : State) : State :=
  let h := s.cur.holdup
  let s := { s with care := { s.care with counts := { s.care.counts with measurements := s.care.counts.measurements + 1 } } }
  if h.firstMeas = 0 then setHu (fun h => { h with firstMeas := h.cMeas }) s
  else if h.cMeas * 100 < h.firstMeas * 80 ∧ !s.care.aging then raiseIrq 176 0x800 { s with care := { s.care with aging := true } }
  else s

/-- A measurement ends: samples of HOLDUP_SENSE before and after, in converter steps (R270, R271, R632). -/
def endMeasure (before after : Nat) (s : State) : State :=
  if !s.cur.holdup.measuring then s
  else
    let s := setHu (fun h => { h with measuring := false }) (advanceTo (s.tsc + 5000000) s)
    if before ≤ after then capture 160 0x27 (pageAddr 160 0x98) (setHu (fun h => { h with due := s.tsc + 10 * 10 ^ 9 }) s)
    else
      let uf := 5 * s.boot.iTest * 655360 / (192 * (before - after))
      let mv := before * 19200 / 65536
      let s := setHu (fun h => { h with
        shown := uf, cMeas := uf, vc := mv, tsc := s.tsc, rDump := dumpRate s, measurements := h.measurements + 1,
        due := s.tsc + regField s 160 0x9C 15 8 * 3600 * 10 ^ 9 }) s
      let b := min (budgetOf s uf mv) (min s.cur.dumpSets.size (writeBufferBytes s))
      capacitorHealth (newBudget b s)

/-- The bank has reached 95%: the first measurement follows within 2 s (R270). -/
def bankCharged (s : State) : State :=
  if s.cur.holdup.charged then s else setHu (fun h => { h with charged := true, due := s.tsc }) s

/-- The bank has not reached 95% within 120 s (R273). -/
def bankTimeout (s : State) : State :=
  if s.cur.holdup.charged || s.cur.holdup.low then s
  else healthEvent 4 0x04 (setRoCondition (fun c => { c with holdup := { c.holdup with low := true } }) s)

/-! ## Dumps (R274 to R277, R285) -/

/-- A descriptor (R275). -/
def dumpDesc (nsid mu : Nat) (raw : Bool) (last seq mask len : Nat) : List Byte :=
  let head := leBytes 4 nsid ++ leBytes 5 mu ++ leBytes 1 (flag raw * 64 + last * 4) ++ zeros 2 ++ leBytes 8 seq ++ leBytes 4 mask ++ leBytes 4 len
  head ++ leBytes 4 (crc32c head)

/-- How a charged MU is dumped (R275): its stored form where it is whole, else raw and whole with its valid mask; with mask 0 where its bytes in DRAM are
poisoned (R512). -/
def dumpEntry (s : State) (e : WbEntry) : List Byte × List Byte :=
  let whole := e.valid == 2 ^ ((nsOf s e.nsid).map blocksPerMu).getD 4 - 1
  if bufferPoisoned s e then (dumpDesc e.nsid e.mu true 15 e.seq 0 16384, zeros 16384)
  else
    match e.stored, whole with
    | some (n, raw, bytes), true => (dumpDesc e.nsid e.mu raw (n - 1) e.seq 0xFFFFFFFF (1024 * n), padTo (1024 * n) bytes)
    | _, _ => (dumpDesc e.nsid e.mu true 15 e.seq (if whole then 0xFFFFFFFF else e.valid) 16384, padTo 16384 e.data)

/-- What a dump holds, in write sequence order: every charged MU that no unconsumed dump holds, and, with length 0, every MU deallocated while an older form of
it is still charged (R275, R285). -/
def dumpItems (s : State) : List (List Byte × List Byte) :=
  let held := !s.cur.dumpSets.live.isEmpty
  let es := (s.cur.wb.map Prod.snd).filter fun e => e.reloc.isNone && !(e.fromDump && held)
  let gone := es.filter fun e => !e.current s && entryState (mapEntry s e.gmu) == 2
  let gone := gone.foldl (fun (a : Tab WbEntry) e => Tab.set a e.gmu e) []
  let items := es.map (fun e => (e.seq, dumpEntry s e))
    ++ gone.map fun x => (Tab.getD s.cur.seqs x.1 0, dumpDesc x.2.nsid x.2.mu false 0 (Tab.getD s.cur.seqs x.1 0) 0xFFFFFFFF 0, ([] : List Byte))
  (sortBy (fun x => x.1) items).map Prod.snd

/-- The journal tail as a dump holds it: journal pages that link to none. -/
def tailBytes (s : State) : List Byte :=
  ((chunks 127 s.cur.tail).mapIdx fun k rs => journalBytes { seq := s.cur.nextJSeq + k, next := noPsa, nextMirror := noPsa, records := rs }).flatten

/-- A dump's bytes: the journal tail, the MUs after their descriptors, and the end record with the dump's number, the number of MUs and the CRC of all descriptors. -/
def dumpStream (s : State) : List Byte :=
  let items := dumpItems s
  tailBytes s ++ (items.flatMap fun x => x.1 ++ x.2)
    ++ padTo 32 (ascii "QEND" ++ leBytes 4 (crc32c (items.flatMap Prod.fst)) ++ leBytes 8 s.cur.dumpSets.next ++ leBytes 8 items.length)

/-- A dump starts: fetching has stopped; the engine writes to the armed set. -/
def startDump (ofReset : Bool) (s : State) : State :=
  { setCur (fun c => { c with dumping := some (s.tsc, ofReset) }) s with pwr := { s.pwr with dumpAct := true } }

/-- The set that a dump goes to: the armed one; while none is armed, the one that is erased, else the one that holds the unconsumed dump (R285). -/
def dumpTarget (s : State) : Nat :=
  match s.cur.dumpSets.armed with
  | some k => k
  | none => if (dumpSetOf s (1 - newestDumpSet s)).dirty.isEmpty then 1 - newestDumpSet s else newestDumpSet s

/-- The blocks of a dump set on dies that take part in a dump: live, not excluded, on a channel that is trained (R203, R204). -/
def dumpReady (s : State) (k : Nat) : List Nat :=
  (dumpSetOf s k).blocks.filter fun b =>
    let c := chan s (psaChannel b)
    !psaFenced s b && c.state == 3 && !c.lost && !(die s (psaChannel b) (psaDie b)).noDump

/-- Pages of a block that are programmed. -/
def pagesUsed (s : State) (b : Nat) : Nat := (s.flash.media.filter fun e => e.1 / 2 ^ 14 == blockKey b).foldl (fun m e => max m (e.1 % 2 ^ 14 + 1)) 0

/-- Writes the dump in pages of kind 3 across the blocks of its set, at most `limit` of them (R275); each block of the set takes one cycle (R276). Answers
whether all of it is there, and its bytes. -/
def writeDump (limit : Option Nat) (s : State) : Nat × State :=
  let k := dumpTarget s
  let q := s.cur.dumpSets.next
  let stream := dumpStream s
  let blocks := dumpReady s k
  let base := (blocks.map (pagesUsed s)).foldl max 0
  let room := (geo s (·.pagesPerBlock) - base) * blocks.length
  let pages := (chunks 16384 stream).take (min room (limit.getD stream.length))
  let s := doAll (fun (x : Nat × List Byte) s =>
    putPage (pageIn (blocks.getD (x.1 % blocks.length) noPsa) (base + x.1 / blocks.length)) 3 x.1 q true x.2 s) (pages.mapIdx fun i p => (i, p)) s
  let s := setDumpSet k (fun d => { d with cycles := d.cycles + 1, dirty := d.blocks }) s
  (stream.length, setCur (fun c => { c with dumpSets := { c.dumpSets with
    armed := none, erasing := none, resume := false, next := q + 1, live := c.dumpSets.live ++ [(q, k)], consuming := [] } }) s)

/-- The end record is programmed (R275, R278). -/
def finishDump (s : State) : State :=
  match s.cur.dumping with
  | none => s
  | some (t0, _) =>
    let (bytes, s) := writeDump none s
    let s := setCur (fun c => { c with dumping := none }) s
    let s := setHu (fun h => { h with dumps := h.dumps + 1, lastBytes := bytes, lastDumpUs := (s.tsc - t0) / 1000 }) s
    { s with pwr := { s.pwr with dumpAct := false } }

/-- The core power goes while a dump runs: some of its pages are there, no end record (R275). -/
def cutDump (s : State) : State :=
  match s.cur.dumping with
  | none => s
  | some _ =>
    let (n, s) := draw s
    setCur (fun c => { c with dumping := none }) (writeDump (some (n % ceilDiv (dumpStream s).length 16384)) s).2

/-- Marks the dumps consumed: once the records that say so are durable, the other set is erased and armed (R277, R285). -/
def consumeDumps (s : State) : State :=
  let ds := s.cur.dumpSets.live
  let s := doAll (fun (d : Nat × Nat) s => journal (.dump 2 d.1 d.2) s) ds s
  setCur (fun c => { c with dumpSets := { c.dumpSets with consuming := ds.map Prod.fst } }) s

/-- Power is back when a dump ends: the device goes on from DRAM (R277). Fetching resumes once a set is armed. -/
def resumeFromDip (s : State) : State :=
  let s := setHu (fun h => { h with dips := h.dips + 1 }) s
  let s := { s with dram := { s.dram with stopped := false }, cmp := { s.cmp with stopped := false } }
  let s := setCur (fun c => { c with
    wb := Tab.mapVals c.wb fun _ e => { e with compressing := false }, dumpSets := { c.dumpSets with resume := true, erasing := none } }) s
  let s := doAll (fun w s => doAll (fun ch s => setChan ch (fun c => { c with dies := Tab.mapVals c.dies fun _ d => { d with noDump := false } }) s)
    (chansOf w) s) (wingsOf s) s
  let s := settle (rerunAborted s)
  if s.cur.dumpSets.live.isEmpty then
    (if s.cur.dumpSets.armed.isSome then setAcc (fun a => { a with stopPower := false }) (setCur (fun c => { c with dumpSets := { c.dumpSets with resume := false } }) s)
     else armOther s)
  else consumeDumps s

/-- A dump is consumed once every MU placed from it is programmed with its parity, and the journal records are durable (R285). -/
def dumpConsumed (s : State) : State :=
  if s.cur.dumpSets.live.isEmpty || !s.cur.dumpSets.consuming.isEmpty || !s.cur.mediaReady || s.cur.wb.any (fun e => e.2.fromDump) || !s.cur.tail.isEmpty
    || s.cur.dumping.isSome then s
  else consumeDumps s

/-- PFAIL_N goes low (R203, R270, R275, R352, R522): the dump starts, or goes on as the power-fail dump (R609). -/
def powerFails (s : State) : State :=
  let gated := (wingsOf s).map Island.wing ++ ((upTo (variant s).dram).map Island.dram) ++ [Island.accession]
  let s := onlyIf (decide (s.pwr.ps = 3)) (doAll (fun i s => setIsl i (fun h => { h with power := if h.power = 3 then 2 else h.power }) s) gated) s
  let s := setAcc (fun a => { a with stopPower := true }) s
  let s := cmpPowerFail (settle (wingPowerFail s))
  let s := doAll (fun n s => setHdr (240 + n) (fun h => { h with quiesceReq := false, quiesced := false }) s) (upTo (variant s).dram) s
  let s := { s with dram := { s.dram with stopped := true } }
  match s.cur.dumping with
  | some (t, _) => setCur (fun c => { c with dumping := some (t, false) }) s
  | none => if s.cur.mediaReady then startDump false s else s

/-- The PFAIL_N pin goes low for a time (R626); before the start-up sequence, and in PS4, nothing is there to dump. -/
def pfailLow (lowNs : Nat) (s : State) : State :=
  if lowNs < 50 ∨ !s.pwr.pfailN then s
  else
    let s := setHu (fun h => { h with measuring := false }) { s with pwr := { s.pwr with pfailN := false } }
    if s.pwr.on && s.pwr.started && s.pwr.ps != 4 then powerFails s else s

/-- Dies that are not ready 20 µs after PFAIL_N went low, and those of channels that are not trained then, take no part in the dump (R204). -/
def dumpCutoff (notReady : List (Nat × Nat)) (s : State) : State :=
  let out (x : Nat × Nat) (s : State) : State := setDie x.1 x.2 (fun d => { d with noDump := true }) s
  let untrained := ((wingsOf s).flatMap chansOf).filter fun ch => (chan s ch).state != 3 || (chan s ch).lost
  if s.cur.dumping.isNone then s
  else doAll out (untrained.flatMap fun ch => (liveDiesOf s ch).map fun d => (ch, d)) (doAll out notReady s)

/-- A power-fail dump ends; with PFAIL_N high again the device goes on (R277), unless a reset waits for the dump (R609). -/
def dumpEnds (s : State) : State :=
  match s.cur.dumping with
  | some (_, false) =>
    let s := finishDump s
    if s.pwr.pfailN && s.pwr.resetDump.isNone then resumeFromDip s else s
  | some (_, true) => s
  | none => s

/-- PFAIL_N goes high: during a dump it waits for its end, after it the device goes on (R277; log 32). -/
def pfailHigh (s : State) : State :=
  let s := { s with pwr := { s.pwr with pfailN := true } }
  if s.acc.stopPower && s.cur.dumping.isNone && s.pwr.resetDump.isNone && s.pwr.on && s.pwr.started then resumeFromDip s else s

/-! ## Reading a dump again (R275) -/

/-- The sequence numbers of the dumps in a set, rising. -/
def dumpSeqs (s : State) (bad : List Nat) (k : Nat) : List Nat :=
  let pages := (dumpSetOf s k).blocks.flatMap fun b => (s.flash.media.filter fun e => e.1 / 2 ^ 14 == blockKey b).map fun e => e.1 * 2 ^ 7
  ((pages.filterMap fun p => systemAt s bad 3 p).foldl (fun (a : Tab Nat) x => Tab.set a (oobSeq x.2) 0) []).keys

/-- The pages of a dump by their number: its bytes, none for one with a codeword that does not read. -/
def dumpPages (s : State) (bad : List Nat) (k q : Nat) : Tab (Option (List Byte)) :=
  let pages := (dumpSetOf s k).blocks.flatMap fun b => (s.flash.media.filter fun e => e.1 / 2 ^ 14 == blockKey b).map fun e => e.1 * 2 ^ 7
  pages.foldl (fun a p =>
    match (upTo 4).findSome? fun c => (systemAt s bad 3 (p + 4 * c)).filter fun x => oobSeq x.2 == q with
    | none => a
    | some x => Tab.set a (oobMu x.2) ((allSome ((upTo 4).map fun c => systemAt s bad 3 (p + 4 * c))).map fun xs => xs.flatMap (·.1))) []

/-- `n` bytes of a dump from a place on; none where one of their pages is missing. -/
def dumpAt (ps : Tab (Option (List Byte))) (o n : Nat) : Option (List Byte) :=
  let first := o / 16384
  (allSome ((upTo ((o + n + 16383) / 16384 - first)).map fun k => (Tab.get? ps (first + k)).join)).map fun xs => sliceBytes xs.flatten (o % 16384) n

/-- A descriptor whose CRC is right. -/
def descOf (b : List Byte) : Option DumpMu :=
  if leAt b 28 4 == crc32c (b.take 28) then
    some { nsid := leAt b 0 4, mu := leAt b 4 5, raw := leAt b 9 1 / 64 % 2 == 1, last := leAt b 9 1 / 4 % 16, seq := leAt b 12 8, mask := leAt b 20 4,
           bytes := zeros (leAt b 24 4) }
  else none

/-- The descriptors and MUs of a dump from a place on; a place without a valid descriptor is passed over. Ends at the end record. -/
def dumpMus (ps : Tab (Option (List Byte))) (q : Nat) : Nat → Nat → List Byte → List DumpMu → List DumpMu × Bool
  | 0, _, _, mus => (mus, false)
  | fuel + 1, o, descs, mus =>
    match dumpAt ps o 32 with
    | none => dumpMus ps q fuel (o + 32) descs mus
    | some b =>
      if sliceBytes b 0 4 == ascii "QEND" && leAt b 8 8 == q then
        (mus, leAt b 4 4 == crc32c descs && leAt b 16 8 == mus.length)
      else
        match descOf b with
        | none => dumpMus ps q fuel (o + 32) descs mus
        | some m =>
          let n := m.bytes.length
          dumpMus ps q fuel (o + 32 + n) (descs ++ b) (match dumpAt ps (o + 32) n with
            | some d => mus ++ [{ m with bytes := d }]
            | none => mus)

/-- The journal pages at the head of a dump, and where they end. -/
def dumpTail (ps : Tab (Option (List Byte))) : Nat → Nat → List (Nat × List JRec) → List (Nat × List JRec) × Nat
  | 0, o, t => (t, o)
  | fuel + 1, o, t =>
    match (dumpAt ps o 4096).bind journalOf with
    | some p => dumpTail ps fuel (o + 4096) (t ++ [(p.seq, p.records)])
    | none => (t, o)

/-- A dump as recovery reads it. -/
def readDump (s : State) (bad : List Nat) (k q : Nat) : Dump :=
  let ps := dumpPages s bad k q
  let pages := ps.foldl (fun m e => max m (e.1 + 1)) 0
  let (tail, o) := dumpTail ps (4 * pages) 0 []
  let (mus, complete) := dumpMus ps q (512 * pages) o [] []
  { seq := q, set := k, tail := tail, mus := mus, complete := complete }

/-! ## Recovery (R282 to R286) -/

/-- g1 is a later generation than g2 (R246). -/
def genLater (g1 g2 : Nat) : Bool := let d := (g1 + 256 - g2 % 256) % 256; decide (1 ≤ d) && decide (d ≤ 127)

/-- The sequence number and the generation recovery knows of a GMU. -/
def seenOf (s : State) (seen : Tab (Nat × Nat)) (gmu : Nat) : Nat × Nat :=
  match Tab.get? seen gmu with
  | some x => x
  | none =>
    let e := mapEntry s gmu
    if entryState e = 1 then (oobSeq (startOob s (entryPsa e)), oobGen (startOob s (entryPsa e))) else (0, 0)

/-- accept() of the recovery; a change that the journal does not hold yet is journaled. -/
def accept (journaled : Bool) (g q gen e : Nat) (p : Tab (Nat × Nat) × State) : Tab (Nat × Nat) × State :=
  let (sq, sg) := seenOf p.2 p.1 g
  if q > sq ∨ (q = sq ∧ genLater gen sg) then
    (Tab.set p.1 g (q, gen), onlyIf (!journaled) (journal (.map gen q g e)) (setEntryRaw g e p.2))
  else (Tab.set p.1 g (sq, sg), p.2)

/-- Applies the map records of a journal page; a segment that is assigned anew is unmapped (R226). -/
def replayPage (snapOf : Nat → Nat) (seq : Nat) (records : List JRec) (p : Tab (Nat × Nat) × State) : Tab (Nat × Nat) × State :=
  records.foldl (fun p r => match r with
    | .map gen q g e => if seq > snapOf (g / 8192) then accept true g q gen e p else p
    | .nsSegment _ _ m => if m < 2 ^ 40 ∧ seq > snapOf m then (p.1, clearMem (65536 * m) (65536 * (m + 1)) p.2) else p
    | .segment _ _ _ | .block _ _ _ _ | .dump _ _ _ => p) p

/-- The pages of a stripe set that are programmed. -/
def setPages (s : State) (x : StripeSet) : List Nat :=
  ((upTo (x.row + 1)).flatMap fun r => ((upTo 12).filter fun c => x.parityChan r != some c && x.blockAt c r != noPsa).map fun c => pageIn (x.blockAt c r) r).filter
    fun p => (mediaAt s p).isSome

/-- Rolls one page of an open set forward: its codewords that decode, start an MU and carry a valid CRC (R284). -/
def rollPage (bad : List Nat) (p : Tab (Nat × Nat) × State) (psa : Nat) : Tab (Nat × Nat) × State :=
  (upTo 4).foldl (fun (p : Tab (Nat × Nat) × State) c =>
    match codewordAt p.2 bad (pageOf psa + 4 * c) with
    | none => p
    | some (_, o) =>
      if oobStart o && oobKind o == 0 && oobNsid o != 0 then
        match nsOf p.2 (oobNsid o) with
        | none => p
        | some n =>
          if n.segs.length * 8192 ≤ oobMu o then p
          else accept false (gmuOf n (oobMu o)) (oobSeq o) (oobGen o) (mkEntry (oobRaw o) (oobMid o) 1 (pageOf psa + 4 * c + oobFirst o)) p
      else p) p

/-- The map names a row whose parity page was not programmed (R284). -/
def rowUnprotected (s : State) (gmu : Nat) : Bool :=
  let e := mapEntry s gmu
  decide (entryState e = 1) && (match (setOfBlock s (entryPsa e)).bind (stripe s) with
    | some x => !x.released && !x.parityRows.contains (psaPage (entryPsa e))
    | none => false)

/-- Places one dumped MU in the write buffer, when it is newer than what is known (R284, R285): one of length 0 is deallocated, and one with mask 0 cannot be
restored (R512). -/
def placeDumped (p : Tab (Nat × Nat) × State) (m : DumpMu) : Tab (Nat × Nat) × State :=
  match nsOf p.2 m.nsid with
  | none => p
  | some n =>
    let g := gmuOf n m.mu
    let (sq, sg) := seenOf p.2 p.1 g
    if n.segs.length * 8192 ≤ m.mu || !(decide (m.seq > sq) || rowUnprotected p.2 g) then p
    else
      let seen := Tab.set p.1 g (max sq m.seq, if m.seq > sq then 0 else sg)
      let note (e : Nat) (s : State) : State := journal (.map 0 m.seq g e) (setEntryRaw g e (setCur (fun c => { c with seqs := Tab.set c.seqs g m.seq }) s))
      if m.bytes.isEmpty then (seen, note deallocated p.2)
      else if m.mask = 0 then
        let s := setCur (fun c => { c with badMus := g :: c.badMus }) (note wrongEntry p.2)
        (seen, doAll (fun c s => logError c 0xFFFF 0xFFFF (stUnrecovered.sc + stUnrecovered.sct * 256) (m.mu * blocksPerMu n) m.nsid s)
          ((s.acc.ctls.filter fun x => x.2.attached.contains m.nsid).map Prod.fst) s)
      else
        let whole := decide (m.mask = 0xFFFFFFFF)
        let full := 2 ^ blocksPerMu n - 1
        let fresh := !(whole && (!m.raw || !n.compress))
        let i := (Tab.firstFree p.2.cur.wb (p.2.cur.wb.length + 1)).getD 0
        let plain := if m.raw then padTo 16384 m.bytes else (mediaDecode m.bytes m.bytes.length).2
        let e : WbEntry := { nsid := m.nsid, mu := m.mu, gmu := g, data := plain, valid := if whole then full else m.mask, seq := m.seq,
                             charge := if m.raw || !whole then 16 else m.last + 1, addr := bufferBase p.2 + 16384 * i,
                             stored := if fresh then none else some (m.last + 1, m.raw, m.bytes), before := mapEntry p.2 g, fromDump := true }
        let s := setCur (fun c => { c with wb := Tab.set c.wb i e, seqs := Tab.set c.seqs g m.seq }) (cleanBuffer e.addr 16384 p.2)
        (seen, setEntryRaw g (mkEntry false 0 3 i) s)

/-- SLM namespaces read as zeros (R419, R605). -/
def clearSlm (s : State) : State :=
  doAll (fun (e : Nat × Namespace) s => if e.2.csi = 3 then dramZero e.2.slmBase (e.2.slmBase + e.2.nsze) s else s) s.adm.namespaces s

/-- A stripe set of which only its BLOCK records are known. -/
def blankSet (wing : Nat) : StripeSet :=
  { wing := wing, stream := .hostOrdinary, blocks := List.replicate 12 noPsa, state := .open }

/-- What a BLOCK record does to the set and block tables (R281). -/
def blockEvent (t : Tab StripeSet × Tab Block) (event psa n erases : Nat) : Tab StripeSet × Tab Block :=
  let c := psaChan psa
  let leave (sets : Tab StripeSet) : Tab StripeSet :=
    let sets := Tab.adjust sets n fun x => if x.blocks.getD c noPsa = psa then { x with blocks := x.blocks.set c noPsa } else x
    Tab.keep sets fun k x => k != n || x.blocks.any (· != noPsa)
  let use (u : BlockUse) (slc : Bool) : Tab Block := Tab.update t.2 (blockKey psa) {} fun b => { b with use := u, slc := slc, erases := erases, stream := none }
  match event with
  | 1 => (Tab.update t.1 n (blankSet (psaWing psa)) (fun x => { x with blocks := x.blocks.set c psa }), use (.inSet n) false)
  | 2 => (Tab.adjust t.1 n (fun x => { x with state := if x.state == .open then .closed else x.state }), t.2)
  | 3 => (Tab.adjust t.1 n (fun x => { x with state := .verified }), t.2)
  | 4 => (Tab.adjust t.1 n (fun x => { x with released := true }), t.2)
  | 5 => (leave t.1, use .free false)
  | 6 => (leave t.1, use .retired false)
  | 8 => (Tab.adjust t.1 n (fun x => { x with ledger := psa }), use (.ledger n) true)
  | _ => t

/-- The set and block tables after a recovery (R281, R282): those of the directory copy with the BLOCK records after it. What the records do not name of a set or a
block is as it was (log 31). -/
def recoverTables (base : Tab StripeSet × Tab Block) (recs : List JRec) (pages : List Nat) (s : State) : State :=
  let t := recs.foldl (fun t r => match r with
    | .block event psa n erases => blockEvent t event psa n erases
    | .map _ _ _ _ | .segment _ _ _ | .dump _ _ _ | .nsSegment _ _ _ => t) base
  let sets := Tab.mapVals t.1 fun n x =>
    let y := Tab.getD s.cur.sets n x
    { y with state := x.state, blocks := x.blocks, ledger := x.ledger, released := x.released, covered := Tab.keep y.covered fun r _ => y.parityRows.contains r,
             written := [], failed := [], toVerify := [], moved := [], closing := false, victim := false }
  let blocks := Tab.mapVals t.2 fun k b => let y := Tab.getD s.cur.blocks k b; { y with use := b.use, slc := b.slc, erases := b.erases, stream := b.stream }
  let s := setCur (fun c => { c with sets := sets, blocks := blocks }) s
  let s := doAll (fun p s => setBlock p (fun b => { b with use := .journal, slc := true, stream := some .journal }) s) pages s
  let s := doAll (fun k s => doAll (fun p s => setBlock p (fun b => { b with use := .dump k, slc := true, stream := some .dump }) s) (dumpSetOf s k).blocks s) [0, 1] s
  let s := doAll (fun (e : Nat × StripeSet) s => doAll (fun (o : Nat × Nat × Nat) s => setBlock o.2.1 (fun b => { b with use := .inSet e.1, pinned := true }) s) e.2.old s) sets s
  doAll (fun w s => setPool w (fun p => { p with
    short := [], ledgerUsed := (sets.filter fun e => e.2.wing == w && e.2.ledger != noPsa && !e.2.released).length }) s) (wingsOf s) s

/-- Blocks whose erase the loss of power cut off are erased again: Ledger blocks that no unreleased set has, blocks of the journal stream that hold nothing kept. -/
def eraseStray (s : State) : State :=
  let stray (e : Nat × Block) : Bool :=
    match e.2.use with
    | .ledger n => !((stripe s n).any fun x => blockKey x.ledger == e.1 && !x.released) && !psaFenced s (e.1 * 2 ^ 21)
    | .free | .inSet _ | .reserve | .emergency | .journal | .dump _ | .retired | .fencedOut => false
  releaseJournal (doAll (fun e s => eraseBlock (e.1 * 2 ^ 21) s) (s.cur.blocks.filter stray) s)

/-- Loads a segment of the map from its copy; the entries of a page that does not read are wrong. -/
def loadSegment (bad : List Nat) (i psa : Nat) (s : State) : State :=
  let pages := (upTo 4).map (segmentPage s bad psa)
  doAll (fun k s =>
    let e := match pages.getD (k / 2048) none with
      | some b => leAt b (8 * (k % 2048)) 8
      | none => wrongEntry
    if e = 0 then s else setEntryRaw (8192 * i + k) e s) (upTo 8192) s

/-- The dump sets move to new blocks once a root record names them, when one has taken its SLC cycles (R276). -/
def moveDumpSets (s : State) : State :=
  let d := s.cur.dumpSets
  if d.moved.isSome || decide (max d.a.cycles d.b.cycles < s.boot.slcEndurance) || d.size = 0 then s
  else
    let (a, s) := newDumpSet 0 (max d.a.id d.b.id + 1) d.size s
    let (b, s) := newDumpSet 1 (max d.a.id d.b.id + 2) d.size s
    setCur (fun c => { c with dumpSets := { c.dumpSets with moved := some (a, b) } }) s

/-- The map, the tables and the write buffer after a recovery that reaches a directory copy, or none on a device never formatted (R282 to R285). -/
def rebuildState (bad : List Nat) (anchor : Option DirCopy) (s : State) : State :=
  let dir := anchor.map (followDirs s bad (s.flash.media.length + 1))
  let pages := (dir.map fun d => walkJournal s bad (4 * s.flash.media.length + 1) d.start d.startPsa d.startMirror).getD []
  let read := sortBy (fun d => d.seq) ((dumpSeqs s bad 0).map (readDump s bad 0) ++ (dumpSeqs s bad 1).map (readDump s bad 1))
  let known := (dir.map (·.records)).getD [] ++ pages.flatMap fun p => p.1.records
  let consumed := (known ++ read.flatMap fun d => d.tail.flatMap Prod.snd).foldl (fun m r => match r with
    | .dump 2 q _ => max m q
    | .dump _ _ _ | .map _ _ _ _ | .segment _ _ _ | .block _ _ _ _ | .nsSegment _ _ _ => m) 0
  let dumps := read.filter fun d => decide (d.seq > consumed)
  let tails := dumps.flatMap (·.tail)
  let recs := (pages.flatMap fun p => p.1.records) ++ tails.flatMap Prod.snd
  let segs := known.foldl (fun t r => match r with
    | .segment i psa snap => Tab.set t i (psa, snap)
    | .map _ _ _ _ | .block _ _ _ _ | .dump _ _ _ | .nsSegment _ _ _ => t) ([] : Tab (Nat × Nat))
  let kept := s.cur.dirs.find? fun d => some d.seq == dir.map (·.seq)
  let lastPage := pages.getLast?
  let next (f : JPage → Nat) (g : DirCopy → Nat) : Nat :=
    let p := (lastPage.map fun p => f p.1).getD ((dir.map g).getD noPsa)
    if (mediaAt s p).any fun m => (m.oob.getD (psaSlot p / 4) []).length == 32 then noPsa else p
  let nextJ := next (·.next) (·.startPsa)
  let nextM := next (·.nextMirror) (·.startMirror)
  let held := (pages.flatMap fun p => [p.2.1, p.2.2]) ++ (s.cur.dirs.flatMap fun d => d.chain ++ [d.nextPsa, d.nextMirror]) ++ [nextJ, nextM]
  let s := match kept with
    | some k => recoverTables (k.sets, k.blocks) recs (held.filter (· < noPsa)) s
    | none => s
  let s := setCur (fun c => { c with
    wb := [], packing := [], reads := [], writes := [], rebuilds := [], seqs := [], gens := [], badMus := [], journalBad := false,
    tail := (tails.flatMap Prod.snd).filter fun r => match r with
      | .segment _ _ _ => false
      | .map _ _ _ _ | .block _ _ _ _ | .dump _ _ _ | .nsSegment _ _ _ => true,
    dirs := c.dirs.filter fun d => (anchor.map fun a => decide (a.seq ≤ d.seq)).getD true && (dir.map fun x => decide (d.seq ≤ x.seq)).getD true,
    journal := pages.map fun p => (p.1.seq, p.2.1, p.2.2),
    nextJSeq := (lastPage.map fun p => p.1.seq + 1).getD ((dir.map (·.start)).getD 1), nextJ := nextJ, nextJMirror := nextM,
    changed := (recs.filterMap JRec.touches).foldl (fun a i => if a.contains i then a else a ++ [i]) [] })
    (clearMem 0 (mapSegments s * 65536) (clearSlm s))
  let s := doAll (fun (e : Nat × Nat × Nat) s => loadSegment bad e.1 e.2.1 s) segs s
  let snapOf (i : Nat) : Nat := ((Tab.get? segs i).map (·.2)).getD 0
  let p := pages.foldl (fun p x => replayPage snapOf x.1.seq x.1.records p) (([] : Tab (Nat × Nat)), s)
  let p := tails.foldl (fun p x => replayPage snapOf x.1 x.2 p) p
  let opens := s.cur.sets.filter fun e => e.2.state == .open
  let p := opens.foldl (fun p e => (setPages p.2 e.2).foldl (rollPage bad) p) p
  let p := dumps.foldl (fun p d => d.mus.foldl placeDumped p) p
  let s := onlyIf (dumps.any fun d => !d.complete) (capture 160 0x22 (pageAddr 160 0x80)) p.2
  let top := (p.1.map fun e => e.2.1).foldl max 0
  let last := (read.map (·.seq)).foldl max (s.cur.dumpSets.next - 1)
  let s := setCur (fun c => { c with
    nextSeq := max (top + 1) ((dir.map (·.writeSeq)).getD 1),
    dumpSets := { c.dumpSets with
      next := last + 1, live := dumps.map (fun d => (d.seq, d.set)), consuming := [], resume := false, erasing := none,
      armed := if dumps.isEmpty then c.dumpSets.armed.filter (fun k => (dumpSetOf s k).dirty.isEmpty) else none } }) s
  let s := doAll (fun d s => journal (.dump 1 d.seq d.set) s) dumps s
  eraseStray (doAll (fun n s => closeSet n s) (opens.map Prod.fst) s)

/-- Recovery (R282 to R286). `bad` are the codewords that fail decoding as it reads them. Without the anchor that the newest root record names the device stays
not ready. -/
def recover (bad : List Nat) (s : State) : State :=
  if s.cur.mediaReady || !dramTrained s || !s.flash.discovering.isEmpty then s
  else
    let anchor := (newestRoot s).bind fun r => directoryAt s bad (linkAt r 8) (linkAt r 14)
    if anchor.isNone && !s.cur.dirs.isEmpty then capture 160 0x21 (pageAddr 160 0x80) (setCur (fun c => { c with journalBad := true }) s)
    else
      let s := rebuildState bad anchor s
      let (ms, s) := draw s
      let s := setHu (fun h => { h with lastRecoveryMs := ms }) (setCur (fun c => { c with mediaReady := true, recovering := true }) s)
      let s := onlyIf s.cur.dumpSets.live.isEmpty armOther s
      let s := if s.cur.dumpSets.live.isEmpty && s.cur.dumpSets.armed.isSome && s.cur.recovering then
          raiseIrq 160 0x1000 (setCur (fun c => { c with recovering := false }) s) else s
      let s := checkReserve (moveDumpSets s)
      settle (packAll (doAll (fun i s => settleEntry i s) (s.cur.wb.map Prod.fst) (unwrapRecords s)))

/-! ## Restoring a map entry (R228) -/

/-- What a buffered write found wrong is restored, and its missing blocks can be filled (R228, R236). -/
def restoreBefore (bad : List Nat) (gmu : Nat) (s : State) : State :=
  let waiting := (s.cur.wb.filter fun e => e.2.gmu == gmu && e.2.before == wrongEntry).map Prod.fst
  doAll (fun i s => match restoredEntry s bad gmu with
    | some old => setWb i (fun e => { e with before := old }) s
    | none => fillWith i none s) waiting s

/-- MAP_ENTRY_RESTORE: a wrong entry is restored and the lookups that wait for it are repeated; where it cannot be, the MU fails until it is changed. -/
def restoreEntry (gmu : Nat) (bad : List Nat) (s : State) : State := settle (retryReads gmu (restoreGmu bad gmu (restoreBefore bad gmu s)))

/-! ## Register views and writes (R288) -/

def curSets (s : State) (w : Nat) : Word :=
  word ((min 0xFFFF (s.cur.sets.filter fun e => e.2.wing == w && e.2.state == .open).length) * 65536 + min 0xFFFF (freeSets s w))
def curLedger (s : State) (w : Nat) : Word := word ((pool s w).ledger0 % 65536 * 65536 + (pool s w).ledgerUsed % 65536)
def curDevStat (s : State) : Word := word (roReason s * 256 + flag s.cur.holdup.valid * 4 + flag s.cur.recovering * 2 + flag (readOnly s))
def huCtrl (s : State) : Word := word (regField s 160 0x9C 15 8 * 256 + flag s.cur.holdup.measuring)

/-- Writes of the settings, each refused with 0x25 outside its range. -/
def curBad (page off : Nat) (s : State) : State := capture page 0x25 (pageAddr page off) s
def gcCfgWrite (page : Nat) (v : Word) (s : State) : State :=
  if bits v 7 0 = 0 ∨ bits v 15 8 ≤ bits v 7 0 then curBad page 0x54 s else putReg page 0x54 (word (bits v 15 0)) s
def lendFloorWrite (v : Word) (s : State) : State := if bits v 7 0 > 100 then curBad 160 0x84 s else putReg 160 0x84 (word (bits v 7 0)) s
/-- CUR_HU_CTRL: measure reads 1 until the measurement ends (R270, R288). -/
def huCtrlWrite (v : Word) (s : State) : State :=
  if bits v 15 8 < 1 ∨ bits v 15 8 > 168 then curBad 160 0x9C s
  else
    let s := putField 160 0x9C 15 8 (bits v 15 8) s
    if bit v 0 then setHu (fun h => { h with measuring := true }) s else s
/-- CUR_HU_MIN (R273): a minimum above the budget sets the hold-up condition; it clears at a measurement. -/
def huMinWrite (v : Word) (s : State) : State :=
  let s := putReg 160 0xA0 (word (bits v 15 0)) s
  if s.cur.holdup.valid && !s.cur.holdup.low && decide (s.cur.holdup.budget < bits v 15 0 * 2 ^ 20) then
    healthEvent 4 0x04 (setRoCondition (fun c => { c with holdup := { c.holdup with low := true } }) s)
  else s
def jnlMaxWrite (v : Word) (s : State) : State :=
  if bits v 12 0 < 64 ∨ bits v 12 0 > 4096 then curBad 160 0xA4 s else putReg 160 0xA4 (word (bits v 12 0)) s

end Sys2Proof.Machine
end

