-- ==== Sys2Proof/Machine/HostOps.lean ====
section
/-! DEFINITION. The host link's operations: training, losses, requests on the link, configuration space, and the queue commands (chapter 03). -/

namespace Sys2Proof.Machine

/-! ## Training and loss of a sub-link (R72 to R80, R643) -/

/-- Lanes a sub-link is configured for (R68). -/
def lanesOf (s : State) (p : Nat) : Nat := (variant s).lanes / (variant s).ports / subLinks s p

/-- HIF page of a sub-link. -/
def hifPage (p sub : Nat) : Nat := 8 + 4 * p + sub

/-- The port and sub-link exist. -/
def subExists (s : State) (p sub : Nat) : Bool := decide (p < (variant s).ports) && decide (sub < subLinks s p)

/-- Lanes `a` to `a + w - 1` all work. -/
def lanesWork (failed a w : Nat) : Bool := (upTo w).all fun i => !failed.testBit (a + i)

/-- The widest width the working lanes allow (R74); 0: none. The lanes of a width run from either end of the sub-link: the manual
names no other run (DESIGN CHOICE, log 138). -/
def trainedWidth (lanes partner failed : Nat) : Nat :=
  (([16, 8, 4, 2, 1].filter fun w => decide (w ≤ lanes) && decide (w ≤ partner)).find? fun w =>
    lanesWork failed 0 w || lanesWork failed (lanes - w) w).getD 0

/-- The highest rate a sub-link trains to (R87). -/
def rateCap (s : State) (p sub : Nat) : Nat :=
  let c := regField s (hifPage p sub) 0x84 3 1
  if 4 ≤ c ∧ c ≤ 6 then c else 6

/-- A sub-link has trained with its partner (R72 to R74, R86). -/
def trainLink (p sub : Nat) (x : LinkPartner) (s : State) : State :=
  let page := hifPage p sub
  let lanes := lanesOf s p
  let w := trainedWidth lanes x.lanes x.failedLanes
  let rate := min x.rate (rateCap s p sub)
  let s := putReg page 0x88 (getReg s page 0x88 ||| word (x.failedLanes % 2 ^ lanes)) s
  let was := linkOf s (4 * p + sub)
  if !subExists s p sub || !s.link.trainable || !was.training || islandRefuses s (.host p) || w = 0 || rate = 0 then s
  else
    let degraded := decide (w < lanes)
    let s := setLink (4 * p + sub) (fun l => { l with
      rate := rate, width := w, flit := rate == 6 || x.flit, reversed := x.reversed, degraded := degraded, pm := 0, training := false }) s
    let s := if was.rate = 0 then raiseIrq page 0x200 s else s
    if degraded then raiseIrq page 0x400 s else s

/-- A sub-link goes down without a reset (R80): its controllers are reset, it retrains on its own. -/
def surpriseDown (p sub : Nat) (s : State) : State :=
  let i := 4 * p + sub
  if (linkOf s i).rate = 0 then s
  else
    let s := setLink i (fun l => { l with
      rate := 0, width := 0, flit := false, reversed := false, degraded := false, pm := 0, training := true }) s
    let s := doAll flrOne (ctlsOf s p sub) s
    capture (hifPage p sub) 0x21 (pageAddr (hifPage p sub) 0x80) (raiseIrq (hifPage p sub) 0x1100 s)

/-- Removes a request. -/
def dropReq (i tag : Nat) (s : State) : State := setLink i (fun l => { l with reqs := dropFirst (fun r => r.tag == tag) l.reqs }) s

/-- A completion timeout (R77, R78, R643). -/
def completionTimeout (p sub tag : Nat) (s : State) : State :=
  let i := 4 * p + sub
  match (linkOf s i).reqs.find? fun r => r.tag == tag with
  | none => s
  | some r =>
    if r.ended then dropReq i tag s
    else if (ctlOf s r.ctl).cfg.ctoDisable then s
    else
      let page := hifPage p sub
      let s := capture page 0x20 (pageAddr page 0x8C) (raiseIrq page 0x800 (bumpReg page 0x8C 1 (dropReq i tag s)))
      match r.cause with
      | .data ref => if (awaitedOf s ref).any (fun c => c.cpl.isNone) then finishAwaited ref stDataTransfer s else s
      | .sqe c q =>
        let s := setAcc (fun a => { a with cmds := dropFirst (Cmd.fetchingOn c q) a.cmds }) s
        capture 16 0x21 (0x1000 + 8 * q) (raiseIrq 16 0x100 (setCtl c (fun x => { x with cfs := true }) s))

/-- A completion TLP (R88, R643): one for a request that a reset has ended is discarded. A poisoned one ends its request and is captured;
the command goes on waiting, since the manual gives the code alone (DESIGN CHOICE, log 140). -/
def completionTlp (p sub tag : Nat) (poisoned : Bool) (s : State) : State :=
  let i := 4 * p + sub
  match (linkOf s i).reqs.find? fun r => r.tag == tag with
  | none => s
  | some _ =>
    let s := dropReq i tag s
    if poisoned then capture (hifPage p sub) 0x22 (pageAddr (hifPage p sub) 0x80) s else s

/-! ## Configuration space (R75 to R84, R121) -/

/-- Size of a BAR (R81). -/
def barSize (s : State) (c bar : Nat) : Nat :=
  if bar = 0 then 0x40000 else if bar = 2 ∧ isPf s c then 0x200000 else if bar = 4 then 0x10000 else 0

/-- The function is there: its port, and for a VF its enabling (R71, R82). -/
def functionThere (s : State) (c : Nat) : Bool :=
  decide (c < controllerCount s) &&
    (isPf s c || (let pf := pfOf s (c / 64) (ctlSub s c); (ctlOf s pf).cfg.vfEnable && decide (c - pf ≤ (ctlOf s pf).cfg.numVFs)))

/-- What a configuration read gives. Identifiers without a value in the boot image are Quostan's, which the manual does not
print: free (R83). The type of a BAR that is there is 4: memory, 64-bit, not prefetchable (R81). -/
def configValue (s : State) (c : Nat) : CfgReg → Nat
  | .vendorId => s.boot.vendorId.getD (Config.identity 0 % 65536)
  | .subsystemVendorId => s.boot.subsystemVendorId.getD (Config.identity 0 % 65536)
  | .deviceId => 0x9600 + s.fuses.variant
  | .vfDeviceId => 0x9600 + s.fuses.variant
  | .subsystemId => s.boot.subsystemId.getD (0x9600 + s.fuses.variant)
  | .interruptPin => 0
  | .barSize n => barSize s c n
  | .barType n => if barSize s c n = 0 then 0 else 4
  | .barEnable => flag (ctlOf s c).cfg.barEnable
  | .linkCapabilities => 6 + lanesOf s (c / 64) * 16 + 2 * 1024
  | .maxPayload => (ctlOf s c).cfg.maxPayload
  | .maxReadRequest => (ctlOf s c).cfg.maxReadRequest
  | .cplTimeoutValue => (ctlOf s c).cfg.ctoValue
  | .cplTimeoutDisable => flag (ctlOf s c).cfg.ctoDisable
  | .totalVFs => if isPf s c then totalVfs s c else 0
  | .firstVfOffset => if isPf s c then 1 else 0
  | .vfStride => if isPf s c then 1 else 0
  | .numVFs => (ctlOf s c).cfg.numVFs
  | .ariCapable => flag (isPf s c)
  | .msiCapable => 0
  | .msixEnable => flag (ctlOf s c).cfg.msixEnable
  | .msixFunctionMask => flag (ctlOf s c).cfg.functionMask

/-- Changes the configuration space of a function. -/
def setCfg (c : Nat) (f : ConfigSpace → ConfigSpace) (s : State) : State := setCtl c (fun x => { x with cfg := f x.cfg }) s

/-- Sends the messages that were pending and are not masked any more (R131). -/
def sendPending (c : Nat) (s : State) : State :=
  let x := ctlOf s c
  if !x.cfg.msixEnable || x.cfg.functionMask then s
  else
    let out := x.pba.filter x.unmasked.contains
    doAll (sendVector c) out (setCtl c (fun x => { x with pba := x.pba.filter fun v => !out.contains v }) s)

/-- What a configuration write does; the other items are read-only. -/
def configWrite (c v : Nat) (reg : CfgReg) (s : State) : State :=
  match reg with
  | .barEnable => setCfg c (fun x => { x with barEnable := v % 2 == 1 }) s
  | .maxPayload => setCfg c (fun x => { x with maxPayload := if v ≤ 2 then v else x.maxPayload }) s
  | .maxReadRequest => setCfg c (fun x => { x with maxReadRequest := if v ≤ 5 then v else x.maxReadRequest }) s
  | .cplTimeoutValue => setCfg c (fun x => { x with ctoValue := v % 16 }) s
  | .cplTimeoutDisable => setCfg c (fun x => { x with ctoDisable := v % 2 == 1 }) s
  | .numVFs => if isPf s c && !(ctlOf s c).cfg.vfEnable then setCfg c (fun x => { x with numVFs := v % 65536 }) s else s
  | .msixEnable =>
    let s := if v % 2 = 1 then s else setCtl c (fun x => { x with coalesce := [] }) s
    sendPending c (setCfg c (fun x => { x with msixEnable := v % 2 == 1 }) s)
  | .msixFunctionMask => sendPending c (setCfg c (fun x => { x with functionMask := v % 2 == 1 }) s)
  | .vendorId | .deviceId | .subsystemVendorId | .subsystemId | .interruptPin | .barSize _ | .barType _ | .linkCapabilities
  | .totalVFs | .firstVfOffset | .vfStride | .vfDeviceId | .ariCapable | .msiCapable => s

/-- A configuration request (R599, R641). -/
def configRequest (c : Nat) (reg : CfgReg) (write : Option Nat) (s : State) : State :=
  if !s.link.firmwareRuns then emit .configRetry s
  else if !functionThere s c then emit .unsupportedRequest s
  else
    match write with
    | none => emit (.config (configValue s c reg)) s
    | some v => configWrite c v reg s

/-- A memory request that matches no enabled BAR (R641). -/
def unsupportedRequest (c bar off : Nat) (write : Bool) (s : State) : State :=
  if !ctlUp s c then s
  else if functionThere s c && (ctlOf s c).cfg.barEnable && decide (off < barSize s c bar) then s
  else
    let page := ctlHifPage s c
    let s := capture page 0x23 off s
    if write then s else emit .unsupportedRequest s

/-- A request of the host to BAR0 of a function reaches it (R641). -/
def bar0Open (s : State) (c : Nat) : Bool := functionThere s c && ctlUp s c && (ctlOf s c).cfg.barEnable && !islandRefuses s (.host (c / 64))

/-- VF Enable of a sub-link's physical function (R82); switched off, its virtual functions are reset. -/
def vfEnable (p sub : Nat) (on : Bool) (s : State) : State :=
  let pf := pfOf s p sub
  let x := (ctlOf s pf).cfg
  if on then (if x.numVFs > totalVfs s pf then s else setCfg pf (fun x => { x with vfEnable := true }) s)
  else if x.vfEnable then setCfg pf (fun x => { x with vfEnable := false }) (doAll flrOne ((ctlsOf s p sub).filter (· != pf)) s)
  else s

/-! ## Controller registers -/

/-- The sets of a 64-bit register by its halves. -/
def setHalf64 (b : BitVec 64) (high : Bool) (v : Nat) : BitVec 64 :=
  if high then BitVec.ofNat 64 (b.toNat % 2 ^ 32 + v % 2 ^ 32 * 2 ^ 32) else BitVec.ofNat 64 (b.toNat / 2 ^ 32 * 2 ^ 32 + v % 2 ^ 32)

/-- CSTS: RDY, CFS, SHST, and PP while an activation pauses the controller (R78, R91, R92, R123, R607). -/
def cstsOf (s : State) (c : Nat) : Nat :=
  let x := ctlOf s c
  flag x.rdy + 2 * flag x.cfs + 4 * (x.shst % 4) + 32 * flag s.acc.stopActivation

/-- What a 32-bit read of a controller register gives (R89 to R93); every other offset below the doorbells reads 0 (R641). -/
def controllerRead (s : State) (c off : Nat) : Nat :=
  let x := ctlOf s c
  match off with
  | 0x00 => 0xFF03FFFF
  | 0x04 => if isPf s c then 0x1840C830 else 0x1840C820
  | 0x08 => 0x00020100
  | 0x14 => x.cc.toNat
  | 0x1C => cstsOf s c
  | 0x24 => x.aqa.toNat
  | 0x28 => x.asq.toNat % 2 ^ 32
  | 0x2C => x.asq.toNat / 2 ^ 32
  | 0x30 => x.acq.toNat % 2 ^ 32
  | 0x34 => x.acq.toNat / 2 ^ 32
  | 0x68 => 0x04B00002
  | _ => 0

/-- An access of BAR0 that is performed: one that R94 accepts, a doorbell in 32 bits only. -/
def bar0Takes (off width : Nat) : Bool := bar0Ok off width && (decide (off < 0x1000) || width == 32)

/-- A read of BAR0 (R89, R94, R641). What a read of a doorbell gives is free: NVMe leaves it to the vendor. -/
def bar0Read (c off width : Nat) (s : State) : State :=
  if !bar0Takes off width then bar0Bad off width false s
  else if off ≥ 0x1000 then let (v, s) := draw s
    emit (.hostRead (v % 2 ^ 32)) s
  else emit (.hostRead (controllerRead s c off + (if width = 64 then controllerRead s c (off + 4) * 2 ^ 32 else 0))) s

/-! ## BAR4: the MSI-X table and the pending bits (R81, R131, R641) -/

/-- A 32-bit word of BAR4. -/
def bar4Word (s : State) (c off : Nat) : Nat :=
  let x := ctlOf s c
  let v := off / 16
  let e := Tab.getD x.msixTable v (0, 0)
  if off < 0x8000 then
    match off % 16 / 4 with
    | 0 => e.1 % 2 ^ 32
    | 1 => e.1 / 2 ^ 32
    | 2 => e.2
    | _ => flag !(x.unmasked.contains v)
  else if off < 0x8100 then ((upTo 32).map fun i => flag (x.pba.contains ((off - 0x8000) * 8 + i)) * 2 ^ i).foldl (· + ·) 0
  else 0

/-- A vector is unmasked, and sends what it held (R131). -/
def unmaskVector (c v : Nat) (s : State) : State :=
  sendPending c (setCtl c (fun x => { x with unmasked := if x.unmasked.contains v then x.unmasked else sortBy id (v :: x.unmasked) }) s)

/-- A write of a 32-bit word of BAR4: of the table alone. -/
def bar4Write (c off v : Nat) (s : State) : State :=
  let n := off / 16
  let entry (f : Nat × Nat → Nat × Nat) (s : State) : State := setCtl c (fun x => { x with msixTable := Tab.update x.msixTable n (0, 0) f }) s
  if off ≥ 0x8000 then s
  else
    match off % 16 / 4 with
    | 0 => entry (fun e => (e.1 / 2 ^ 32 * 2 ^ 32 + v % 2 ^ 32 / 4 * 4, e.2)) s
    | 1 => entry (fun e => (e.1 % 2 ^ 32 + v % 2 ^ 32 * 2 ^ 32, e.2)) s
    | 2 => entry (fun e => (e.1, v % 2 ^ 32)) s
    | _ => if v % 2 = 0 then unmaskVector c n s else setCtl c (fun x => { x with unmasked := x.unmasked.filter (· != n) }) s

/-- An access of BAR4 has the width and alignment that PCI Express asks of it. -/
def bar4Ok (off width : Nat) : Bool := (width == 32 && off % 4 == 0) || (width == 64 && off % 8 == 0)

/-- A read of BAR4. What one of another width or alignment gives is free: PCI Express leaves it undefined. -/
def bar4Read (c off width : Nat) (s : State) : State :=
  if !bar4Ok off width then let (v, s) := draw s
    emit (.hostRead (v % 2 ^ width)) s
  else emit (.hostRead (bar4Word s c off + (if width = 64 then bar4Word s c (off + 4) * 2 ^ 32 else 0))) s

/-- A write of BAR4; one of another width or alignment is not performed (PRESUMED, log 137). -/
def bar4Set (c off width v : Nat) (s : State) : State :=
  if !bar4Ok off width then s
  else
    let s := bar4Write c off v s
    if width = 64 then bar4Write c (off + 4) (v / 2 ^ 32) s else s

/-- A write of a controller register other than NSSR (R89 to R94). -/
def controllerWrite (c off width v : Nat) (s : State) : State :=
  if !bar0Ok off width then bar0Bad off width true s
  else if off = 0x14 then writeCc c (word v) s
  else if off = 0x24 then setCtl c (fun x => { x with aqa := word v &&& 0x0FFF0FFF }) s
  else if off = 0x28 then setCtl c (fun x => { x with asq := if width = 64 then BitVec.ofNat 64 v else setHalf64 x.asq false v }) s
  else if off = 0x2C then setCtl c (fun x => { x with asq := setHalf64 x.asq true v }) s
  else if off = 0x30 then setCtl c (fun x => { x with acq := if width = 64 then BitVec.ofNat 64 v else setHalf64 x.acq false v }) s
  else if off = 0x34 then setCtl c (fun x => { x with acq := setHalf64 x.acq true v }) s
  else s

/-- A controller becomes ready (R92): at once with CRIME, else when the media is ready; a secondary controller only once it is online
(PRESUMED, log 27). -/
def readyCtl (c : Nat) (s : State) : State :=
  let x := ctlOf s c
  if x.enabled && !x.cfs && (isPf s c || x.online) && (s.cur.mediaReady || bit x.cc 24) then setCtl c (fun x => { x with rdy := true }) s else s

/-- The shutdown of a controller is complete (R607). -/
def shutdownComplete (c : Nat) (s : State) : State :=
  if !shutdownDone s c then s
  else
    setCtl c (fun x => { x with shst := 2 }) s

/-! ## Queue commands (R99 to R101, R116 to R119) -/

/-- Statuses of queue commands. -/
def stQueueId : Completion := statusOf 1 0x01
def stQueueSize : Completion := statusOf 1 0x02

/-- Create I/O Submission Queue. -/
def createSq (c : Cmd) (qid qsize : Nat) (contiguous : Bool) (cqid prio : Nat) (s : State) : State :=
  let x := ctlOf s c.ref.ctl
  if qid = 0 ∨ qid > x.vq ∨ Tab.has x.sqs qid then finish c.ref stQueueId s
  else if cqid = 0 ∨ !Tab.has x.cqs cqid then finish c.ref (statusOf 1 0x00) s
  else if qsize = 0 ∨ qsize > 0xFFFF then finish c.ref stQueueSize s
  else if !contiguous then finish c.ref stInvalidField s
  else finish c.ref (success 0 0) (setCtl c.ref.ctl (fun x => { x with
    sqs := Tab.set x.sqs qid { size := qsize + 1, cqid := cqid, prio := prio % 4 } }) s)

/-- Create I/O Completion Queue. -/
def createCq (c : Cmd) (qid qsize : Nat) (contiguous ien : Bool) (vec : Nat) (s : State) : State :=
  let x := ctlOf s c.ref.ctl
  if qid = 0 ∨ qid > x.vq ∨ Tab.has x.cqs qid then finish c.ref stQueueId s
  else if qsize = 0 ∨ qsize > 0xFFFF then finish c.ref stQueueSize s
  else if vec > x.vectors then finish c.ref (statusOf 1 0x08) s
  else if !contiguous then finish c.ref stInvalidField s
  else finish c.ref (success 0 0) (setCtl c.ref.ctl (fun x => { x with
    cqs := Tab.set x.cqs qid { size := qsize + 1, vector := vec, ien := ien } }) s)

/-- Delete I/O Completion Queue. -/
def deleteCq (c : Cmd) (qid : Nat) (s : State) : State :=
  let x := ctlOf s c.ref.ctl
  if qid = 0 ∨ !Tab.has x.cqs qid then finish c.ref stQueueId s
  else if x.sqs.any (fun e => e.2.cqid == qid) then finish c.ref (statusOf 1 0x0C) s
  else finish c.ref (success 0 0) (setCtl c.ref.ctl (fun x => { x with cqs := Tab.del x.cqs qid }) s)

/-- A command that has not started is taken out of whatever it waits in. -/
def unwait (r : CmdRef) (s : State) : State :=
  setRgs (fun g => { g with waiting := g.waiting.filter fun w => w.ref != r })
    { s with cur := { s.cur with writes := s.cur.writes.filter fun w => w.ref != r } }

/-- Ends a command that has not started with a status. -/
def endUnstarted (r : CmdRef) (cpl : Completion) (s : State) : State := finishAwaited r cpl (unwait r s)

/-- Delete I/O Submission Queue (R119). -/
def deleteSq (c : Cmd) (qid : Nat) (s : State) : State :=
  let x := ctlOf s c.ref.ctl
  match (if qid = 0 then none else Tab.get? x.sqs qid) with
  | none => finish c.ref stQueueId s
  | some sq =>
    if sq.deleting.isSome then finish c.ref stQueueId s
    else
      let s := setCtl c.ref.ctl (fun x => { x with sqs := Tab.set x.sqs qid { sq with deleting := some c.ref } }) s
      let out := (sqCmds s c.ref.ctl qid).filter fun k => k.unstarted && !k.dup
      checkSqDelete c.ref.ctl qid (doAll (fun k s => endUnstarted k.ref stSqDeletion s) out s)

/-- Abort (R116 to R118): at most 16 are under way at once. -/
def abortCmd (c : Cmd) (sqid cid : Nat) (s : State) : State :=
  let ahead := (sqCmds s c.ref.ctl 0).takeWhile fun k => !(k.ref == c.ref && !k.dup)
  if (ahead.filter fun k => k.opcode == 8 && k.started).length ≥ 16 then finish c.ref (statusOf 1 0x03) s
  else
    let r : CmdRef := { ctl := c.ref.ctl, sq := sqid, cid := cid }
    match awaitedOf s r with
    | none => finish c.ref (success 1 0) s
    | some t =>
      if t.unstarted then finish c.ref (success 0 0) (endUnstarted r stAbortRequested s) else finish c.ref (success 1 0) s

end Sys2Proof.Machine
end

