-- ==== Sys2Proof/Machine/ProgOps.lean ====
section
/-! DEFINITION. Programs: Praton images, the code area, activation, range sets, executions, subsystem local memory and streams (chapter 10). -/

namespace Sys2Proof.Machine

/-! ## Praton images (R421, R422) -/

/-- An entry of the section table: type, log2 of the alignment, size, offset, and its reserved fields. -/
structure ProgSection where
  kind : Nat
  align : Nat
  size : Nat
  off : Nat
  zero : Bool
deriving DecidableEq, Repr

/-- An entry of the relocation table. -/
structure ProgReloc where
  off : Nat
  kind : Nat
  sec : Nat
  zero : Bool
deriving DecidableEq, Repr

/-- Header fields of an image. -/
def imgFlags (img : List Byte) : Nat := leAt img 6 2
def imgLength (img : List Byte) : Nat := leAt img 8 4
def imgSections (img : List Byte) : Nat := leAt img 12 2
def imgEntries (img : List Byte) : Nat := leAt img 14 2
def imgRelocs (img : List Byte) : Nat := leAt img 16 4
def imgBudget (img : List Byte) : Nat := leAt img 20 4

/-- Section `i` of an image, and all of them. -/
def sectionOf (img : List Byte) (i : Nat) : ProgSection :=
  let o := 128 + 16 * i
  { kind := leAt img o 1, align := leAt img (o + 1) 1, size := leAt img (o + 4) 4, off := leAt img (o + 8) 4,
    zero := leAt img (o + 2) 2 == 0 && leAt img (o + 12) 4 == 0 }
def sectionsOf (img : List Byte) : List ProgSection := (upTo (imgSections img)).map (sectionOf img)

/-- The relocations of an image. -/
def relocsOf (img : List Byte) : List ProgReloc := (upTo (imgRelocs img)).map fun i =>
  let o := 128 + 16 * imgSections img + 8 * i
  { off := leAt img o 4, kind := leAt img (o + 4) 1, sec := leAt img (o + 5) 1, zero := leAt img (o + 6) 2 == 0 }

/-- The sections of a run laid one after the other, each at its alignment: section numbers with offsets, and the length of the run
(DESIGN CHOICE, log 36: R423 gives no order). -/
def layRun (img : List Byte) (idx : List Nat) : List (Nat × Nat) × Nat :=
  idx.foldl (fun (p : List (Nat × Nat) × Nat) i =>
    let x := sectionOf img i
    let o := roundUp p.2 (2 ^ x.align)
    (p.1 ++ [(i, o)], o + x.size)) ([], 0)

/-- The numbers of the sections of a type. -/
def sectionsOfKind (img : List Byte) (k : Nat) : List Nat := (upTo (imgSections img)).filter fun i => (sectionOf img i).kind == k

/-- The run of the code area: the code section, then the read-only sections; the run of shared data: types 3 and 4 in order. -/
def codeRun (img : List Byte) : List (Nat × Nat) × Nat := layRun img (sectionsOfKind img 1 ++ sectionsOfKind img 2)
def sharedRun (img : List Byte) : List (Nat × Nat) × Nat :=
  layRun img ((upTo (imgSections img)).filter fun i => (sectionOf img i).kind == 3 || (sectionOf img i).kind == 4)

/-- The largest alignment of a run. -/
def runAlign (img : List Byte) (run : List (Nat × Nat)) : Nat := run.foldl (fun m e => max m (2 ^ (sectionOf img e.1).align)) 4

/-- The offset of a section within a run; none where the run does not hold it. -/
def runOffset (run : List (Nat × Nat)) (i : Nat) : Option Nat := (run.find? fun e => e.1 == i).map (·.2)

/-- The signed value of 16 bits. -/
def signed16 (n : Nat) : Int := if n % 65536 ≥ 32768 then (n % 65536 : Int) - 65536 else (n % 65536 : Int)

/-- The code area contents of an image before relocation. -/
def codeBytes (img : List Byte) : List Byte :=
  (codeRun img).1.foldl (fun bs e => let x := sectionOf img e.1
    overlay bs e.2 (sliceBytes img x.off x.size)) (zeros (codeRun img).2)

/-- A relocation of an image is well formed, and one of kind 2 fits (R421, R422). One of kind 2 that names a section of the code
area is refused, for its distance from G is not known at load (DESIGN CHOICE, log 36). -/
def relocOk (img : List Byte) (r : ProgReloc) : Bool :=
  r.zero && (r.kind == 1 || r.kind == 2) && decide (r.sec < imgSections img) && decide (r.off + 4 ≤ (codeRun img).2)
    && (r.kind == 1 || (match runOffset (sharedRun img).1 r.sec with
      | none => false
      | some o =>
        let d : Int := (o : Int) + signed16 (leAt (codeBytes img) r.off 2)
        decide (-32768 ≤ d) && decide (d ≤ 32767)))

/-- A section of an image is well formed. -/
def sectionOk (img : List Byte) (x : ProgSection) : Bool :=
  x.zero && decide (1 ≤ x.kind) && decide (x.kind ≤ 4) && decide (2 ≤ x.align) && decide (x.align ≤ 12)
    && (if x.kind = 4 then x.off == 0 else decide (x.off + x.size ≤ imgLength img))

/-- An image is sound: header, sections, relocations, digest and signature (R421, R422, R557, R558). -/
def imageSound (s : State) (img : List Byte) : Bool :=
  let n := imgLength img
  let signed := imgFlags img % 2 == 1
  let digest := sliceBytes img n 32
  sliceBytes img 0 4 == ascii "PRTN" && leAt img 4 2 == 1 && decide (imgFlags img < 8) && decide (n ≤ 1048576)
    && decide (128 + 16 * imgSections img + 8 * imgRelocs img ≤ n) && decide (n + 32 + (if signed then 208 else 0) ≤ img.length)
    && decide (1 ≤ imgSections img) && decide (imgSections img ≤ 16) && decide (1 ≤ imgEntries img) && decide (imgEntries img ≤ 16)
    && decide (1 ≤ imgBudget img) && decide (imgBudget img ≤ 16000000) && leAt img 28 4 == 0 && leAt img 104 24 == 0
    && (sectionsOf img).all (sectionOk img) && (sectionsOfKind img 1).length == 1 && (relocsOf img).all (relocOk img)
    && sha256.hash (sliceBytes img 0 n) == digest
    && (!(signed || !s.boot.programKeys.isEmpty) || (signed && programSigned s (sliceBytes img 0 n) digest (sliceBytes img (n + 32) 208)))

/-- The code area contents with every relocation applied that can be: without G, words that name shared data keep their value. -/
def relocated (img : List Byte) (base : Nat) (g : Option Nat) : List Byte :=
  (relocsOf img).foldl (fun bs r =>
    if r.kind = 1 then
      let addr := match runOffset (codeRun img).1 r.sec with
        | some o => some (base + o)
        | none => g.bind fun g => (runOffset (sharedRun img).1 r.sec).map fun o => g + o
      match addr with
      | some a => overlay bs r.off (leBytes 4 ((a + leAt bs r.off 4) % 2 ^ 32))
      | none => bs
    else overlay bs r.off (leBytes 2 (((runOffset (sharedRun img).1 r.sec).getD 0 + leAt bs r.off 2) % 65536))) (codeBytes img)

/-! ## Places (R423) -/

/-- The lowest aligned place of `size` bytes between two addresses that no span covers. -/
def fitIn (spans : List (Nat × Nat)) (lo hi size al : Nat) : Option Nat :=
  let spans := spans.filter fun e => decide (e.1 < e.2)
  let cands := (lo :: spans.map Prod.snd).map fun a => roundUp a al
  minBy id (cands.filter fun a => decide (lo ≤ a) && decide (a + size ≤ hi) && spans.all fun e => decide (a + size ≤ e.1) || decide (e.2 ≤ a))

/-- The code areas of loaded programs, and the shared data of active ones. -/
def codeSpans (s : State) : List (Nat × Nat) := s.rgs.programs.map fun e => (e.2.base, e.2.base + e.2.size)
def dataSpans (s : State) : List (Nat × Nat) := (s.rgs.programs.filter fun e => e.2.ctx.isSome).map fun e => (e.2.data, e.2.data + e.2.dataLen)

/-- Writes bytes at a gallery-mode shared-memory address of a gallery that is not off. -/
def putShared (g a : Nat) (bs : List Byte) (s : State) : State :=
  if (isl s (.gallery g)).power = 0 then s else writeMem (galleryShareBase g + (a - 0x100000)) bs s

/-- A program's code, and its shared data while it is active, are written to a gallery. -/
def putProgram (p : Program) (g : Nat) (s : State) : State :=
  let s := putShared g p.base (relocated p.image p.base (if p.ctx.isSome then some p.data else none)) s
  if p.ctx.isNone then s
  else doAll (fun (e : Nat × Nat) s =>
    let x := sectionOf p.image e.1
    putShared g (p.data + e.2) (if x.kind = 3 then sliceBytes p.image x.off x.size else zeros x.size) s) (sharedRun p.image).1 s

/-- The galleries of the variant. -/
def presentGalleries (s : State) : List Nat := upTo (variant s).galleries

/-- The keeper restores a gallery's code areas and shared data (R605, R616). -/
def restoreGallery (g : Nat) (s : State) : State := doAll (fun (e : Nat × Program) s => putProgram e.2 g s) s.rgs.programs s

/-! ## Load, activate, deactivate (R417, R422, R423) -/

/-- Runs a command of the Computational Programs set on its compute namespace, or finishes it with the status that refuses it. -/
def onCompute (c : Cmd) (f : State → State) (s : State) : State :=
  match ioNamespace s c 4 with
  | .inl st => finish c.ref st s
  | .inr _ => f s

/-- The key of a program, and changing one. -/
def programKey (nsid index : Nat) : Nat := nsid * 64 + index
def setProgram (k : Nat) (f : Program → Program) (s : State) : State := setRgs (fun r => { r with programs := Tab.adjust r.programs k f }) s

/-- Load Program (R420, R422). -/
def loadProgram (c : Cmd) (index : Nat) (img : List Byte) (s : State) : State :=
  let k := programKey c.nsid index
  let old := Tab.get? s.rgs.programs k
  if index > 63 then finish c.ref stInvalidField s
  else if old.any (·.ctx.isSome) then finish c.ref (statusOf 1 0xC4) s
  else if !imageSound s img then finish c.ref stInvalidField s
  else
    match fitIn (codeSpans s) 0x100000 0x180000 (codeRun img).2 (runAlign img (codeRun img).1) with
    | none => finish c.ref (statusOf 1 0xC5) s
    | some base =>
      if old.isNone ∧ s.rgs.programs.length ≥ 512 then finish c.ref (statusOf 1 0xC5) s
      else
        let p : Program := { image := img, base := base, size := (codeRun img).2, sections := (codeRun img).1.map fun e => base + e.2 }
        let s := setRgs (fun r => { r with programs := Tab.set r.programs k p }) s
        finish c.ref (success 0 0) (doAll (putProgram p) (presentGalleries s) s)

/-- The context record of an activation: what the keeper chose, with what the image and the device give (R424, R588). -/
def activeRecord (ctl : Nat) (p : Program) (g : Nat) (chosen : List Byte) : List Byte :=
  let img := p.image
  [2, BitVec.ofNat 8 (imgFlags img / 2 % 4), BitVec.ofNat 8 ctl] ++ sliceBytes chosen 3 5 ++ leBytes 4 (p.sections.headD p.base) ++ leBytes 4 g
    ++ leBytes 4 (imgBudget img) ++ sliceBytes img 24 4 ++ sliceBytes chosen 24 12 ++ leBytes 1 (imgEntries img) ++ zeros 27
    ++ sliceBytes img 32 32 ++ zeros 32

/-- Activate (R423). -/
def activateProgram (c : Cmd) (index ctx : Nat) (chosen : List Byte) (s : State) : State :=
  let k := programKey c.nsid index
  match Tab.get? s.rgs.programs k with
  | none => finish c.ref stInvalidField s
  | some p =>
    if index > 63 ∨ p.ctx.isSome ∨ ctx ≥ 4096 ∨ ctxState s ctx ≠ 0 then finish c.ref stInvalidField s
    else
      match fitIn (dataSpans s) 0x180000 0x300000 (sharedRun p.image).2 (runAlign p.image (sharedRun p.image).1) with
      | none => finish c.ref (statusOf 1 0xC6) s
      | some g =>
        let (ok, s') := writeContext ctx (activeRecord c.ref.ctl p g chosen) s
        if !ok then finish c.ref stInvalidField s'
        else
          let p := { p with ctx := some ctx, data := g, dataLen := (sharedRun p.image).2 }
          finish c.ref (success 0 0) (doAll (putProgram p) (presentGalleries s') (setProgram k (fun _ => p) s'))

/-- Executions of a context that are live. -/
def execsOf (s : State) (ctx : Nat) : List Nat := (s.rgs.execs.filter fun e => e.2.ctx == ctx).map Prod.fst

/-- A context is free again. -/
def freeContext (ctx : Nat) (s : State) : State :=
  setRgs (fun r => { r with contexts := Tab.adjust r.contexts ctx fun b => overlay b 0 [0] }) s

/-- Deactivations whose executions have ended complete (R417). -/
def checkDeactivate (s : State) : State :=
  doAll (fun (e : Nat × Program) s =>
    match e.2.ctx, e.2.stopping with
    | some c, some r =>
      if (execsOf s c).isEmpty then finish r (success 0 0) (setProgram e.1 (fun p => { p with ctx := none, dataLen := 0, stopping := none }) (freeContext c s)) else s
    | _, _ => s) s.rgs.programs s

/-- An Execute Program that waits for a program ends with a status. -/
def endWaitingExec (nsid index : Nat) (st : Completion) (s : State) : State :=
  doAll (fun (w : ExecWait) s => endUnstarted w.ref st s) (s.rgs.waiting.filter fun w => w.nsid == nsid && w.program == index) s

/-- Deactivate (R417): new executions stop. -/
def deactivateProgram (c : Cmd) (index : Nat) (s : State) : State :=
  let k := programKey c.nsid index
  match Tab.get? s.rgs.programs k with
  | none => finish c.ref stInvalidField s
  | some p =>
    if index > 63 ∨ p.ctx.isNone ∨ p.stopping.isSome then finish c.ref stInvalidField s
    else checkDeactivate (endWaitingExec c.nsid index stInvalidField (setProgram k (fun p => { p with stopping := some c.ref }) s))

/-! ## Memory range sets (R420) -/

/-- Memory Range Set Management. -/
def rangeSetManage (c : Cmd) (create : Bool) (rsid : Nat) (ranges : List (Nat × Nat × Nat)) (s : State) : State :=
  if !create then
    if Tab.has s.rgs.rangeSets rsid then finish c.ref (success 0 0) (setRgs (fun r => { r with rangeSets := Tab.del r.rangeSets rsid }) s)
    else finish c.ref stInvalidField s
  else
    match ranges with
    | [] => finish c.ref stInvalidField s
    | (nsid, _, _) :: _ =>
      let fits := (nsOf s nsid).any fun n => n.csi == 3 && ranges.all fun e => e.1 == nsid && e.2.2 != 0 && decide (e.2.1 + e.2.2 ≤ n.nsze)
      if ranges.length > 16 || !fits || !(ctlOf s c.ref.ctl).attached.contains nsid then finish c.ref stInvalidField s
      else
        let id := s.rgs.nextRangeSet
        finish c.ref (success id 0) (setRgs (fun r => { r with
          rangeSets := Tab.set r.rangeSets id { nsid := nsid, ranges := ranges.map Prod.snd }, nextRangeSet := id + 1 }) s)

/-- The SLM window of a range set: lowest start and highest end (R420). -/
def slmWindow (x : RangeSet) : Nat × Nat :=
  let lo := (minBy id (x.ranges.map Prod.fst)).getD 0
  (lo, x.ranges.foldl (fun m e => max m (e.1 + e.2)) lo)

/-! ## Executions (R450 to R454) -/

/-- The active program and range set an Execute Program names, where they are there. -/
def execTarget (s : State) (nsid index rsid : Nat) : Option (Nat × RangeSet × Namespace) :=
  match Tab.get? s.rgs.programs (programKey nsid index), Tab.get? s.rgs.rangeSets rsid with
  | some p, some x =>
    match p.ctx, nsOf s x.nsid with
    | some c, some n => if p.stopping.isSome then none else some (c, x, n)
    | _, _ => none
  | _, _ => none

/-- Execute Program arrives: it waits for a record and a slot, or fails (R450). -/
def executeProgram (c : Cmd) (index rsid : Nat) (params : List Byte) (s : State) : State :=
  let first := ((Tab.get? s.rgs.rangeSets rsid).bind fun x => x.ranges.head?).getD (0, 0)
  match execTarget s c.nsid index rsid with
  | none => finish c.ref stInvalidField s
  | some (ctx, _, _) =>
    if index > 63 ∨ params.length > 4096 ∨ params.length > first.2 ∨ ctxSlotCount s ctx = 0 then finish c.ref stInvalidField s
    else setRgs (fun r => { r with
      waiting := r.waiting ++ [{ ref := c.ref, nsid := c.nsid, program := index, rangeSet := rsid, params := params }] }) s

/-- The root ticket's descriptor (R450): entry 0, the ceiling's priority, every allowed gallery, parameters in P0 to P5. -/
def rootDesc (s : State) (ctx slot : Nat) (params : List Byte) : List Byte :=
  leBytes 8 (slot + ctx * 2 ^ 20 + ctxCeiling s ctx % 8 * 2 ^ 36 + ctxLe s ctx 4 2 * 2 ^ 48) ++ zeros 8 ++ sliceBytes params 0 48

/-- A free execution record (R450). -/
def freeExec (s : State) : Option Nat := ((upTo 8191).map (· + 1)).find? fun e => !Tab.has s.rgs.execs e

/-- The parameter data is fetched from host memory, while a request may be sent (R450). -/
def fetchParams (r : CmdRef) (params : List Byte) (s : State) : State :=
  if params = [] then s
  else
    let s := hostRequest r.ctl (.data r) s
    setLink (ctlLink s r.ctl) (fun l => { l with reqs := dropFirst (fun x => x.cause == .data r && !x.ended) l.reqs }) s

/-- An execution starts, where a record and a slot are free (R450). A command that its header refuses ends instead (R110). -/
def startExecution (r : CmdRef) (s : State) : State :=
  match s.rgs.waiting.find? (fun w => w.ref == r), awaitedOf s r with
  | some w, some c =>
    if sanitizing s then endUnstarted r stSanitizing s
    else if !mayStart s c || registrarRefuses s then s
    else if let some st := headerRefusal s c then endUnstarted r st s
    else
      match execTarget s w.nsid w.program w.rangeSet with
      | none => endUnstarted r stInvalidField s
      | some (ctx, x, n) =>
        match freeExec s, autoSlot s ctx with
        | some e, some slot =>
          let (lo, hi) := slmWindow x
          let s := setAwaited r (fun c => { c with phase := .started }) (unwait r s)
          let (code, s) := dramWrite 0 (n.slmBase + (x.ranges.headD (0, 0)).1) w.params (fetchParams r w.params s)
          if code ≠ 0 then finishAwaited r stInternal s
          else
            let s := setRgs (fun g => { g with
              contexts := Tab.adjust g.contexts ctx fun b => overlay b 40 (leBytes 8 (n.slmBase + lo) ++ leBytes 8 (hi - lo)),
              execs := Tab.set g.execs e { ref := r, ctx := ctx, root := slot, start := s.tsc } }) s
            placeTicket slot e (rootDesc s ctx slot w.params) s
        | _, _ => s
  | _, _ => s

/-- The completion of an execution that has ended (R451, R454); none after a controller or function reset. -/
def execCompletion (x : Execution) : Option Completion :=
  let of (sct sc : Nat) : Option Completion := some { statusOf sct sc with dw0 := x.lastStatus % 256, dw1 := x.failed }
  match x.cancel with
  | none => if x.failed = 0 then of 0 0 else of 1 0xC1
  | some .endFF => if x.failed = 0 then of 0 0 else of 1 0xC1
  | some .runLimit => of 1 0xC2
  | some .register => of 0 0x07
  | some .registrarReset => of 1 0xC3
  | some .sanitize => of 0 0x1D
  | some .controllerReset => none

/-- An execution ends once its root ticket has ended and it has no live slot (R451). -/
def endExecution (e : Nat) (s : State) : State :=
  match Tab.get? s.rgs.execs e with
  | none => s
  | some x =>
    if !(ticketsOf s e).isEmpty || !(movesOf s e).isEmpty then s
    else
      let s := setRgs (fun r => { r with execs := Tab.del r.execs e }) s
      checkDeactivate (match execCompletion x with
        | some cpl => finish x.ref cpl s
        | none => s)

/-! ## Subsystem local memory (R417, R419, R512) -/

/-- Read Memory. One that meets not-ready, or lies above the initialisation frontier, waits (R516, R523). -/
def readSlm (c : Cmd) (off len : Nat) (s : State) : State :=
  match ioNamespace s c 3 with
  | .inl st => finish c.ref st s
  | .inr n =>
    if len > 262144 then finish c.ref stInvalidField s
    else if off + len > n.nsze then finish c.ref stLbaRange s
    else
      let (ans, t) := dramRead 0 (n.slmBase + off) len s
      if ans.code = 0 then finish c.ref (success 0 0) (sendData c.ref ans.bytes t)
      else if ans.code = 2 then s
      else finish c.ref stUnrecovered t

/-- Write Memory. -/
def writeSlm (c : Cmd) (off : Nat) (data : List Byte) (s : State) : State :=
  match ioNamespace s c 3 with
  | .inl st => finish c.ref st s
  | .inr n =>
    if data.length > 262144 then finish c.ref stInvalidField s
    else if off + data.length > n.nsze then finish c.ref stLbaRange s
    else
      let (code, t) := dramWrite 0 (n.slmBase + off) data s
      if code = 0 then finish c.ref (success 0 0) t
      else if code = 2 then s
      else finish c.ref stInternal t

/-! ## Filling a window half (R447, R448, R512) -/

/-- The record of a window's read of an MU, with its channel. -/
def streamRecord (s : State) (g w gmu : Nat) : Option (Nat × ChanDone) :=
  s.flash.chans.findSome? fun c => (c.2.done.find? fun d => d.origin == .stream g w gmu && !d.taken).map fun d => (c.1, d)

/-- A window's read of an MU is sent, in class 0 and decrypted, where none is under way (R193, R447). -/
def streamSend (g w gmu : Nat) (n : Namespace) (s : State) : State :=
  let e := mapEntry s gmu
  if s.flash.chans.any (fun c => c.2.queue.any fun o => o.origin == .stream g w gmu) || s.flash.aborted.any (fun o => o.2.origin == .stream g w gmu) then s
  else submitOp (psaChannel (entryPsa e)) {
    desc := { op := 1, cls := 0, flags := if (variant s).crypto then 4 else 0, count := entrySlots e, psa := entryPsa e,
              keyWord := if (variant s).crypto then n.keySlot else 0, tag := gmu % 2 ^ 32 },
    origin := .stream g w gmu } (setCmp (fun x => { x with scanned := x.scanned.filter fun e => e.1 != (g, w, gmu) }) s)

/-- A scan's inline decompression (R322, R348): what it gives, once, or nothing yet while it waits for an engine. -/
def scanDecode (g w gmu psa : Nat) (stored : List Byte) (s : State) : Option (Option (List Byte)) × State :=
  match s.cmp.scanned.find? fun e => e.1 == (g, w, gmu) with
  | some e => (some e.2, s)
  | none =>
    let use : InlineUse := .scanMu g w gmu
    let s := if (inlineEngine s use).isSome || s.cmp.waiting.any (fun x => x.1 == use) then s
      else inlineRequest use true stored (preferredIsland (psaWing psa)) s
    match inlineEngine s use with
    | none => (none, s)
    | some eng =>
      let s := inlineEnd use s
      let keep (r : Option (List Byte)) (s : State) : State := setCmp (fun x => { x with scanned := x.scanned ++ [((g, w, gmu), r)] }) s
      match mediaDecode stored stored.length with
      | (0, out) => let r := some (padTo 16384 out)
        (some r, keep r (bumpReg64 (cmpPage eng.island) 0x58 out.length s))
      | _ => (some none, keep none (inlineDataError eng.island 0 s))

/-- What a stream has of an MU: its 16 KiB, or none where it cannot be read or decompressed; nothing yet while its read is under way, or its entry is in flight or to
be restored (R228, R248, R447, R448). -/
def streamMu (g w : Nat) (n : Namespace) (mu : Nat) (s : State) : Option (Option (List Byte)) × State :=
  let gmu := gmuOf n mu
  let e := mapEntry s gmu
  match streamRecord s g w gmu with
  | some (ch, d) =>
    if d.status ≤ 2 then
      if oobRaw (startOob s d.desc.psa) then (some (some d.data), s) else scanDecode g w gmu d.desc.psa d.data s
    else if d.status = 0x15 ∨ d.status = 0x17 ∨ d.status = 0x19 then (none, takeDone ch d s)
    else if entryState e ≠ 1 ∨ entryWrong s gmu ∨ d.desc.psa ≠ entryPsa e then (none, takeDone ch d s)
    else if d.status = 0x10 then
      match recoverRead gmu (takeDone ch d s) with
      | some s => (none, s)
      | none => (some none, s)
    else (some none, s)
  | none =>
    if s.cur.badMus.contains gmu || s.cur.lostMus.contains gmu || !keyThere s n then (some none, s)
    else if entryWrong s gmu then (none, capture 160 0x20 (8 * gmu) s)
    else if entryState e = 3 then (none, hurry (entryPsa e) s)
    else if entryState e = 1 then (none, if relocating s gmu && psaFenced s (entryPsa e) then s else streamSend g w gmu n s)
    else (some (some (zeros 16384)), s)

/-- The bytes of a namespace from an offset on: whether every MU could be read, and the bytes, with free ones for an MU that could not; none while an MU is awaited.
The reads' slots are then released. -/
def streamNs (g w nsid a len : Nat) (s : State) : Option (Bool × List Byte) × State :=
  match nsOf s nsid with
  | none => let (bs, s) := drawBytes s len
    (some (false, bs), s)
  | some n =>
    if len = 0 then (some (true, []), s)
    else if !s.cur.mediaReady then
      let (bs, s) := drawBytes s len
      (some (false, bs), s)
    else
      let mus := (upTo ((a + len - 1) / 16384 - a / 16384 + 1)).map (· + a / 16384)
      let (got, s) := mus.foldl (fun (p : Option (Bool × List Byte) × State) mu =>
        match streamMu g w n mu p.2 with
        | (none, s) => (none, s)
        | (some (some m), s) => (p.1.map fun x => (x.1, x.2 ++ m), s)
        | (some none, s) => let (m, s) := drawBytes s 16384
          (p.1.map fun x => (false, x.2 ++ m), s)) (some (true, []), s)
      match got with
      | none => (none, s)
      | some (ok, bs) =>
        (some (ok, sliceBytes bs (a % 16384) len),
         setCmp (fun x => { x with scanned := x.scanned.filter fun e => !(e.1.1 == g && e.1.2.1 == w) })
           (doAll (fun mu s => match streamRecord s g w (gmuOf n mu) with
             | some (ch, d) => takeDone ch d s
             | none => s) mus s))

/-- The bytes of the SLM window from a DRAM address on, with free ones for a burst that is poisoned; none while the access waits. -/
def streamSlm (a len : Nat) (s : State) : Option (Bool × List Byte × State) :=
  if dramRefuses s then none
  else
    (burstsOf a len).foldl (fun (acc : Option (Bool × List Byte × State)) b =>
      match acc with
      | none => none
      | some (ok, bs, s) =>
        match readBurst b.1 b.2 0 s with
        | (0, x, s') => some (ok, bs ++ x, s')
        | (2, _, _) => none
        | (_, _, s') => let (x, s'') := drawBytes s' b.2
          some (false, bs ++ x, s'')) (some (true, [], s))

/-- The half of a window that is filled next: an empty one, in turn. -/
def nextHalf (x : Window) : Option Nat :=
  let h := x.fills % 2
  if !(x.half h).filled then some h else if !(x.half (1 - h)).filled then some (1 - h) else none

/-- The data mover fills a half of a window with whole records (R447, R448); a half of a namespace's bytes once every MU it needs has come through its channel. -/
def fillHalf (g w : Nat) (s : State) : State :=
  let x := window s g w
  match x.bound with
  | none => s
  | some n =>
    match Tab.get? s.rgs.moves n, nextHalf x with
    | some m, some h =>
      if x.ended || m.stopped || islandRefuses s (.gallery g) then s
      else
        let len := min (32768 / m.recLen * m.recLen) (m.length - m.delivered)
        let (got, s) := if m.kind = 0 then streamNs g w m.nsid (m.src + m.delivered) len s
          else match streamSlm (addrMask (ctxSlmBase s m.ctx + m.src + m.delivered)) len s with
            | none => (none, s)
            | some (ok, bs, s) => (some (ok, bs), s)
        match got with
        | none => s
        | some (ok, bs) =>
          let done := decide (m.delivered + len ≥ m.length)
          let s := setRgs (fun r => { r with moves := Tab.adjust r.moves n fun m => { m with
            delivered := m.delivered + len, failedHalves := m.failedHalves + flag (!ok), ended := done } }) s
          let s := setWindow g w (fun x => { x.setHalf h (fun _ => { filled := true, err := !ok, data := bs, order := x.fills }) with
            fills := x.fills + 1, ended := done }) s
          onlyIf (decide (m.kind = 0)) (setAdm fun a => { a with scannedBytes := a.scannedBytes + len }) s
    | _, _ => s

end Sys2Proof.Machine
end

