-- ==== Sys2Proof/Machine/Fabric.lean ====
section
/-! DEFINITION. Islands as units of service: requests held in crossings, quiesce, re-initialisation, readiness (chapters 01, 02, 15). -/

namespace Sys2Proof.Machine

/-- Changes the fabric, the Conservator, the power state. -/
def setFab (f : Fabric → Fabric) (s : State) : State := { s with fab := f s.fab }
def setCare (f : Care → Care) (s : State) : State := { s with care := f s.care }
def setPwr (f : Power → Power) (s : State) : State := { s with pwr := f s.pwr }

/-! ## Crossings (R22 to R28) -/

/-- The page that captures a common error of a request, and the address it names (R59). -/
def crossPage (r : CrossReq) : Nat × Nat :=
  match r.op with
  | .pageRead page off _ => (page, pageAddr page off)
  | .pageWrite page off _ _ => (page, pageAddr page off)
  | .memRead a _ => (r.dst.primary, a)
  | .memWrite a _ => (r.dst.primary, a)
  | .post chan _ => (mbxPage chan, pageAddr (mbxPage chan) (mbxBase chan))
  | .wake => (r.dst.primary, pageAddr r.dst.primary 0)

/-- A request is answered: it leaves the crossing and its response goes back. -/
def crossAnswer (r : CrossReq) (error : Nat) (data : List Byte) (s : State) : State :=
  setFab (fun f => { f with
    requests := f.requests.filter (fun x => x.id != r.id),
    responses := f.responses ++ [{ id := r.id, dest := r.src, epoch := r.epoch, error := error, read := r.op.isRead, data := data }] }) s

/-- A request reaches an island that a low-power state has gated: it is held and the wake event raised (R24). -/
def heldBy (s : State) (i : Island) (off : Nat) : Bool := islandPresent s i && islandAsleep s i && decide (off ≥ 0x40)

/-- Holds a request in its crossing. -/
def holdRequest (r : CrossReq) (s : State) : State :=
  setIsl r.dst (fun h => { h with wakePending := true }) (setFab (fun f => { f with requests := f.requests ++ [r] }) s)

/-- An identifier that no request in a crossing has. -/
def freshId (s : State) : Nat := s.fab.requests.foldl (fun n r => max n (r.id + 1)) (s.fab.responses.foldl (fun n r => max n (r.id + 1)) 0)

/-- A request is refused with a common error, which is captured (R25, R27, R59). -/
def crossRefuse (r : CrossReq) (error : Nat) (s : State) : State :=
  let (page, addr) := crossPage r
  crossAnswer r error [] (capture page error addr s)

/-- Requests still on the send side of a unit's crossings end with the not-ready error (R26). -/
def endSendSide (i : Island) (s : State) : State :=
  doAll (fun r s => crossRefuse r 2 s) (s.fab.requests.filter fun r => r.dst == i && r.place == .sendSide) s

/-- A request in service ends with the island-reset error (R27 for a write burst; a read too: log 134). -/
def endInService (i : Island) (s : State) : State :=
  doAll (fun r s => crossRefuse r 3 s) (s.fab.requests.filter fun r => r.dst == i && r.place == .inService) s

/-! ## Pages on which the controls act (R51) -/

/-- A page whose reinit bit acts: a primary page, but for ALWAYS-ON. -/
def reinitPage (page : Nat) : Bool :=
  match pageIsland page with
  | some i => i.primary == page && i != .alwaysOn
  | none => false

/-- A page whose quiesce_req acts: an FCH page or a primary page but the KEEPER's. -/
def quiescePage (page : Nat) : Bool := (decide (64 ≤ page) && decide (page < 160)) || (reinitPage page && page != 224)

/-! ## Quiesce (R26, R52, R53, R616) -/

/-- The unit that a page controls has no work in service (R616). -/
def unitIdle (s : State) (page : Nat) : Bool :=
  if 64 ≤ page ∧ page < 160 then !((chan s (page - 64)).queue.any (·.started))
  else
    match pageIsland page with
    | some (.wing w) => (chansOf w).all fun ch => !((chan s ch).queue.any (·.started))
    | some .accession => s.acc.cmds.all fun c => !(c.started && c.cpl.isNone) || (c.ref.sq == 0 && c.opcode == 0x0C)
    | some (.gallery g) => (gal s g).cores.all fun e => e.2.serving.isNone
    | some .registrar => s.gals.all fun x => x.2.cores.all fun e => e.2.serving.isNone
    | some .catalogue => s.cat.running.isNone && s.gals.all fun x => x.2.cores.all fun e => e.2.searching.isNone
    | some (.compress c) => s.cmp.jobs.all (fun j => j.2.island != c) && s.cmp.engines.all (fun e => e.island != c)
    | some (.dram n) => !(drc s n).caRetrain && (drc s n).slice.isNone && (drc s n).retry.isEmpty
    | some .security => s.sec.msg.isNone && !s.sec.dge0.busy && !s.sec.dge1.busy
    | some (.host _) => true
    | some .keeper => true
    | some .alwaysOn => true
    | none => true

/-- A quiesce is asked for (R26, R52). -/
def quiesceRequest (page : Nat) (s : State) : State :=
  if !pagePresent s page || !quiescePage page then s
  else
    match pageIsland page with
    | some i => noteReady i (fun s =>
        let s := setHdr page (fun h => { h with quiesceReq := true }) s
        if i.primary = page then endSendSide i s else s) s
    | none => s

/-- A quiesce is complete (R52, R523): a DRAM channel pays its debt and enters self-refresh. -/
def quiesceDone (page : Nat) (s : State) : State :=
  let h := hdr s page
  if !h.quiesceReq || h.quiesced || h.busy || !unitIdle s page then s
  else
    let s := setQuiesced page true s
    if 240 ≤ page ∧ page < 248 then setDrc (page - 240) (fun c => { c with debt0 := 0, debt1 := 0, state := if drcTrained c then 5 else c.state }) s else s

/-- A unit returns to service, or its quiesce is abandoned (R52, R53). -/
def quiesceRelease (page : Nat) (s : State) : State :=
  if !pagePresent s page || !quiescePage page then s
  else
    let was := (hdr s page).quiesced
    let s := match pageIsland page with
      | some i => noteReady i (fun s => setQuiesced page false (setHdr page (fun h => { h with quiesceReq := false }) s)) s
      | none => s
    let s := if pageIsland page = some (.compress 0) ∨ pageIsland page = some (.compress 1) then serveInline s else s
    if 240 ≤ page ∧ page < 248 ∧ was then setDrc (page - 240) (fun c => { c with state := if c.state = 5 then servingState c else c.state }) s else s

/-! ## What re-initialisation loses (R616) -/

/-- The domain I fields of an island's page headers and block registers return to their reset values (R9, R48). A HOST
island's rate cap (R87) is among them, so the training that its re-initialisation starts runs without the cap written before (DESIGN CHOICE,
log 139). -/
def resetIslandPages (i : Island) (s : State) : State :=
  let one (h : PageHdr) : PageHdr := { ({} : PageHdr) with fenced := h.fenced, scratch := h.scratch }
  let s := doAll (fun p s => setHdr p one s) ((pagesOf i).filter (pagePresent s)) s
  resetRegs (fun page r => pageIsland page == some i && r.dom == .i) s

/-- HOST: a surprise down of every sub-link (R80). -/
def hostReinit (p : Nat) (s : State) : State :=
  doAll (fun sub s => surpriseDown p sub s) (upTo (subLinks s p)) s

/-- ACCESSION: contexts and arbitration are lost, CSTS.CFS is set on every enabled controller (R616). -/
def accessionReinit (s : State) : State :=
  let on := s.acc.ctls.keys.filter fun c => (ctlOf s c).enabled
  let s := doAll (fun c s => setCtl c (fun x => { x with cfs := true }) (endCommands c s)) on s
  let s := setAcc (fun a => { a with
    cmds := a.cmds.filter (fun c => c.silent), adminTurn := 0, ioTurn := 0, ioLeft := 0, credits := [], exhausted := [] }) s
  onlyIf (on != []) (raiseIrq 16 0x100) s

/-- Halves of a move that have not been delivered (R448). -/
def undelivered (m : Move) (x : Window) : Nat :=
  let half := if m.recLen = 0 then 32768 else 32768 / m.recLen * m.recLen
  ceilDiv (m.length - m.delivered) half + flag (x.half0.filled && x.half0.holder.isNone) + flag (x.half1.filled && x.half1.holder.isNone)

/-- A stream bound to a window ends, its undelivered halves counted as failed (R448, R616). -/
def endWindow (g w : Nat) (s : State) : State :=
  let x := window s g w
  match x.bound with
  | none => s
  | some n =>
    match Tab.get? s.rgs.moves n with
    | none => setWindow g w (fun _ => {}) s
    | some m =>
      let failed := m.failedHalves + undelivered m x
      endMove n (if failed = 0 then 0 else 1) failed (setWindow g w (fun _ => {}) s)

/-- A ticket in service on a core of a gallery that is lost (R457). -/
def loseService (g k : Nat) (s : State) : State :=
  match (getCore s (.docent g k)).serving with
  | none => s
  | some n =>
    let cancelled := match Tab.get? s.rgs.tickets n with
      | some t => execCancelled s t.exec
      | none => false
    let s := idleCore g k s
    if cancelled then failTicket n true s else redispatchOrFail n s

/-- GALLERY: local and shared memories, cores and windows (R457, R616). Activity, fences and the spare stay (R459), and the events
selected for the cores' counters, which belong to the KEEPER island (R594). -/
def galleryReinit (g : Nat) (s : State) : State :=
  let s := doAll (fun k s => loseService g k s) ((gal s g).cores.map Prod.fst) s
  let s := doAll (fun w s => endWindow g w s) ((gal s g).windows.map Prod.fst) s
  let s := clearMem (galleryBase g) (galleryBase g + 0x1000000) s
  setGal g (fun x => { x with
    cores := Tab.mapVals x.cores fun _ c => { ({} : Core) with pmcSel := c.pmcSel }, windows := [], icacheInvs := 0, dropCaptured := false }) s

/-- Admin commands in service complete with Internal Error, and what they had staged in the keeper is lost (R616). -/
def adminAbort (s : State) : State :=
  let out := s.acc.cmds.filter fun c => c.ref.sq == 0 && c.phase == .started && c.cpl.isNone && c.opcode != 0x0C
  let s := doAll (fun c s => finish c.ref stKeeperReset s) out s
  setAcc (fun a => { a with stopActivation := false }) (setAdm (fun a => { a with selfTest := none, activation := none }) s)

/-- KEEPER: keeper memories and cores, the SCE lock, the live schedule, monitors and the keeper cores' counters (R301, R538, R616).
Of the Docent cores' counters it holds the events selected and the sample counts, not the values (R586, R594). -/
def keeperReinit (s : State) : State :=
  let s := adminAbort s
  let s := sceForceRelease s
  let s := clearMem 0x011000000000 0x011001800000 s
  let s := { s with
    kprs := [], gals := Tab.mapVals s.gals fun _ x => { x with
      cores := Tab.mapVals x.cores fun _ c => { c with pmcSel := [], sampleLeft := 0 } } }
  setCare (fun c => { c with
    monitors := [], monLatch := [], breach := [], floor := false, softReads := [], cal := none }) s

/-- A keeper core starts: core 0 in the boot ROM after a reset, another at KPR_START_k (R413, R598). -/
def keeperStart (k : Nat) (rom : Bool) (s : State) : State :=
  let pc := if rom && k == 0 then bootRomBase else keeperLocalBase 0 + 4 * regField s 224 (0x48 + 4 * k) 31 2
  setCore (.keeper k) (fun c => { ({} : Core) with
    running := true, pc := BitVec.ofNat 48 pc, pmcCycles := c.pmcCycles, pmc := c.pmc, pmcSel := c.pmcSel, pmcOvf := c.pmcOvf }) s

/-- The keeper cores whose run bit is set start again. -/
def keeperRestart (s : State) : State :=
  doAll (fun k s => keeperStart k true s) ((upTo 4).filter fun k => regBit s 224 0x40 k) s

/-- REGISTRAR: lists, slots and executions; contexts stay (R454, R462). -/
def registrarReinit (s : State) : State :=
  let s := doAll (fun e s => cancelExecution e .registrarReset s) (s.rgs.execs.map Prod.fst) s
  let s := doAll (fun e s => finish e.2.ref (statusOf 1 0xC3) s) (s.rgs.execs.filter fun e => e.2.cancel == some .registrarReset) s
  let s := setRgs (fun r => { r with
    tickets := [], moves := [], lists := [], flows := [], delays := Tab.mapVals r.delays (fun _ _ => { base := s.tsc }), execs := [], lastGallery := 0,
    lastSet := [], nextOrder := 0, loads := [] }) s
  let idle (c : Core) : Core := { c with serving := none, stopAt := none, stalled := false, searching := none, products := [] }
  checkDeactivate { s with gals := Tab.mapVals s.gals fun _ x => { x with
    windows := [], dropCaptured := false, cores := Tab.mapVals x.cores fun _ c => idle c } }

/-- CATALOGUE: every entry and chain; searches end with status 4 (R486). -/
def catalogueReinit (s : State) : State :=
  let ended (c : Core) : Core := if c.searching.isSome then { c with searching := none, result := some (resultWord false false 4 false 0) } else c
  catLose { s with gals := Tab.mapVals s.gals fun _ x => { x with cores := Tab.mapVals x.cores fun _ c => ended c } }

/-- SECURITY: every slot; the message and the parts in service end (R527, R538, R569, R616). -/
def securityReinit (s : State) : State :=
  let s := dgeClearBoth 0 (sceForceRelease s)
  xtsClear (setSec (fun x => { x with slots := [], sceStatus := 0, sceInvoc := 0, keyResult := 0, shown := {}, dge0 := {}, dge1 := {} }) s)

/-- An island's own losses. -/
def islandLoses (i : Island) (s : State) : State :=
  match i with
  | .host p => hostReinit p s
  | .accession => accessionReinit s
  | .wing w => settle (wingReinit w s)
  | .gallery g => galleryReinit g s
  | .keeper => keeperReinit s
  | .registrar => registrarReinit s
  | .catalogue => catalogueReinit s
  | .compress c => cmpReinit c s
  | .dram n => setDrc n (fun c => { c with
      slice := none, retrainGo := false, caRetrain := false, replays := 0, retry := [], lastBank := none, bgCredit := 0,
      state := if drcTrained c && c.state != 6 then servingState c else c.state, debt0 := 0, debt1 := 0, ind0 := 0, ind1 := 0 }) s
  | .security => securityReinit s
  | .alwaysOn => s

/-- Re-initialisation of an island starts (R27, R28, R51, R53, R616). The domain I fields of its pages return to their reset values
first, so that the errors with which it ends the requests before it stay captured (R59; log 135). -/
def islandReinit (i : Island) (s : State) : State :=
  if !islandPresent s i || i == .alwaysOn then s
  else noteReady i (fun s =>
    let s := islandLoses i s
    let s := resetIslandPages i (wakeKeepers s)
    let s := endInService i (endSendSide i s)
    let s := setIsl i (fun h => { h with epoch := h.epoch + 1, utilLevel := 0 }) s
    doAll (fun p s => setHdr p (fun h => { h with busy := true }) s) ((pagesOf i).filter (pagePresent s)) s) s

/-- What an island does once it is ready again (R301, R459, R527, R598, R617). -/
def islandServes (i : Island) (s : State) : State :=
  match i with
  | .wing w => wingReady w s
  | .keeper => keeperRestart s
  | .security => if s.sec.latched.isEmpty && !s.sec.fuseAlarm then deriveKeys s else s
  | .host _ => s
  | .accession => s
  | .gallery g => restoreGallery g s
  | .registrar => s
  | .catalogue => s
  | .compress _ => serveInline s
  | .dram _ => s
  | .alwaysOn => s

/-- An island finishes its restart: ready is set and ready_change raised (R55, R616); an island that was off is on (R597). -/
def islandReady (i : Island) (s : State) : State :=
  if !(hdr s i.primary).busy || (isl s i).power = 0 then s
  else
    let s := onlyIf (decide ((isl s i).power = 1)) (raiseIrq 1 0x400) s
    let s := setIsl i (fun h => { h with power := if h.power = 1 then 2 else h.power, wakePending := false }) s
    let s := noteReady i (fun s =>
      doAll (fun p s => setHdr p (fun h => { h with busy := false, ready := true }) s) ((pagesOf i).filter (pagePresent s)) s) s
    islandServes i s

/-- A sleeping island is awake: what its crossing holds is served (R24, R577). A DRAM channel leaves self-refresh. -/
def islandWake (i : Island) (s : State) : State :=
  if !islandPresent s i then s
  else
    let s := match i with
      | .dram n => setDrc n (fun c => { c with state := if c.state = 5 && islandAsleep s i then servingState c else c.state }) s
      | .host _ | .accession | .wing _ | .gallery _ | .keeper | .registrar | .catalogue | .compress _ | .security | .alwaysOn => s
    setIsl i (fun h => if h.power = 2 ∨ h.power = 3 then { h with power := 2, wakePending := false } else h) s

/-! ## Power of single islands (R597, R621) -/

/-- An island that PWR_ISL_s controls. -/
def switchable : Island → Bool
  | .gallery _ => true
  | .compress _ => true
  | .catalogue => true
  | .host _ => false
  | .accession => false
  | .wing _ => false
  | .keeper => false
  | .registrar => false
  | .dram _ => false
  | .security => false
  | .alwaysOn => false

/-- A write of PWR_ISL_s. -/
def islandPowerWrite (n : Nat) (off : Bool) (s : State) : State :=
  let addr := pageAddr 1 (0x100 + 4 * n)
  match islandOfSensor n with
  | none => capture 1 0x20 addr s
  | some i =>
    if !switchable i || !islandPresent s i then capture 1 0x20 addr s
    else if off then
      if (isl s i).power = 0 then s
      else if !(hdr s i.primary).quiesced then capture 1 0x21 addr s
      else
        let other := match i with
          | .compress c => decide ((isl s (.compress (1 - c))).power = 0)
          | .gallery _ | .catalogue | .host _ | .accession | .wing _ | .keeper | .registrar | .dram _ | .security | .alwaysOn => false
        if other then capture 1 0x22 addr s
        else raiseIrq 1 0x400 (noteReady i (fun s => setIsl i (fun h => { h with power := 0 }) (islandLoses i (putReg 1 (0x100 + 4 * n) 1 s))) s)
    else if (isl s i).power ≠ 0 then s
    else raiseIrq 1 0x400 (islandReinit i (setIsl i (fun h => { h with power := 1 }) (putReg 1 (0x100 + 4 * n) 0 s)))

/-- The keeper firmware's rung 2 for an island that does not become ready (R316, R613). After the third attempt it asks for a
quiesce, which the KEEPER island does not have (R51). -/
def autoReinit (n : Nat) (s : State) : State :=
  match islandOfSensor n with
  | none => s
  | some i =>
    let h := hdr s i.primary
    if i == .alwaysOn || !islandPresent s i || h.errCode == 0 || h.quiesced || h.quiesceReq then s
    else
      let recent := (isl s i).autoReinits.filter fun t => decide (s.tsc ≤ t + 3600 * 10 ^ 9)
      if recent.length < 3 then islandReinit i (setIsl i (fun x => { x with autoReinits := recent ++ [s.tsc] }) s)
      else
        let cap := h.errCode + (pageBlock i.primary).1 % 256 * 256 + h.errCount * 65536
        let s := setAdm (fun a => { a with islandRecords := a.islandRecords ++ [{ sensor := n, errCap := cap, errAddr := h.errAddr, tsc := s.tsc }] }) s
        asyncAll { type := 7, info := 0, lid := 0xC6 } (quiesceRequest i.primary s)

end Sys2Proof.Machine
end

