-- ==== Sys2Proof/Machine/Reset.lean ====
section
/-! DEFINITION. Power-on, device reset and start-up, and the NVMe power states (chapters 15, 16). -/

namespace Sys2Proof.Machine

/-! ## Start-up (R70, R97, R98, R164, R598, R635) -/

/-- A firmware image verifies: magic, length, digest, signature and rollback level (R160, R162, R558). -/
def imageOk (s : State) (x : FwImage) : Bool :=
  sliceBytes x.bytes 0 4 == ascii "QKFW" && leAt x.bytes 4 4 == x.bytes.length && decide (64 ≤ x.bytes.length)
    && decide (x.bytes.length ≤ 4194304) && x.digest == sha256.hash x.bytes && firmwareSigned s x

/-- The revision an image reports. -/
def FwImage.rev (x : FwImage) : List Byte := sliceBytes x.bytes 8 8

/-- A slot boots. -/
def slotBoots (s : State) (n : Nat) : Bool := (Tab.get? s.adm.slots n).any fun x => imageOk s x && decide (leAt x.bytes 16 4 ≥ s.fuses.rollback)

/-- An entry of log 0xCA (R153). -/
def logFw (e : FwEvent) (s : State) : State := setAdm (fun a => { a with fwLog := (e :: a.fwLog).take 16 }) s

/-- The boot ROM picks the image (R153, R164). -/
def bootImage (s : State) : State :=
  let want := s.adm.bootSelect
  let other := 3 - want
  let run := if !slotBoots s want && slotBoots s other then other else want
  let rev := ((Tab.get? s.adm.slots run).map FwImage.rev).getD []
  let entry (result action : Nat) : FwEvent :=
    { tsc := s.tsc, prev := s.adm.runningRev, next := rev, slot := run, action := action, result := result, ctl := 0xFF, pauseUs := 0 }
  let s := if run ≠ want then logFw (entry 3 s.adm.commitAction) s
    else if s.adm.commitAction ≠ 0 ∨ rev ≠ s.adm.runningRev then logFw (entry 2 s.adm.commitAction) s else s
  setAdm (fun a => { a with runningSlot := run, runningRev := rev, commitAction := 0 }) s

/-- The bifurcation asked for a port, and that in effect (R68, R70). -/
def askedBif (s : State) (p : Nat) : Nat := (if p = 0 then s.boot.bifurcation0 else s.boot.bifurcation1) % 4
def bifBad (s : State) (p : Nat) : Bool :=
  askedBif s p == 3 || (askedBif s p == 2 && decide ((variant s).lanes / (variant s).ports = 8))
def effectiveBif (s : State) (p : Nat) : Nat := if bifBad s p then 0 else askedBif s p

/-- Both ports take their configuration, and the pools are divided among the physical functions (R69, R70, R98). The equal share of the
VI pool is held whole, as in R98's example of 8,192; R97's most of 2,047 bounds the vectors in use and what the host may ask for. -/
def configurePorts (s : State) : State :=
  let ports := upTo (variant s).ports
  let s := setLinkSt (fun l => { l with bifurcation := ports.map fun p => (p, effectiveBif s p) }) s
  let s := doAll (fun p s => if bifBad s p then capture (8 + 4 * p) 0x24 (pageAddr (8 + 4 * p) 0x48) s else s) ports s
  let pfs := ports.flatMap fun p => (upTo (subLinks s p)).map fun sub => pfOf s p sub
  doAll (fun c s => setCtl c (fun x => { x with vq := 16384 / pfs.length, vi := 16384 / pfs.length }) s) pfs s

/-- Every sub-link enters Detect, where the host link may train (R67, R599, R635). -/
def linksDetect (s : State) : State :=
  let s := setLinkSt (fun l => { l with trainable := !fuseBad s && s.boot.sfdp }) s
  doAll (fun p s => doAll (fun sub s => setLink (4 * p + sub) (fun l => { l with training := s.link.trainable }) s) (upTo (subLinks s p)) s)
    (upTo (variant s).ports) s

/-- The sequence of R598 up to the start of the keeper firmware. -/
def startUp (s : State) : State :=
  let s := setPwr (fun p => { p with started := true, inReset := false, kicked := s.tsc }) s
  let s := if fuseBad s then raiseIrq 2 0x100 (setSec (fun x => { x with fuseAlarm := true }) s) else deriveKeys s
  let s := if s.boot.sfdp then s else capture 1 0x25 (pageAddr 1 0x40) s
  let s := linksDetect (configurePorts s)
  let s := bootImage s
  let s := doAll (fun p s => setReady p true s) ((upTo 264).filter (pagePresent s)) s
  let s := doAll (fun n s => setDrc n (fun c => { c with state := 1 }) s) (upTo (variant s).dram) s
  keeperStart 0 true (setAcc (fun a => { a with stopPower := false }) s)

/-! ## Resets (R608 to R610) -/

/-- HOST islands are reset at once; their controllers' commands end (R609). -/
def resetHosts (s : State) : State :=
  let s := doAll flrOne s.acc.ctls.keys s
  setLinkSt (fun l => { l with links := [], firmwareRuns := false, trainable := false }) s

/-- What a controller keeps through a device reset: its errors and the namespaces attached. -/
def freshCtl (s : State) (c : Nat) (x : Controller) : Controller :=
  { ({} : Controller) with
    errors := x.errors, errCount := x.errCount, changedNs := x.changedNs, attached := x.attached, feats := savedFeats s c,
    apst := Tab.getD s.adm.apstSaved c [] }

/-- Memory that the device holds outside DRAM. -/
def clearOnChip (s : State) : State := clearMem 0x010000000000 0x020000000000 s

/-- The last schedule record as the TSC of a power-on sees it (R20, R301): the moments of before count from 0. -/
def fromPowerOn (x : Schedule) : Schedule := { x with
  patrolStart := 0, calTimes := Tab.mapVals x.calTimes (fun _ _ => 0), trainTimes := Tab.mapVals x.trainTimes (fun _ _ => 0) }

/-- Everything but the HOST islands returns to its reset state, with what R610 keeps kept. A namespace keeps its feature 0x05, whose reset
domain R159 does not give (DESIGN CHOICE, log 146). -/
def resetAll (cause : ResetCause) (s : State) : State :=
  let on := decide (cause = .powerOn)
  let fl := s.flash
  let cu := s.cur
  let ad := s.adm
  let ca := s.care
  let sched := if on then fromPowerOn ca.saved else ca.saved
  let s := clearOnChip s
  let ctls := s.acc.ctls.map fun e => (e.1, freshCtl s e.1 e.2)
  { s with
    tsc := if on then 0 else s.tsc
    fab := { pages := [], tscSeen := if on then 0 else s.fab.tscSeen,
             islands := Tab.mapVals s.fab.islands fun _ h => { ({} : IslandHdr) with ageMv := h.ageMv },
             regs := if on then [] else Tab.keep s.fab.regs fun k _ => keepsReg (fun _ r => r.dom != .p) k }
    acc := { ctls := ctls }
    adm := { ad with
      feats := ad.featsSaved, download := [], activation := none, format := none, nsWaits := [], selfTest := none, sideband := none, smbusArb := ad.smbusArb && !on,
      namespaces := Tab.mapVals ad.namespaces fun _ n => { n with notReady := false, deleting := none } }
    flash := { media := fl.media, fences := fl.fences.map fun e => { e with state := if e.state = 1 then 0 else e.state },
               tR := fl.tR, tSoft := fl.tSoft, tProgSlc := fl.tProgSlc, tBers := fl.tBers }
    cur := { cu with
      wb := [], packing := [], reads := [], writes := [], tail := [], seqs := [], gens := [], badMus := [], dumping := none, recovering := false,
      mediaReady := false, journalBad := false, rebuilds := [], changed := [], rootAt := if on then 0 else cu.rootAt,
      dumpSets := { cu.dumpSets with consuming := [], erasing := none, resume := false },
      sets := Tab.mapVals cu.sets fun n x => { x with
        written := [], failed := [], age := Tab.getD ca.saved.ages n 0, closedAt := if on then 0 else x.closedAt },
      holdup := { cu.holdup with measuring := false, shown := 0, charged := cu.holdup.charged && !on, budget := 0, valid := false, low := false, due := s.tsc } }
    care := { sensors := ca.sensors, live := sched, saved := sched, counts := ca.counts, lifetimeAt := if on then 0 else ca.lifetimeAt,
              verified := if on then Tab.mapVals ca.verified (fun _ _ => 0) else ca.verified }
    cmp := {}
    gals := []
    kprs := []
    rgs := { programs := Tab.mapVals s.rgs.programs fun _ p => { p with ctx := none, stopping := none } }
    cat := {}
    mbx := []
    dram := {}
    sec := { records := s.sec.records, log := s.sec.log, total := s.sec.total, lastSource := if on then 0xFF else s.sec.lastSource,
             lastDetector := if on then 0 else s.sec.lastDetector, lastTsc := if on then 0 else s.sec.lastTsc }
    pwr := { ({} : Power) with
      on := true, cause := cause, perstN := s.pwr.perstN, pfailN := s.pwr.pfailN, rankPower := if on then [false, false, false, false] else s.pwr.rankPower,
      started := false, expiries := if on then [] else s.pwr.expiries, kicked := s.tsc } }

/-- The rank supplies that stay on through the reset (R627). -/
def keepRankPower (s : State) : State :=
  doAll (fun n s => setDrc n (fun c => { c with rank1Power := s.pwr.rankPower.getD (n / 2) false }) s) (upTo (variant s).dram) s

/-- A device reset starts (R609): fetching stops, the HOST islands are reset and the dump starts where there is something to dump. -/
def deviceReset (cause : ResetCause) (s : State) : State :=
  if !s.pwr.on || s.pwr.resetDump.isSome || !s.pwr.started then s
  else
    let s := resetHosts (setAcc (fun a => { a with stopPower := true }) s)
    let s := setPwr (fun p => { p with resetDump := some cause, inReset := true }) s
    let s := if cause = .perst then s else linksDetect s
    if s.cur.dumping.isSome || !s.cur.mediaReady then s else startDump true s

/-- The reset dump ends: every other island is reset, and starts up unless PERST_N is low (R599, R609). -/
def resetDumpEnds (s : State) : State :=
  match s.pwr.resetDump with
  | none => s
  | some cause =>
    let s := resetAll cause (finishDump s)
    let s := keepRankPower s
    if s.pwr.perstN && s.pwr.pfailN then startUp s else s

/-- PERST_N goes low (R79, R609, R626). -/
def perstLow (lowNs : Nat) (s : State) : State :=
  if lowNs < 50 then s
  else deviceReset .perst (setPwr (fun p => { p with perstN := false, inReset := true }) s)

/-- PERST_N rises (R598, R599, R630): with PFAIL_N low the device holds itself in reset. -/
def perstHigh (s : State) : State :=
  if s.pwr.perstN then s
  else
    let s := setPwr (fun p => { p with perstN := true, cause := if s.pwr.started || s.pwr.resetDump.isSome then .perst else p.cause }) s
    if !s.pwr.on then s
    else if s.pwr.resetDump.isSome then linksDetect s
    else if s.pwr.pfailN && !s.pwr.started then startUp s else s

/-- PFAIL_N rises: the device goes on after a dip, or leaves the reset it held itself in (R277, R630). -/
def pfailRises (s : State) : State :=
  let s := pfailHigh s
  if s.pwr.on && s.pwr.perstN && !s.pwr.started && s.pwr.resetDump.isNone then startUp (advanceTo (s.tsc + 10000000) s) else s

/-- The core supplies rise (R608). -/
def powerOn (s : State) : State :=
  if s.pwr.on then s
  else resetAll .powerOn (resetHosts { s with mem := [], tap := {}, pwr := { s.pwr with perstN := false } })

/-- The rails are removed (R147, R607, R627, R631). A dump that runs ends incomplete. -/
def powerOff (s : State) : State :=
  if !s.pwr.on then s
  else
    let unsafeOff := s.pwr.started && !s.pwr.safeOff
    let s := cutDump s
    let s := resetAll .powerOn (resetHosts s)
    let s := onlyIf unsafeOff (setAdm fun a => { a with unsafeShutdowns := a.unsafeShutdowns + 1 }) s
    let off := (upTo 41).filterMap islandOfSensor
    doAll (fun i s => setIsl i (fun h => { h with power := 0 }) s) off { s with mem := [], pwr := { s.pwr with on := false, perstN := false } }

/-- A rail leaves tolerance: a dump that runs ends incomplete (R631). -/
def railFails (s : State) : State :=
  if s.cur.dumping.isSome then setPwr (fun p => { p with dumpAct := false }) (cutDump s) else s

/-- The monitors as the shipped keeper firmware configures them at its start (R313): number, source, instance, bin word, period. The 100,000
µs of monitor 93 do not fit MON_PERIOD (R320), which takes the low 16 bits (log 151). -/
def shippedMonitors : Tab Monitor :=
  let one (log : Bool) (src base shift period first : Nat) (insts : List Nat) : Tab Monitor :=
    insts.zipIdx.map fun e => (first + e.2, { ({} : Monitor) with
      cfg := word (2 ^ 31 + 65536 * flag log + 256 * e.1 + src), bin := word (256 * base + shift), period := word (period % 65536) })
  one true 0x01 8192 0 0 0 (upTo 5) ++ one false 0x02 20000 12 0 5 (upTo 8) ++ one true 0x03 131072 0 0 13 (upTo 8) ++ one true 0x04 524288 0 0 21 (upTo 8)
    ++ one true 0x05 64 0 0 29 (upTo 3) ++ one true 0x06 16 0 0 32 (upTo 8) ++ one false 0x07 2731 7 1000 40 (upTo 42)
    ++ one false 0x08 600 5 1000 82 [0, 2, 3, 11, 27, 32] ++ one true 0x09 64 0 100 88 [0] ++ one true 0x0A 64 0 100 89 [0] ++ one true 0x0B 16 0 100 90 [8]
    ++ one true 0x0C 16 0 100 91 [8] ++ one true 0x0D 1024 0 0 92 [8] ++ one false 0x0E 0 4 100000 93 [0] ++ one true 0x0B 16 0 100 94 [0, 7]

/-- The channels of the shipped firmware's message service: their receivers are keeper core n mod 4, without a timeout (R583). -/
def shippedChannels (s : State) : State := doAll (fun n s => mbxConfig n (word (2 ^ 30 + n % 4 * 2 ^ 16)) s) (upTo 32) s

/-- The keeper firmware runs (R598, R599); where none of its message channels has been configured since the device's reset it configures
them (R583), and where no monitor has been configured since its island was reset it configures those (R313, R320). -/
def firmwareRuns (s : State) : State :=
  if !s.pwr.started || !(getCore s (.keeper 0)).running then s
  else
    let s := setLinkSt (fun l => { l with firmwareRuns := true }) s
    let s := if (upTo 32).all (fun n => mbxCfg s n == 0) then shippedChannels s else s
    if s.care.monitors.isEmpty then setCare (fun c => { c with monitors := shippedMonitors }) s else s

/-! ## Registers of the PWR page that act (R620) -/

/-- A write of PWR_DEV_RESET (R620). -/
def devResetWrite (v : Word) (s : State) : State :=
  if bits v 31 16 ≠ 0xA5D0 then capture 1 0x23 (pageAddr 1 0x48) s else onlyIf (bit v 0) (deviceReset .keeper) s

/-- A write of PWR_KWDOG (R620): the period is stored, and a kick restarts it. -/
def kwdogWrite (v : Word) (s : State) : State :=
  onlyIf (bit v 31) (setPwr fun p => { p with kicked := s.tsc }) (putField 1 0x4C 15 0 (bits v 15 0) s)

/-! ## NVMe power states (R124 to R127, R600 to R606) -/

/-- The state a controller requests. -/
def requestedState (s : State) (c : Nat) : Nat := (ctlOf s c).apstState.getD (ctlFeat s c 0x02 0 0 % 32)

/-- The state of the device that the controllers ask for: the lowest, PS0 with none enabled (R124). -/
def wantedState (s : State) : Nat :=
  match (s.acc.ctls.keys.filter fun c => (ctlOf s c).enabled).map (requestedState s) with
  | [] => 0
  | x :: xs => min 4 (xs.foldl min x)

/-- The operational state to return to (R125): the lowest that an enabled controller last requested. -/
def operationalState (s : State) : Nat :=
  match (s.acc.ctls.keys.filter fun c => (ctlOf s c).enabled).map (fun c => (ctlOf s c).lastOp) with
  | [] => 0
  | x :: xs => min 2 (xs.foldl min x)

/-- The level that a power state holds an island at (R600). -/
def psLevelOf (ps : Nat) : Island → Nat
  | .gallery _ | .compress _ | .catalogue => if ps = 1 then 1 else if ps = 2 then 2 else 0
  | .security => if ps = 2 then 2 else 0
  | .wing _ | .accession => if ps = 2 then 1 else 0
  | .host _ | .keeper | .registrar | .dram _ | .alwaysOn => 0

/-- Every island of the variant, by sensor number. -/
def presentIslands (s : State) : List Island := ((upTo 42).filterMap islandOfSensor).filter (islandPresent s)

/-- The device is in a state: ps_change is raised. -/
def setPs (ps : Nat) (s : State) : State :=
  let s := if s.pwr.ps = ps then s else raiseIrq 1 0x100 s
  let s := setPwr (fun p => { p with ps := ps, target := ps, busy := false }) s
  if ps < 3 then doAll (fun i s => setIsl i (fun h => { h with psLevel := psLevelOf ps i }) s) (presentIslands s) s else s

/-- A change among PS0, PS1 and PS2 (R305, R600). -/
def operationalChange (target : Nat) (s : State) : State :=
  if target > 2 ∨ s.pwr.ps > 2 ∨ s.pwr.busy ∨ target ≠ (if wantedState s ≤ 2 then wantedState s else operationalState s) then s else setPs target s

/-- No command is fetched and incomplete and no host execution is live (R601). Requests for events do not count (log 33). -/
def quietEnough (s : State) : Bool :=
  s.acc.cmds.all (fun c => c.ref.sq == 0 && c.opcode == 0x0C) && s.rgs.execs.isEmpty && s.rgs.waiting.isEmpty

/-- PS4 retention is in effect (R157, R231, R604): enabled, and the map lies in the lower half of DRAM. -/
def retentionAvailable (s : State) : Bool := decide (mapSegments s * 65536 * 2 ≤ installedBytes s)
def retentionOn (s : State) : Bool := devFeat s 0xC3 0 1 % 2 == 1 && retentionAvailable s

/-- No operation is in service on any channel. -/
def channelsIdle (s : State) : Bool := s.flash.chans.all fun c => !(c.2.queue.any (·.started))

/-- Entry into PS3 is complete (R602). -/
def enterPs3 (s : State) : State :=
  let s := doAll (fun i s => if i = .alwaysOn then s else setIsl i (fun h => { h with power := if h.power = 2 then 3 else h.power }) s) (presentIslands s) s
  let s := doAll (fun n s => setDrc n (fun c => { c with state := if c.state = 3 ∨ c.state = 2 then 5 else c.state }) s) (upTo (variant s).dram) s
  setPs 3 (setPwr (fun p => { p with sleptAt := s.tsc, sleptHours := 0, sleptWeight := 0 }) s)

/-- What DRAM loses in PS4 (R519, R521, R603): rank 1 with retention, but for what was programmed to flash; all of it without. -/
def dramSleeps (ret : Bool) (s : State) : State :=
  let half := installedBytes s / 2
  let kept := mapSegments s * 65536 + 8 * 2 ^ 30
  let two := decide (s.boot.dramRanks = 2)
  if ret then
    let s := if two then clearMem (max half kept) (2 ^ 39) s else s
    let s := doAll (fun n s => setDrc n (fun c => { c with state := 5, debt0 := 0, debt1 := 0, rank1Power := c.rank1Power && !two }) s) (upTo (variant s).dram) s
    if two then setPwr (fun p => { p with rankPower := [false, false, false, false] }) s else s
  else { clearMem 0 (2 ^ 39) s with dram := {} }

/-- Entry into PS4 is complete (R603, R605, R610). -/
def enterPs4 (s : State) : State :=
  let ret := retentionOn s
  let s := dramSleeps ret (clearSlm s)
  let s := clearMem 0x010000000000 0x011000000000 s
  let s := if ret then s else clearMem 0x011000000000 0x020000000000 s
  let off := (presentIslands s).filter (· != .alwaysOn)
  let saved := s.fab.regs.filter fun e => match findReg (e.1 / 4096) (e.1 % 4096) with
    | some r => r.dom != .i || r.name == "CAT_CHAIN"
    | none => false
  let s := doAll (fun i s => setIsl i (fun h => { h with power := 0 }) (resetIslandPages i s)) off s
  let s := { s with
    gals := [], kprs := [], cat := { s.cat with running := none, progress := 0, scrubRow := 0 },
    cmp := if ret then { conts := s.cmp.conts } else {} }
  let s := setSec (fun x => { x with slots := [], owner := 0xFF, msg := none, dge0 := {}, dge1 := {}, keyResult := 0, shown := {}, armed := false }) s
  let s := setCare (fun c => { c with monitors := [], monLatch := [], breach := [], floor := false, softReads := [], cal := none }) s
  let s := if ret then s else setCur (fun c => { c with mediaReady := false }) s
  setPs 4 (setPwr (fun p => { p with ret := ret, saved := some saved, sleptAt := s.tsc, sleptHours := 0, sleptWeight := 0 }) s)

/-- The weight of an hour at a temperature in 0.1 K (R298). -/
def ageWeight (t : Nat) : Nat :=
  if 10 * t ≤ 31315 + 90 then 1 else if 10 * t ≤ 32815 + 90 then 3 else if 10 * t ≤ 34315 + 90 then 9 else 27

/-- The weight that an hour in PS3 or PS4 has now: by the ALWAYS-ON sensor's reading (R298, R606). -/
def sleepWeight (s : State) : Nat := ageWeight (Tab.getD s.care.sensors 41 {}).temp

/-- An hour passes in PS3 or PS4: its weight is kept for the exit (R606). -/
def sleepHour (s : State) : State :=
  setPwr (fun p => { p with sleptHours := p.sleptHours + 1, sleptWeight := p.sleptWeight + sleepWeight s }) s

/-- The time spent in PS3 or PS4 enters the effective ages: each hour at the weight it had as it passed, the rest of the whole hours at
the weight of now (R606). -/
def ageForSleep (s : State) : State :=
  let rest := (s.tsc - s.pwr.sleptAt) / (3600 * 10 ^ 9) - s.pwr.sleptHours
  let age := s.pwr.sleptWeight + rest * sleepWeight s
  setCur (fun c => { c with sets := Tab.mapVals c.sets fun _ x => if x.state == .open then x else { x with age := x.age + age } }) s

/-- The islands run again after PS3, and the DRAM channels leave self-refresh. -/
def leavePs3 (s : State) : State :=
  let s := doAll (fun i s => setIsl i (fun h => { h with power := if h.power = 3 then 2 else h.power, wakePending := false }) s) (presentIslands s) s
  doAll (fun n s => setDrc n (fun c => { c with state := if c.state = 5 then servingState c else c.state }) s) (upTo (variant s).dram) s

/-- An entry goes on, or completes where nothing is left to wait for (R602, R603). -/
def goOnEntering (target : Nat) (s : State) : State :=
  if !channelsIdle s then s
  else if target = 3 then enterPs3 s
  else if allDurable s then enterPs4 s else s

/-- Entry into PS3 or PS4 starts, goes on or completes (R601 to R603). From PS3 the device goes on to PS4 when every enabled
controller asks for PS4 (R124): its islands run for the entry. An entry into PS3 that a controller no longer asks for is abandoned. -/
def psEntry (target : Nat) (s : State) : State :=
  if target ≠ 3 ∧ target ≠ 4 then s
  else if !s.pwr.started ∨ !s.pwr.pfailN then s
  else if s.pwr.busy then
    if s.pwr.target != target then s
    else if target = 3 ∧ wantedState s < 3 then setPwr (fun p => { p with busy := false, target := p.ps }) s
    else goOnEntering target s
  else if s.pwr.ps ≥ target || wantedState s != target || !quietEnough s then s
  else
    let s := if s.pwr.ps = 3 then leavePs3 (ageForSleep s) else s
    goOnEntering target (setPwr (fun p => { p with busy := true, target := target }) s)

/-- A command arrives (R125, R126): an entry into PS3 is abandoned, one into PS4 is exited once complete. -/
def commandArrives (s : State) : State :=
  if s.pwr.busy && s.pwr.target == 3 then setPwr (fun p => { p with busy := false, target := p.ps }) s
  else if s.pwr.busy && s.pwr.target == 4 then setPwr (fun p => { p with exitAfter := true }) s
  else s

/-- A reason to leave a non-operational state: a command waits, the controllers ask for a lower one (R124 to R126), or in PS4 a
wake event waits for an island (R24, R577). -/
def exitWanted (s : State) : Bool :=
  s.pwr.exitAfter || decide (wantedState s < s.pwr.ps)
    || (s.acc.ctls.any fun e => e.2.enabled && e.2.sqs.any fun q => q.2.waits)
    || (s.pwr.ps == 4 && (presentIslands s).any fun i => (isl s i).wakePending)

/-- The state the device returns to. -/
def exitState (s : State) : Nat := if wantedState s ≤ 2 then wantedState s else operationalState s

/-- Exit from PS3 (R125, R602, R606). -/
def ps3Exit (s : State) : State :=
  if s.pwr.ps ≠ 3 ∨ s.pwr.busy ∨ !exitWanted s then s
  else
    let s := leavePs3 s
    setPs (exitState s) (setPwr (fun p => { p with exitAfter := false }) (ageForSleep s))

/-- Rank 1 of a channel is initialised after PS4 with retention (R520): frontier at its start, no skip. -/
def rank1Restart (n : Nat) (s : State) : State :=
  setDrc n (fun c => { c with
    state := 2, rank1Power := true, zeroing := true, initDone := false, skip := 0, frontier := rankBytes s / 64, whole := [] }) s

/-- Exit from PS4 (R520, R605, R606). -/
def ps4Exit (s : State) : State :=
  if s.pwr.ps ≠ 4 ∨ !exitWanted s then s
  else
    let two := decide (s.boot.dramRanks = 2)
    let chans := upTo (variant s).dram
    let s := doAll (fun i s => setIsl i (fun h => { h with power := if switchedOff s i then 0 else 2, wakePending := false }) s) (presentIslands s) s
    let s := if s.pwr.ret then
        (if two then setPwr (fun p => { p with rankPower := (upTo 4).map fun k => decide (2 * k < (variant s).dram) }) (doAll rank1Restart chans s)
         else doAll (fun n s => setDrc n (fun c => { c with state := servingState c }) s) chans s)
      else doAll (fun n s => setDrc n (fun c => { c with state := 1, rank1Power := s.pwr.rankPower.getD (n / 2) false }) s) chans s
    let s := if s.sec.latched.isEmpty && !s.sec.fuseAlarm then unwrapRecords (deriveKeys s) else s
    let s := doAll (fun p s => setReady p true s) ((upTo 264).filter (pagePresent s)) s
    let s := doAll (fun (e : Nat × Word) s => putReg (e.1 / 4096) (e.1 % 4096) e.2 s) (s.pwr.saved.getD []) s
    let s := doAll restoreGallery (presentGalleries s) (keeperRestart s)
    setPs (exitState s) (setPwr (fun p => { p with exitAfter := false, saved := none }) (ageForSleep s))

/-- An autonomous transition (R124): after the idle time of the current state the controller asks for the state its table names. -/
def apstTransition (c : Nat) (s : State) : State :=
  let x := ctlOf s c
  let e := x.apst.getD s.pwr.ps 0
  let itpt := e / 256 % 2 ^ 24
  let itps := e / 8 % 32
  if !x.enabled || ctlFeat s c 0x0C 0 0 % 2 = 0 || itpt = 0 || decide (itps ≤ 2) || s.acc.cmds.any (fun k => k.ref.ctl == c && !(k.ref.sq == 0 && k.opcode == 0x0C)) then s
  else setCtl c (fun x => { x with apstState := some itps }) (advanceTo (x.idleSince + itpt * 1000000) s)

end Sys2Proof.Machine
end

