-- ==== Sys2Proof/Machine/CareOps.lean ====
section
/-! DEFINITION. The Conservator's share and jobs, sensors, clock levels and monitors (chapter 07). -/

namespace Sys2Proof.Machine

/-! ## Share and guard (R291 to R295) -/

/-- The guard floor or a thermal stage holds the share at 0.5% (R291). -/
def atFloor (s : State) : Bool := s.care.floor || decide (s.care.stage ≠ 0)

/-- The effective share S in units of 0.1% (R291). -/
def effectiveShare (s : State) : Nat := min (min (devFeat s 0xC0 0 30) 200) (if atFloor s then 5 else 200)

/-- The Conservator runs: its island serves, the device is operational and power holds (R53, R275, R606). -/
def careRuns (s : State) : Bool := s.pwr.started && s.pwr.pfailN && decide (s.pwr.ps < 3) && !islandRefuses s .keeper

/-- A job may start: its enable in CON_CTRL is set (R318) and no entry into PS3 is under way (R602). -/
def jobOn (s : State) (n : Nat) : Bool := careRuns s && !(s.pwr.busy && s.pwr.target == 3) && regBit s 176 0x40 n

/-- The guard of a class in µs: feature 0xC1 (R155). -/
def guardOf (s : State) (c : Nat) : Nat := devFeat s 0xC1 c ([100, 500, 2000, 0].getD c 0)

/-- A 10 ms window ends (R294). -/
def windowEnd (s : State) : State :=
  let late (c : Nat) : Nat := Tab.getD s.acc.windowLate c 0
  let breach := (upTo 4).filter fun c => decide (guardOf s c ≠ 0) && decide (100 * late c > max 100 (Tab.getD s.acc.windowDone c 0))
  let was := s.care.floor
  let s := setAcc (fun a => { a with windowDone := [], windowLate := [] }) s
  let s := setCare (fun c => { c with
    breach := breach, floor := breach != [],
    counts := { c.counts with breaches := breach.foldl (fun t k => Tab.bump t k 1) c.counts.breaches, floorMs := c.counts.floorMs + 10 * flag was } }) s
  onlyIf (breach != []) (raiseIrq 176 0x100) s

/-! ## Media care (R296 to R301) -/

/-- The written pages of a stripe set: its data pages and, while they are kept, its parity pages. -/
def patrolSetPages (s : State) (x : StripeSet) : List Nat :=
  setPages s x ++ if x.released then [] else (x.parityRows.map x.parityPsa).filter fun p => (mediaAt s p).isSome

/-- Every written page that patrol reaches, with its key: pages of sets whose wing serves and whose die is not fenced. -/
def patrolPages (s : State) : List (Nat × Nat × Nat) :=
  (s.cur.sets.filter fun e => !pageRefuses s (32 + e.2.wing)).flatMap fun e =>
    ((patrolSetPages s e.2).filter fun p => !psaFenced s p).map fun p => (patrolKey s e.1 p, e.1, p)

/-- The page verified next: the first after the position. -/
def patrolNext (s : State) : Option (Nat × Nat × Nat) :=
  minBy (fun (e : Nat × Nat × Nat) => e.1) ((patrolPages s).filter fun e => decide (e.1 > s.care.live.patrolPos))

/-- A verify that the Conservator sent is on a channel, or is held for it. -/
def verifyOut (s : State) (p : OpOrigin → Bool) : Bool :=
  s.flash.chans.any (fun c => c.2.queue.any fun o => p o.origin) || s.flash.aborted.any fun o => p o.2.origin

def OpOrigin.isPatrol : OpOrigin → Bool
  | .patrol _ => true
  | _ => false

/-- The pass runs late (R296): raised once a pass. -/
def patrolLateCheck (s : State) : State :=
  let days := regField s 176 0x50 15 0
  if s.care.live.patrolLate || decide (s.tsc ≤ s.care.live.patrolStart + days * 86400 * 10 ^ 9) then s
  else raiseIrq 176 0x400 (setCare (fun c => { c with
    live := { c.live with patrolLate := true }, counts := { c.counts with patrolLate := c.counts.patrolLate + 1 } }) s)

/-- A set's effective age has reached CON_RETAIN (R298). -/
def retentionDue (s : State) (x : StripeSet) : Bool :=
  let days := regField s 176 0x4C 15 0
  decide (days ≠ 0) && decide (x.age ≥ 24 * days)

/-- A set may be relocated now: its pages are verified and nothing relocates it yet. -/
def maySetGo (s : State) (x : StripeSet) : Bool := x.state == .verified && !x.victim && !pageRefuses s (32 + x.wing)

/-- A threshold rewrite (rank 2) and a retention refresh (rank 3) of a set are eligible (R292, R297, R298). -/
def rewriteEligible (s : State) (x : StripeSet) : Bool := x.rewrite && jobOn s 1 && maySetGo s x
def refreshEligible (s : State) (x : StripeSet) : Bool := retentionDue s x && jobOn s 2 && maySetGo s x

/-- A threshold rewrite or a retention refresh starts (R297, R298): every valid MU of the set is relocated, as garbage collection does. A refresh waits
while a threshold rewrite is eligible (R292); close verifies are with their channels from the close on (R253). -/
def thresholdRewrite (n : Nat) (s : State) : State :=
  match stripe s n with
  | none => s
  | some x =>
    let rewrite := rewriteEligible s x
    let refresh := refreshEligible s x && !(s.cur.sets.any fun e => rewriteEligible s e.2)
    if !(refresh || rewrite) then s
    else
      let s := setStripe n (fun x => { x with victim := true, rewrite := false }) s
      let s := setCare (fun c => { c with counts := { c.counts with
        rewrites := c.counts.rewrites + flag rewrite, refreshes := c.counts.refreshes + flag (!rewrite) } }) s
      settle (doAll (startReloc 4) (setGmus s n) s)

/-- The NAND temperature of a wing's dies in 0.1 K: what they report where they do, else the wing's sensor (R298). -/
def nandTemp (s : State) (dieTemps : List (Nat × Nat)) (w : Nat) : Nat :=
  let sensor := (Tab.getD s.care.sensors (3 + w) {}).temp
  if (s.flash.geometry.map (·.temperature)).getD false then ((dieTemps.find? fun e => e.1 == w).map Prod.snd).getD sensor else sensor

/-- An hour has passed: every closed set ages (R298), in PS3 and PS4 on the exit (R606). -/
def ageTick (dieTemps : List (Nat × Nat)) (s : State) : State :=
  if s.pwr.started && decide (s.pwr.ps ≥ 3) then sleepHour s
  else if !careRuns s then s
  else setCur (fun c => { c with sets := Tab.mapVals c.sets fun _ x =>
    if x.state == .open then x else { x with age := x.age + ageWeight (nandTemp s dieTemps x.wing) } }) s

/-- The key of a block group (R198). -/
def groupKey (ch die group : Nat) : Nat := ch * 4096 + die * 256 + group

/-- A block group is due for calibration (R299). -/
def calibrationDue (s : State) (k : Nat) : Bool :=
  let hours := regField s 176 0x54 15 0
  let soft := regField s 176 0x54 23 16
  let recent := ((Tab.getD s.care.softReads k []).filter fun t => decide (s.tsc < t + 3600 * 10 ^ 9)).length
  (decide (hours ≠ 0) && decide (s.tsc ≥ Tab.getD s.care.live.calTimes k 0 + hours * 3600 * 10 ^ 9)) || (decide (soft ≠ 0) && decide (recent ≥ soft))

/-- The block group that a page lies in. -/
def groupOf (psa : Nat) : Nat := groupKey (psaChannel psa) (psaDie psa) (blockGroup psa)

/-- The written page of a block group whose verifies calibrate it: the first in the order of patrol. -/
def groupPage (s : State) (k : Nat) : Option Nat :=
  (minBy (fun (e : Nat × Nat × Nat) => e.1) ((patrolPages s).filter fun e => groupOf e.2.2 == k)).map fun e => e.2.2

/-- A signed byte. -/
def signedByte (i : Int) : Byte := BitVec.ofInt 8 i

/-- The offsets that a channel uses for a block group: 0 for every level where its entry is not valid (R198). -/
def groupOffsets (s : State) (ch die group : Nat) : List Int :=
  let e := Tab.getD (chan s ch).offsets (die * 256 + group) []
  (upTo 15).map fun i => if ((e.getD 15 0).toNat) % 2 = 1 then (e.getD i 0).toInt else 0

/-- The distance of two readings in 0.1 K. -/
def apart (a b : Nat) : Nat := (a - b) + (b - a)

/-- A channel is due for a retrain: drift, or elapsed hours (R300). -/
def retrainDue (s : State) (hours dt last lastTemp temp : Nat) : Bool :=
  (decide (dt ≠ 0) && decide (apart temp lastTemp ≥ 10 * dt)) || (decide (hours ≠ 0) && decide (s.tsc ≥ last + hours * 3600 * 10 ^ 9))

/-- A flash channel's retrain is eligible (R292, R300): while the guard floor is in force only 24 h after its hours, and in a thermal stage not at all. -/
def flashRetrainDue (s : State) (n : Nat) : Bool :=
  let c := chan s n
  let hours := regField s 176 0x58 15 8
  jobOn s 4 && decide (n < (variant s).channels) && !pageRefuses s (fchPage n) && c.state == 3 && s.care.stage == 0
    && (if s.care.floor then decide (hours ≠ 0) && decide (s.tsc ≥ c.trainedAt + (hours + 24) * 3600 * 10 ^ 9)
        else retrainDue s hours (regField s 176 0x58 7 0) c.trainedAt c.trainedTemp (wingTemp s n))

/-- A job of a rank below `r` in number, which goes first, is eligible (R292). -/
def higherJob (s : State) (r : Nat) : Bool :=
  (decide (2 < r) && s.cur.sets.any fun e => rewriteEligible s e.2) || (decide (3 < r) && s.cur.sets.any fun e => refreshEligible s e.2)
    || (decide (4 < r) && jobOn s 3 && !atFloor s && (patrolPages s).any fun e => calibrationDue s (groupOf e.2.2))
    || (decide (5 < r) && (upTo 96).any fun n => flashRetrainDue s n)

/-- Patrol verifies its next page; at the end of a pass the next one starts (R296). While S is at the floor, or a job of a higher rank is eligible, it
waits (R292). -/
def patrol (s : State) : State :=
  if !jobOn s 0 || regField s 176 0x50 15 0 = 0 then s
  else
    let s := patrolLateCheck s
    if atFloor s || higherJob s 6 || verifyOut s OpOrigin.isPatrol then s
    else
      let s := match patrolNext s with
        | some _ => s
        | none => setCare (fun c => { c with
            live := { c.live with patrolPos := 0, patrolStart := s.tsc, patrolLate := false },
            counts := { c.counts with patrolPasses := c.counts.patrolPasses + flag (decide (c.live.patrolPos ≠ 0)) } }) s
      match patrolNext s with
      | none => s
      | some (_, n, p) =>
        submitOp (psaChannel p) { desc := { op := 2, cls := 4, flags := 0, count := 0, psa := p, keyWord := 0, tag := n % 2 ^ 32 }, origin := .patrol n } s

/-- A calibration ends (R299): the offsets go into the entry, or, where no trial passed verify, the entry stays and error 0x22 is captured. -/
def calEnd (ch die group : Nat) (r : CalRun) (s : State) : State :=
  let s := setCare (fun c => { c with
    cal := none, live := { c.live with calTimes := Tab.set c.live.calTimes r.group s.tsc }, softReads := Tab.del c.softReads r.group }) s
  if !r.passed then capture 176 0x22 (pageAddr 176 0x54) s
  else
    let entry := ((upTo 15).map fun i => signedByte (r.offsets.getD i 0)) ++ [1]
    let put (t : Tab (List Byte)) : Tab (List Byte) := Tab.set t (die * 256 + group) entry
    setCare (fun c => { c with counts := { c.counts with calibrations := c.counts.calibrations + 1 } })
      (setChan ch (fun c => { c with offsets := put c.offsets, offsetCopy := put c.offsetCopy }) s)

/-- A block group is calibrated by verifies of one of its pages in class 4, one at a time, each at the offset of the next trial (R290, R299). A group
under way whose page is no longer written, or whose die is fenced, gives its calibration up. -/
def calibrate (ch die group : Nat) (s : State) : State :=
  let k := groupKey ch die group
  if !jobOn s 3 || atFloor s || pageRefuses s (fchPage ch) || decide (group > 255) || verifyOut s (· == .calibrate k) then s
  else
    let send (r : CalRun) (s : State) : State :=
      submitOp ch { desc := { op := 2, cls := 4, flags := 0, count := 0, psa := r.psa, keyWord := 0, tag := k % 2 ^ 32 }, origin := .calibrate k }
        (setCare (fun c => { c with cal := some r }) s)
    match s.care.cal with
    | some r =>
      if r.group ≠ k then s
      else if r.level ≥ 15 then calEnd ch die group r s
      else if ((patrolPages s).any fun e => e.2.2 == r.psa) then (if higherJob s 4 then s else send r s)
      else setCare (fun c => { c with cal := none }) s
    | none =>
      if !calibrationDue s k || higherJob s 4 then s
      else match groupPage s k with
        | none => s
        | some p => send { group := k, psa := p, offsets := groupOffsets s ch die group } s

/-- The Conservator retrains a flash channel, or starts a slice of a DRAM channel (R300). DRAM slices have no rank in R292, and the floor of R294 makes no
slice wait. -/
def retrainTrigger (dram : Bool) (n : Nat) (s : State) : State :=
  if dram then
    let temp := (Tab.getD s.care.sensors (32 + n) {}).temp
    if !jobOn s 5 || decide (n ≥ (variant s).dram) || pageRefuses s (drcPage n)
        || !retrainDue s (regField s 176 0x58 31 24) (regField s 176 0x58 23 16) (Tab.getD s.care.live.trainTimes n 0) (Tab.getD s.care.live.trainTemps n 0) temp then s
    else startSlice n s
  else if !flashRetrainDue s n || higherJob s 5 then s
  else setCare (fun c => { c with counts := { c.counts with flashRetrains := c.counts.flashRetrains + 1 } })
    (fchCfgWrite n (putBits (getReg s (fchPage n) 0x40) 8 8 1) s)

/-- The schedule is written to the keeper configuration record (R301). -/
def scheduleWrite (s : State) : State :=
  if !careRuns s then s else setCare (fun c => { c with saved := { c.live with ages := s.cur.sets.map fun e => (e.1, e.2.age) } }) s

/-! ## Sensors (R302, R303, R317) -/

/-- A sensor of the variant. -/
def sensorPresent (s : State) (n : Nat) : Bool := (islandOfSensor n).any (islandPresent s)

def sensor (s : State) (n : Nat) : Sensor := Tab.getD s.care.sensors n {}
def setSensor (n : Nat) (f : Sensor → Sensor) (s : State) : State := setCare (fun c => { c with sensors := Tab.update c.sensors n {} f }) s

/-- A reading inside 223.1 K to 423.1 K. -/
def sensorInside (t : Nat) : Bool := decide (2231 ≤ t) && decide (t ≤ 4231)

/-- A sensor reads outside its range (R303). -/
def sensorInvalid (n t : Nat) (s : State) : State :=
  if !sensorPresent s n || sensorInside t then s
  else
    let was := (sensor s n).valid
    let s := setSensor n (fun x => { x with temp := t, valid := false, insideSince := none }) s
    onlyIf was (capture 176 0x21 (pageAddr 177 (0x40 + 4 * n))) s

/-- A sensor has read inside its range for 10 s (R303). -/
def sensorRevalid (n t : Nat) (s : State) : State :=
  if !sensorPresent s n || !sensorInside t || (sensor s n).valid then s
  else
    let s := advanceTo ((sensor s n).insideSince.getD s.tsc + 10 * 10 ^ 9) s
    setSensor n (fun x => { x with temp := t, valid := true, insideSince := none, peak := max x.peak t }) s

/-- A sensor is read. -/
def sensorRead (n t mv : Nat) (s : State) : State :=
  let s := if sensorPresent s n then setSensor n (fun x => { x with mv := mv }) s else s
  if !sensorPresent s n then s
  else if !sensorInside t then sensorInvalid n t s
  else if (sensor s n).valid then setSensor n (fun x => { x with temp := t, peak := max x.peak t }) s
  else setSensor n (fun x => { x with temp := t, insideSince := some (x.insideSince.getD s.tsc) }) s

/-- The sensors that take part in decisions. -/
def validSensors (s : State) : List Nat := (upTo 42).filter fun n => sensorPresent s n && (sensor s n).valid

/-- Composite Temperature in 0.1 K: the hottest valid sensor (R147, R302). -/
def composite (s : State) : Nat := ((validSensors s).map fun n => (sensor s n).temp).foldl max 0

/-- WCTEMP and CCTEMP in K (R139). -/
def wcTemp (s : State) : Nat := if (variant s).gradeI then 378 else 368
def ccTemp (s : State) : Nat := if (variant s).gradeI then 388 else 378

/-- The ceiling in °C (R155). -/
def ceilingC (s : State) : Nat := devFeat s 0xC2 0 (if (variant s).gradeI then 110 else 100)

/-- The hottest sensor is at or above a temperature in °C. -/
def atLeastC (s : State) (c : Nat) : Bool := decide (10 * composite s ≥ 100 * c + 27315)

/-- A temperature threshold of feature 0x04 is crossed (R147, R154): over 0 to 8 and under 0 to 8 of Composite Temperature and sensors. -/
def tempWarning (s : State) : Bool :=
  let t := composite s / 10
  decide (t ≥ devFeat s 0x04 0 (wcTemp s)) || decide (t < devFeat s 0x04 1 0)

/-! ## Thermal loop (R304 to R307) -/

/-- Island kinds in the order of R306. -/
def kindOf : Island → Nat
  | .gallery _ => 0
  | .compress _ => 1
  | .catalogue => 2
  | .security => 3
  | .registrar => 4
  | .wing _ => 5
  | .accession => 6
  | .host _ => 7
  | .keeper => 8
  | .dram _ => 8
  | .alwaysOn => 8

/-- The steps a kind has taken. -/
def kindLevel (s : State) (k : Nat) : Nat := min 3 (s.care.steps.filter (· == k)).length

/-- The thermal levels follow the steps. -/
def applySteps (s : State) : State :=
  doAll (fun i s => if kindOf i < 8 then setIsl i (fun h => { h with thermLevel := kindLevel s (kindOf i) }) s else s) (presentIslands s) s

/-- One kind steps down one level; kinds at level 3 are skipped. -/
def stepDown (s : State) : State :=
  match ((upTo 8).map fun i => (s.care.nextKind + i) % 8).find? fun k => decide (kindLevel s k < 3) with
  | none => s
  | some k => applySteps (setCare (fun c => { c with steps := c.steps ++ [k], nextKind := (k + 1) % 8 }) s)

/-- The last step is removed. -/
def stepUp (s : State) : State :=
  match s.care.steps.getLast? with
  | none => s
  | some k => applySteps (setCare (fun c => { c with steps := c.steps.dropLast, nextKind := k }) s)

/-- The thermal stage changes. -/
def setStage (n : Nat) (s : State) : State :=
  if s.care.stage = n then s
  else raiseIrq 176 0x200 (setCare (fun c => { c with
    stage := n, counts := { c.counts with stage2Entries := c.counts.stage2Entries + flag (decide (n = 2)) } }) s)

/-- The stage that a tick leads to (R306): `cool` counts the ticks below T_c − 5 °C, this one included. -/
def nextStage (s : State) (cool : Nat) : Nat :=
  let tc := ceilingC s
  if atLeastC s tc then 2
  else if s.care.stage = 2 then (if cool > 0 then 1 else 2)
  else if s.care.stage = 1 then (if cool ≥ 10 then 0 else 1)
  else if atLeastC s (tc - 3) then 1 else 0

/-- A tick of the thermal loop: 1 ms (R306, R307). -/
def thermalTick (readings : List (Nat × Nat × Nat)) (s : State) : State :=
  if !s.pwr.on then s
  else
    let warned := tempWarning s
    let s := doAll (fun (e : Nat × Nat × Nat) s => sensorRead e.1 e.2.1 e.2.2 s) readings s
    let tc := ceilingC s
    let cool := if atLeastC s (tc - 5) then 0 else s.care.coolTicks + 1
    let s := setStage (nextStage s cool) (setCare (fun c => { c with coolTicks := cool }) s)
    let s := if s.care.stage = 2 then
        setCare (fun c => { c with removeTicks := 0, counts := { c.counts with stage2Ms := c.counts.stage2Ms + 1 } }) (if atLeastC s tc then stepDown s else s)
      else if s.care.steps.isEmpty then s
      else if s.care.removeTicks + 1 ≥ 10 then setCare (fun c => { c with removeTicks := 0 }) (stepUp s)
      else setCare (fun c => { c with removeTicks := c.removeTicks + 1 }) s
    let t := composite s
    let s := setAdm (fun a => { a with
      warnMs := a.warnMs + flag (decide (t ≥ 10 * wcTemp s)), critMs := a.critMs + flag (decide (t ≥ 10 * ccTemp s)) }) s
    let s := setPwr (fun p => { p with thermLow := decide (t ≥ 10 * ccTemp s) }) s
    onlyIf (tempWarning s && !warned) (healthEvent 1 1) s

/-- Utilisation DVFS of the islands listed with their busy percentage (R308). -/
def dvfsEval (busy : List (Nat × Nat)) (s : State) : State :=
  if !regBit s 176 0x40 6 || !careRuns s then s
  else doAll (fun (e : Nat × Nat) s =>
    match islandOfSensor e.1 with
    | none => s
    | some i =>
      let h := isl s i
      let floor := regField s 178 (0x40 + 4 * e.1) 9 8
      if kindOf i > 3 || !islandPresent s i || h.power ≠ 2 then s
      else if e.2 ≥ regField s 176 0x5C 15 8 then setIsl i (fun h => { h with utilLevel := 0 }) s
      else if e.2 < regField s 176 0x5C 7 0 ∧ h.utilLevel < floor then setIsl i (fun h => { h with utilLevel := h.utilLevel + 1 }) s
      else s) busy s

/-- CON_DVFS (R318). -/
def dvfsWrite (v : Word) (s : State) : State :=
  if bits v 15 8 > 100 ∨ bits v 15 8 ≤ bits v 7 0 then capture 176 0x20 (pageAddr 176 0x5C) s
  else putReg 176 0x5C (word (bits v 15 0)) s

/-- The hourly update of the lifetime values (R317). -/
def lifetimeUpdate (s : State) : State :=
  let one (n : Nat) (s : State) : State := setSensor n (fun x => { x with
    sum := x.sum + x.temp, hours := x.hours + 1, high := max x.high (max x.peak x.temp), peak := x.temp }) s
  setCare (fun c => { c with lifetimeAt := s.tsc }) (doAll one (validSensors s) s)

/-! ## Monitors (R309 to R312, R320) -/

def monitor (s : State) (j : Nat) : Monitor := Tab.getD s.care.monitors j {}
def setMonitor (j : Nat) (f : Monitor → Monitor) (s : State) : State := setCare (fun c => { c with monitors := Tab.update c.monitors j {} f }) s
def monPage (j : Nat) : Nat := 256 + j / 16
def monBase (j : Nat) : Nat := 0x800 + 0x80 * (j % 16)

def Monitor.source (m : Monitor) : Nat := bits m.cfg 7 0
def Monitor.inst (m : Monitor) : Nat := bits m.cfg 15 8
def Monitor.enabled (m : Monitor) : Bool := bit m.cfg 31

/-- Instances a source lists (R309). -/
def sourceInstances (src : Nat) : Nat :=
  if src = 1 then 5 else if src = 2 ∨ src = 3 ∨ src = 4 then 8 else if src = 5 then 3 else if src = 6 then 8
  else if src = 7 ∨ src = 8 then 42 else if src = 9 ∨ src = 0xA ∨ src = 0xE then 1 else if src = 0xB ∨ src = 0xC ∨ src = 0xD then 9 else 0

/-- The monitor's source and instance are listed and provided: it takes samples (R309, R313). -/
def Monitor.samples (m : Monitor) (s : State) : Bool :=
  m.enabled && decide (m.inst < sourceInstances m.source)
    && (if m.source = 7 ∨ m.source = 8 then sensorPresent s m.inst
        else if m.source = 2 ∨ m.source = 3 ∨ m.source = 4 then decide (m.inst < (variant s).wings)
        else if m.source = 0xC ∨ m.source = 0xD then m.inst == 8 || decide (m.inst < (variant s).wings) else true)

/-- A level source (R309). -/
def levelSource (src : Nat) : Bool := src == 7 || src == 8 || src == 9 || src == 0xA || src == 0xB || src == 0xC || src == 0xE

/-- The bin of a sample (R310). -/
def Monitor.binOf (m : Monitor) (v : Nat) : Nat :=
  let base := bits m.bin 31 8
  if bit m.cfg 16 then
    if base = 0 then 15
    else if v < base then 0
    else (((upTo 14).map (· + 1)).find? fun i => decide (v < base * 2 ^ i)).getD 15
  else if v < base then 0 else Nat.min 15 ((v - base) / 2 ^ bits m.bin 4 0)

/-- A sample updates the statistics (R309). -/
def Monitor.take (m : Monitor) (v : Nat) : Monitor :=
  let v := Nat.min v 0xFFFFFFFF
  { m with
    count := satAdd (2 ^ 64 - 1) m.count 1, sum := satAdd (2 ^ 64 - 1) m.sum v, min := Nat.min m.min v, max := Nat.max m.max v, last := v,
    bins := Tab.set m.bins (m.binOf v) (satAdd 0xFFFFFFFF (Tab.getD m.bins (m.binOf v) 0) 1) }

/-- The statistics are cleared (R312). -/
def Monitor.cleared (m : Monitor) : Monitor := { ({} : Monitor) with cfg := m.cfg, bin := m.bin, period := m.period }

/-- An event of a source is sampled by every monitor that watches it. -/
def eventSample (src inst v : Nat) (s : State) : State :=
  if levelSource src then s
  else setCare (fun c => { c with monitors := Tab.mapVals c.monitors fun _ m =>
    if m.source == src && m.inst == inst && m.samples s then m.take v else m }) s

/-- Channel operations queued. -/
def queuedOps (s : State) (p : Nat → Bool) : Nat := ((s.flash.chans.filter fun e => p e.1).map fun e => e.2.queue.length).foldl (· + ·) 0

/-- Tickets ready at a priority; 8 counts every one (R309). -/
def readyTickets (s : State) (p : Nat) : Nat := ((s.rgs.lists.filter fun e => p == 8 || e.1 % 8 == p).map fun e => e.2.length).foldl (· + ·) 0

/-- The value of a level source; class 4 busy time is timing and free (R309). -/
def levelValue (src inst : Nat) (s : State) : Nat × State :=
  if src = 7 then ((sensor s inst).temp, s)
  else if src = 8 then ((sensor s inst).mv, s)
  else if src = 9 then (s.acc.cmds.length, s)
  else if src = 0xA then (dirtyBytes s / 2 ^ 20, s)
  else if src = 0xB then (readyTickets s inst, s)
  else if src = 0xC then (queuedOps s fun ch => inst == 8 || ch / 12 == inst, s)
  else
    let (n, s) := draw s
    (n % 1001, s)

/-- A level monitor samples its source; one whose period is 0 does not (R309). -/
def levelSample (j : Nat) (s : State) : State :=
  let m := monitor s j
  if j ≥ 128 || !m.samples s || !levelSource m.source || bits m.period 15 0 = 0 then s
  else
    let (v, s) := levelValue m.source m.inst s
    setMonitor j (fun m => m.take v) s

/-- A write of MON_CFG (0), MON_BIN (1) or MON_PERIOD (2) (R309, R312, R320). -/
def monConfigWrite (j which : Nat) (v : Word) (s : State) : State :=
  if which = 0 then
    let w := v &&& 0x8001FFFF
    let m : Monitor := { cfg := w }
    let bad := m.source ≠ 0 ∧ m.inst ≥ sourceInstances m.source
    let s := setMonitor j (fun m => { m.cleared with cfg := w }) s
    if bad then capture (monPage j) 0x20 (pageAddr (monPage j) (monBase j)) s else s
  else if which = 1 then setMonitor j (fun m => { m.cleared with bin := v &&& 0xFFFFFF1F }) s
  else setMonitor j (fun m => { m with period := v &&& 0xFFFF }) s

/-- A write of MON_CLR (R312). -/
def monClrWrite (j : Nat) (v : Word) (s : State) : State := if bit v 0 then setMonitor j (fun m => m.cleared) s else s

/-- A read of MON_COUNT_LO latches the monitor (R311). -/
def monLatch (j : Nat) (s : State) : State := setCare (fun c => { c with monLatch := Tab.set c.monLatch j (monitor s j) }) s

/-- The latched monitor that reads return. -/
def latchedMonitor (s : State) (j : Nat) : Monitor := Tab.getD s.care.monLatch j {}

/-! ## Views (R318) -/

/-- CON_STAT. -/
def conStat (s : State) : Word :=
  word (min 255 (devFeat s 0xC0 0 30) * 2 ^ 24 + effectiveShare s * 65536 + (s.care.breach.map fun c => 2 ^ c).foldl (· + ·) 0 * 4096
    + s.care.stage * 256 + flag s.care.floor)

/-- CON_TEMP_s and CON_SUPPLY_s. -/
def conTemp (s : State) (n : Nat) : Word := if sensorPresent s n then word ((sensor s n).temp % 65536) else 0
def conSupply (s : State) (n : Nat) : Word := if sensorPresent s n then word ((sensor s n).mv % 65536) else 0

/-- CON_LVL_s: the level held by the thermal loop, the stored max_level and the level in effect. -/
def conLvl (s : State) (n : Nat) : Word :=
  match islandOfSensor n with
  | none => 0
  | some i =>
    if !islandPresent s i then 0
    else word (flag (decide ((isl s i).thermLevel ≠ 0 ∧ (isl s i).thermLevel = levelOf s i)) * 2 ^ 31 + regField s 178 (0x40 + 4 * n) 9 8 * 256 + levelOf s i)

end Sys2Proof.Machine
end

