-- ==== Sys2Proof/Machine/LogPages.lean ====
section
/-! DEFINITION. Identify data and log pages (chapter 04, and the logs of chapters 05, 06, 07, 10, 13). Offsets and formats that NVMe gives and the manual only names are PRESUMED, and bytes that neither states are free (log 27). -/

namespace Sys2Proof.Machine

/-- Lays fields (offset, bytes) over a base. -/
def layOver (base : List Byte) (fields : List (Nat × List Byte)) : List Byte := fields.foldl (fun b f => overlay b f.1 f.2) base

/-- A field: offset, size, value. -/
def fld (o k v : Nat) : Nat × List Byte := (o, leBytes k v)

/-! ## Identity (R5, R83, R139) -/

/-- The 16 hexadecimal digits of a number, upper case. -/
def hexDigit (n : Nat) : Byte := BitVec.ofNat 8 (if n < 10 then 48 + n else 55 + n)
def hex16 (n : Nat) : List Byte := (upTo 16).map fun i => hexDigit (n / 16 ^ (15 - i) % 16)

/-- SN. -/
def serialNumber (s : State) : List Byte := ascii "QS" ++ hex16 s.fuses.uid ++ ascii "  "

/-- The variant code of an index (R1). -/
def variantName : Nat → String
  | 0x01 => "CN9632-AC"
  | 0x02 => "CN9632-AI"
  | 0x03 => "CN9632-NC"
  | 0x04 => "CN9616-AC"
  | 0x05 => "CN9632-BC"
  | 0x06 => "CN7232-AC"
  | 0x07 => "CN7216-AC"
  | 0x08 => "CN7216-AI"
  | 0x09 => "CN4816-AC"
  | 0x0A => "CN4816-AI"
  | 0x0B => "CN4816-NC"
  | _ => "CN4808-BC"

/-- MN: 40 characters, padded with spaces. -/
def modelNumber (s : State) : List Byte :=
  let m := s.boot.modelNumber.getD (ascii "Quostan Chochenel " ++ ascii (variantName s.fuses.variant))
  (m ++ List.replicate 40 (BitVec.ofNat 8 32)).take 40

/-- FR: the revision of the running image. -/
def firmwareRev (s : State) : List Byte := padTo 8 s.adm.runningRev

/-- The IEEE OUI (R83). -/
def ieeeOui (s : State) : Nat := s.boot.ieee.getD (Config.identity 8 % 2 ^ 24)

/-- The device runs more than one sub-link. -/
def manySubLinks (s : State) : Bool := decide (((upTo (variant s).ports).map (subLinks s)).foldl (· + ·) 0 > 1)

/-- Raw capacity of the live dies in bytes. -/
def rawCapacity (s : State) : Nat := liveDies s * dieBytes s

/-- EDSTT in minutes (R175). -/
def extendedTestMinutes (s : State) : Nat := ceilDiv (rawCapacity s + 300 * 300000000000) (60 * 300000000000)

/-- The PS4 latencies in µs (R604): ENLAT, and EXLAT with and without retention. -/
def ps4Enlat (s : State) : Nat :=
  let top := mapSegments s * 65536 + 8 * 2 ^ 30
  let w := top - max (installedBytes s / 2) (mapSegments s * 65536)
  s.cur.dumpSets.size / 90000 + w / 8000 + 20000
def ps4Exlat (s : State) : Nat :=
  let top := mapSegments s * 65536 + 8 * 2 ^ 30
  let w := top - max (installedBytes s / 2) (mapSegments s * 65536)
  if retentionOn s then ps4Enlat s + 300000 + w / 8000 else ps4Enlat s + 2500000

/-- A power state descriptor (R600): MP in 0.01 W. -/
def psDescriptor (s : State) (n : Nat) (base : List Byte) : List Byte :=
  let mp := (if (variant s).package = 0xB then [7800, 6000, 4500, 400, 90] else [4200, 3300, 2500, 240, 60]).getD n 0
  let lat := if n < 3 then (0, 0) else if n = 3 then (15000, 1000) else (ps4Enlat s, ps4Exlat s)
  layOver base [fld 0 2 mp, fld 3 1 (flag (decide (n ≥ 3)) * 2), fld 4 4 lat.1, fld 8 4 lat.2, fld 12 4 (n + 256 * n + 65536 * n + 16777216 * n)]

/-- Identify Controller (R139). -/
def identifyController (s : State) (c : Nat) (base : List Byte) : List Byte :=
  let a := (variant s).crypto
  let psds := (upTo 5).map fun n => (2048 + 32 * n, psDescriptor s n (sliceBytes base (2048 + 32 * n) 32))
  layOver base ([
    fld 0 2 (s.boot.vendorId.getD (Config.identity 0 % 65536)), fld 2 2 (s.boot.subsystemVendorId.getD (Config.identity 0 % 65536)),
    (4, serialNumber s), (24, modelNumber s), (64, firmwareRev s), fld 73 3 (ieeeOui s), fld 76 1 (6 + flag (manySubLinks s)), fld 77 1 6,
    fld 78 2 (c + 1), fld 80 4 0x00020100, fld 84 4 (ps4Enlat s + 2500000), fld 88 4 (ps4Enlat s), fld 92 4 0x300, fld 111 1 1,
    fld 256 2 (if isPf s c then 0x9E else 0), fld 258 1 15, fld 259 1 7, fld 260 1 0x14, fld 261 1 0x06, fld 262 1 255, fld 263 1 4, fld 265 1 1,
    fld 266 2 (wcTemp s), fld 268 2 (ccTemp s), fld 270 2 5, fld 316 2 (extendedTestMinutes s), fld 319 1 1,
    fld 328 4 (if a then 3 else 2), fld 512 1 0x66, fld 513 1 0x44, fld 516 4 1024, fld 520 2 0x9D, fld 522 2 0, fld 524 1 (if a then 4 else 0),
    fld 525 1 0, fld 536 4 1, (768, padTo 256 (ascii "nqn.2019-08.com.quostan:chochenel:" ++ hex16 s.fuses.uid))] ++ psds)

/-- Identify Namespace (R140, R141, R233). -/
def identifyNamespace (n : Namespace) (base : List Byte) : List Byte :=
  let opt := 16384 / blockSize n - 1
  let size := if n.csi = 4 then 0 else n.nsze
  layOver (base.take 384 ++ zeros 3712) [
    fld 0 8 size, fld 8 8 size, fld 24 1 (16 + flag n.compress), fld 25 1 1, fld 26 1 n.lbaf, fld 27 1 0, fld 30 1 1,
    fld 64 2 opt, fld 66 2 opt, fld 68 2 opt, fld 70 2 opt, fld 72 2 opt, fld 128 4 (12 * 65536), fld 132 4 (9 * 65536 + 2 * 2 ^ 24),
    fld 3072 1 (flag n.compress + 2 * flag n.sustained)]

/-- A list of numbers of `k` bytes each, in 4,096 bytes. -/
def numberList (k : Nat) (xs : List Nat) : List Byte := padTo 4096 (xs.flatMap fun x => leBytes k x)

/-- A controller list: count, then identifiers. -/
def controllerList (ids : List Nat) : List Byte := numberList 2 (ids.length :: ids.take 2047)

/-- Controllers that are there (R71, R82), by identifier. -/
def controllerIds (s : State) : List Nat := ((upTo (controllerCount s)).filter (functionThere s)).map (· + 1)

/-- The namespaces a controller sees: attached, above an NSID. -/
def activeNsids (s : State) (c above : Nat) : List Nat :=
  (s.adm.namespaces.keys.filter fun n => (ctlOf s c).attached.contains n && decide (n > above)).take 1024

/-- VQ or VI resources that the secondary controllers of a physical function hold. -/
def secondaryHeld (s : State) (c : Nat) (f : Controller → Nat) : Nat :=
  (((ctlsOf s (c / 64) (ctlSub s c)).filter (· != c)).map fun v => f (ctlOf s v)).foldl (· + ·) 0

/-- Primary Controller Capabilities (R97, R98). -/
def primaryCaps (s : State) (c : Nat) (base : List Byte) : List Byte :=
  let x := ctlOf s c
  layOver base [
    fld 0 2 (c + 1), fld 4 1 3, fld 32 4 (x.vq + secondaryHeld s c (·.vq)), fld 36 4 (secondaryHeld s c (·.vq)), fld 40 2 (min 65535 x.vq), fld 42 2 0,
    fld 44 2 16384, fld 64 4 (x.vi + secondaryHeld s c (·.vi)), fld 68 4 (secondaryHeld s c (·.vi)), fld 72 2 (min 65535 x.vi), fld 74 2 1,
    fld 76 2 2047]

/-- Secondary Controller List (R97). -/
def secondaryList (s : State) (c first : Nat) : List Byte :=
  let vs := ((ctlsOf s (c / 64) (ctlSub s c)).filter fun v => v != c && decide (v + 1 ≥ first)).take 127
  let entry (v : Nat) : List Byte :=
    let x := ctlOf s v
    leBytes 2 (v + 1) ++ leBytes 2 (c + 1) ++ leBytes 4 (flag x.online) ++ leBytes 2 (v - c) ++ leBytes 2 x.vq ++ leBytes 2 x.vi ++ zeros 18
  padTo 4096 (padTo 32 [BitVec.ofNat 8 vs.length] ++ vs.flatMap entry)

/-- The data of an Identify, or the status that refuses it (R138 to R141). `base` are free bytes. CNS 0x14 and 0x15 tell a virtual function
of its sub-link's physical one. -/
def identifyData (s : State) (c nsid cns cntid csi : Nat) (base : List Byte) : Completion ⊕ List Byte :=
  let nsOk := nsid ≠ 0 ∧ nsid ≤ 1024
  let seen := if (ctlOf s c).attached.contains nsid then nsOf s nsid else none
  let csiOk := csi = 0 ∨ csi = 3 ∨ csi = 4
  match cns with
  | 0x00 =>
    if nsid = 0xFFFFFFFF then .inr (layOver (base.take 384 ++ zeros 3712) [fld 25 1 1, fld 128 4 (12 * 65536), fld 132 4 (9 * 65536 + 2 * 2 ^ 24)])
    else if !nsOk then .inl stInvalidNs
    else .inr ((seen.map fun n => identifyNamespace n base).getD (zeros 4096))
  | 0x01 => .inr (identifyController s c base)
  | 0x02 => if nsid ≥ 0xFFFFFFFE then .inl stInvalidNs else .inr (numberList 4 (activeNsids s c nsid))
  | 0x03 =>
    match seen with
    | none => .inl stInvalidNs
    | some n => .inr (layOver base [(0, [4, 1, 0, 0, BitVec.ofNat 8 n.csi])])
  | 0x05 =>
    if !csiOk then .inl stInvalidField
    else if !nsOk then .inl stInvalidNs
    else .inr (if seen.any (fun n => n.csi = csi) then base else zeros 4096)
  | 0x06 => if csiOk then .inr base else .inl stInvalidField
  | 0x07 =>
    if !csiOk then .inl stInvalidField
    else if nsid ≥ 0xFFFFFFFE then .inl stInvalidNs
    else .inr (numberList 4 ((activeNsids s c nsid).filter fun n => nsSet s n == csi))
  | 0x08 =>
    match seen with
    | none => if nsOk then .inr (zeros 4096) else .inl stInvalidNs
    | some n => .inr (layOver base [fld 1 1 1, fld 14 1 (flag !(n.csi == 0 && nsNotReady s n))])
  | 0x10 => if nsid ≥ 0xFFFFFFFE then .inl stInvalidNs else .inr (numberList 4 ((s.adm.namespaces.keys.filter fun n => decide (n > nsid)).take 1024))
  | 0x11 => if !nsOk then .inl stInvalidNs else .inr (((nsOf s nsid).map fun n => identifyNamespace n base).getD (zeros 4096))
  | 0x12 =>
    if !Tab.has s.adm.namespaces nsid then .inl stInvalidNs
    else .inr (controllerList ((controllerIds s).filter fun i => decide (i ≥ cntid) && (ctlOf s (i - 1)).attached.contains nsid))
  | 0x13 => .inr (controllerList ((controllerIds s).filter fun i => decide (i ≥ cntid)))
  | 0x14 => .inr (primaryCaps s (pfOf s (c / 64) (ctlSub s c)) base)
  | 0x15 => .inr (secondaryList s (pfOf s (c / 64) (ctlSub s c)) cntid)
  | 0x1C => .inr (padTo 4096 (leBytes 8 0x19))
  | _ => .inl stInvalidField

/-! ## SMART / Health (R147) -/

/-- Available Spare: the free reserve as a percentage of its size at first format. -/
def availableSpare (s : State) : Nat := if firstReserve s = 0 then 100 else min 100 (freeReserve s * 100 / firstReserve s)

/-- Percentage Used: mean cycles over the rated cycles. -/
def percentUsed (s : State) : Nat :=
  let blocks := liveDies s * dieBlocks s
  let cycles := (s.cur.blocks.map fun e => e.2.erases).foldl (· + ·) 0
  let rated := geo s (·.ratedCycles)
  if blocks = 0 ∨ rated = 0 then 0 else min 255 (cycles * 100 / (blocks * rated))

/-- Critical Warning. -/
def criticalWarning (s : State) : Nat :=
  flag (s.cur.reserveLow || decide (availableSpare s < 10)) + 2 * flag (tempWarning s) + 4 * flag (s.adm.lost != []) + 8 * flag (readOnly s)
    + 16 * flag s.cur.holdup.low

/-- The SMART / Health page. -/
def smartPage (s : State) (base : List Byte) : List Byte :=
  layOver base [
    fld 0 1 (criticalWarning s), fld 1 2 (composite s / 10), fld 3 1 (availableSpare s), fld 4 1 10, fld 5 1 (percentUsed s),
    fld 32 16 (ceilDiv s.adm.bytesRead 512000), fld 48 16 (ceilDiv s.adm.bytesWritten 512000), fld 144 16 s.adm.unsafeShutdowns,
    fld 160 16 s.adm.integrityErrors, fld 192 4 (s.adm.warnMs / 60000), fld 196 4 (s.adm.critMs / 60000)]

/-! ## Standard log pages (R145) -/

/-- Error Information; without LBAs during a sanitize, as NVMe has it (PRESUMED, log 27). -/
def errorPage (s : State) (c : Nat) : List Byte :=
  let lba (n : Nat) : Nat := if sanitizing s then 0 else n
  padTo 16384 ((ctlOf s c).errors.flatMap fun e => padTo 64 (leBytes 8 e.count ++ leBytes 2 e.sqid ++ leBytes 2 e.cid ++ leBytes 2 e.status ++ zeros 2
    ++ leBytes 8 (lba e.lba) ++ leBytes 4 e.nsid))

/-- Firmware Slot Information (R164). -/
def slotPage (s : State) : List Byte :=
  let rev (n : Nat) : List Byte := padTo 8 (((Tab.get? s.adm.slots n).map FwImage.rev).getD [])
  layOver (zeros 512) [fld 0 1 (s.adm.runningSlot + (if s.adm.bootSelect = s.adm.runningSlot then 0 else 16 * s.adm.bootSelect)), (8, rev 1), (16, rev 2)]

/-- Changed Namespace List. -/
def changedPage (s : State) (c : Nat) : List Byte :=
  let xs := (ctlOf s c).changedNs
  numberList 4 (if xs.length > 1024 then [0xFFFFFFFF] else sortBy id xs)

/-- Commands Supported and Effects: exactly the commands of R135 that the function supports; their effects are free. -/
def effectsPage (s : State) (c : Nat) (base : List Byte) : List Byte :=
  let ok (op : Nat) : Bool := adminOpcodes.contains op && (isPf s c || !pfOnlyOpcodes.contains op)
  padTo 4096 ((upTo 256).flatMap fun op => if ok op then leBytes 4 (leAt base (4 * op) 4 / 2 * 2 + 1) else zeros 4)

/-- Device Self-test: the operation in progress, and 20 results, newest first. -/
def selfTestPage (s : State) (base : List Byte) : List Byte :=
  let entry (i : Nat) : List Byte :=
    match s.adm.selfTests[i]? with
    | some e => overlay (sliceBytes base (4 + 28 * i) 28) 0 [BitVec.ofNat 8 (e.code % 16 * 16 + e.result % 16)]
    | none => padTo 28 [0xF]
  [BitVec.ofNat 8 (s.adm.selfTest.getD 0), if s.adm.selfTest.isSome then base.getD 1 0 else 0, 0, 0] ++ (upTo 20).flatMap entry

/-- The features of R154 and R155. -/
def featureIds : List Nat := [0x01, 0x02, 0x04, 0x05, 0x07, 0x08, 0x09, 0x0B, 0x0C, 0xC0, 0xC1, 0xC2, 0xC3, 0xC4]

/-- Feature Identifiers Supported and Effects. -/
def featurePage (base : List Byte) : List Byte :=
  (upTo 256).flatMap fun f => if featureIds.contains f then leBytes 4 (leAt base (4 * f) 4 / 2 * 2 + 1) else zeros 4

/-- ETBE in seconds (R172). -/
def blockEraseSeconds (s : State) : Nat := ceilDiv (geo s (·.blocksPerPlane) * s.flash.tBers + 10 * 10 ^ 9) (10 ^ 9)

/-- Sanitize Status (R172). -/
def sanitizePage (s : State) (base : List Byte) : List Byte :=
  let st := match s.adm.sanitize with
    | .idle => 0
    | .done => 1
    | .blockErase => 2
    | .cryptoErase => 2
    | .failed => 3
  let run := sanitizing s
  layOver base ([fld 2 2 st, fld 12 4 (blockEraseSeconds s), fld 16 4 2] ++ (if run then [] else [fld 0 2 0xFFFF]))

/-! ## Vendor log pages (R148 to R153) -/

/-- A vendor page: its header and what follows. -/
def vendorPage (lid : Nat) (tsc : Nat) (body : List Byte) : List Byte := leBytes 2 (lid + 256) ++ zeros 2 ++ leBytes 4 (16 + body.length) ++ leBytes 8 tsc ++ body

/-- Extended health (R150). 'Wings present' is their number (DESIGN CHOICE, log 145: the manual does not say whether it is a mask). -/
def healthPage (s : State) : List Byte :=
  let wing (w : Nat) : List Byte :=
    let p := pool s w
    let dies := ((chansOf w).map fun ch => (chan s ch).fenced.length).foldl (· + ·) 0
    leBytes 4 (p.reserve + p.emergency) ++ leBytes 4 p.emergency ++ leBytes 4 p.lent ++ leBytes 4 p.borrowed ++ leBytes 4 p.deaccessioned ++ leBytes 2 dies ++ zeros 10
  let wings := (upTo 8).flatMap fun w => if w < (variant s).wings then wing w else zeros 32
  vendorPage 0xC0 s.tsc (leBytes 1 (roReason s) ++ leBytes 1 (variant s).wings ++ zeros 6 ++ leBytes 8 s.adm.scannedBytes ++ leBytes 8 s.cur.bytesRelocated
    ++ leBytes 8 s.cur.bytesProgrammed ++ leBytes 8 s.cur.holdup.budget ++ zeros 8 ++ wings ++ zeros 192)

/-- Fence log (R217). -/
def fencePage (s : State) : List Byte :=
  let xs := s.flash.fences.take 1536
  let entry (e : FenceEntry) : List Byte :=
    leBytes 1 e.channel ++ leBytes 1 e.die ++ leBytes 1 e.reason ++ leBytes 1 e.state ++ leBytes 1 e.quals ++ zeros 3 ++ leBytes 8 e.tscFence
      ++ leBytes 8 e.tscResponse ++ leBytes 4 (min 0xFFFFFFFF e.responses) ++ zeros 4
  vendorPage 0xC1 s.tsc (leBytes 4 xs.length ++ zeros 12 ++ xs.flatMap entry)

/-- Deaccession log (R268). -/
def deaccessionPage (s : State) : List Byte :=
  let xs := s.cur.deaccessions.take 16384
  vendorPage 0xC2 s.tsc (leBytes 4 xs.length ++ leBytes 4 s.cur.deaccTotal ++ zeros 8
    ++ xs.flatMap fun e => leBytes 6 e.psa ++ leBytes 1 e.reason ++ zeros 1 ++ leBytes 8 e.tsc)

/-- Affected LBA list (R151). -/
def lostPage (s : State) : List Byte :=
  let xs := s.adm.lost.take 65536
  vendorPage 0xC3 s.tsc (leBytes 4 xs.length ++ leBytes 1 (flag (decide (s.adm.lost.length > 65536))) ++ zeros 11
    ++ xs.flatMap fun e => leBytes 4 e.nsid ++ zeros 4 ++ leBytes 8 e.lba ++ leBytes 8 e.blocks)

/-- Hold-up measurement (R278). -/
def holdupPage (s : State) : List Byte :=
  let h := s.cur.holdup
  vendorPage 0xC4 s.tsc (padTo 112 (leBytes 4 s.boot.capacitance ++ leBytes 2 s.boot.voltage ++ leBytes 2 s.boot.vMin ++ leBytes 4 h.cMeas ++ leBytes 2 h.vc
    ++ zeros 2 ++ leBytes 8 h.tsc ++ leBytes 8 h.budget ++ leBytes 4 (h.rDump / 1000000) ++ leBytes 4 h.dumps ++ leBytes 4 h.dips
    ++ leBytes 4 (max s.cur.dumpSets.a.cycles s.cur.dumpSets.b.cycles) ++ leBytes 8 h.lastBytes ++ leBytes 4 h.lastDumpUs ++ leBytes 4 h.lastRecoveryMs))

/-- Monitor snapshot (R315). -/
def monitorPage (s : State) : List Byte :=
  let one (j : Nat) : List Byte :=
    let m := monitor s j
    leBytes 1 m.source ++ leBytes 1 m.inst ++ leBytes 1 (flag m.enabled + 2 * flag (bit m.cfg 16)) ++ zeros 1 ++ leBytes 4 m.bin.toNat ++ leBytes 4 m.min
      ++ leBytes 4 m.max ++ leBytes 8 m.count ++ leBytes 8 m.sum ++ (upTo 16).flatMap (fun i => leBytes 4 (Tab.getD m.bins i 0)) ++ leBytes 4 m.last ++ zeros 28
  vendorPage 0xC5 s.tsc (zeros 16 ++ (upTo 128).flatMap one)

/-- Hours since the written page verified longest ago was verified (R316), over the pages of closed sets that have been verified since their set closed;
free while there is none. -/
def verifyHours (s : State) (free : Nat) : Nat :=
  let stamps := s.cur.sets.flatMap fun e =>
    if e.2.state == .open then [] else (setPages s e.2).filterMap fun p =>
      (Tab.get? s.care.verified (patrolKey s e.1 p)).bind fun t => if t < e.2.closedAt then none else some t
  match minBy id stamps with
  | some t => (s.tsc - t) / (3600 * 10 ^ 9) % 2 ^ 32
  | none => free

/-- Conservator activity (R316). -/
def carePage (s : State) (free : Nat) : List Byte :=
  let c := s.care.counts
  let rec1 (i : Nat) : List Byte :=
    match s.adm.islandRecords.reverse[i]? with
    | some r => leBytes 1 r.sensor ++ leBytes 1 3 ++ zeros 2 ++ leBytes 4 r.errCap ++ leBytes 8 r.errAddr ++ leBytes 8 r.tsc ++ zeros 8
    | none => padTo 32 [0xFF]
  vendorPage 0xC6 s.tsc (leBytes 1 (devFeat s 0xC0 0 30) ++ leBytes 1 (effectiveShare s) ++ leBytes 1 (flag s.care.floor) ++ leBytes 1 s.care.stage
    ++ (upTo 4).flatMap (fun k => leBytes 4 (Tab.getD c.breaches k 0)) ++ zeros 4 ++ leBytes 8 c.patrolPages ++ leBytes 8 c.patrolPasses
    ++ leBytes 8 c.closeVerifies ++ leBytes 8 c.rewrites ++ leBytes 8 c.refreshes ++ leBytes 8 c.calibrations ++ leBytes 8 c.flashRetrains
    ++ leBytes 8 c.dramRetrains ++ leBytes 8 c.measurements ++ leBytes 8 c.floorMs ++ leBytes 4 (verifyHours s free) ++ leBytes 4 c.patrolLate ++ (upTo 8).flatMap rec1)

/-- Thermal and DVFS (R317). -/
def thermalPage (s : State) : List Byte :=
  let c := s.care.counts
  let lvl (n : Nat) : Byte := BitVec.ofNat 8 (((islandOfSensor n).map fun i => if islandPresent s i then levelOf s i else 0).getD 0)
  let mean (n : Nat) : Nat := let x := sensor s n
    if x.hours = 0 then 0 else x.sum / x.hours
  vendorPage 0xC7 s.tsc (padTo 496 (leBytes 1 (ceilingC s) ++ leBytes 1 s.care.stage ++ leBytes 2 (composite s) ++ leBytes 4 c.stage2Entries
    ++ leBytes 8 c.stage2Ms ++ padTo 96 ((upTo 42).flatMap fun n => leBytes 2 (conTemp s n).toNat) ++ padTo 96 ((upTo 42).flatMap fun n => leBytes 2 (sensor s n).high)
    ++ padTo 96 ((upTo 42).map lvl) ++ (upTo 42).flatMap fun n => leBytes 2 (mean n)))

/-- Alarm log (R567). -/
def alarmPage (s : State) : List Byte :=
  let xs := s.sec.log.take 64
  vendorPage 0xC8 s.tsc (leBytes 4 xs.length ++ leBytes 4 (min 0xFFFFFFFF s.sec.total) ++ zeros 8
    ++ xs.flatMap fun e => leBytes 8 e.tsc ++ leBytes 1 e.source ++ leBytes 1 e.detector ++ leBytes 1 e.outcome ++ leBytes 1 e.owner ++ zeros 4
      ++ leBytes 8 e.tscRearm ++ zeros 8)

/-- Program fault log (R398, R461). -/
def faultPage (s : State) : List Byte :=
  let xs := s.rgs.faults.take 1024
  vendorPage 0xC9 s.tsc (leBytes 4 xs.length ++ leBytes 4 (min 0xFFFFFFFF s.rgs.faultTotal) ++ zeros 8
    ++ xs.flatMap fun f => leBytes 1 f.code ++ leBytes 1 f.sub ++ leBytes 1 f.gallery ++ leBytes 1 f.core ++ leBytes 4 f.pc ++ leBytes 4 f.instr
      ++ leBytes 4 f.ea ++ leBytes 8 f.tsc ++ leBytes 4 f.slot ++ zeros 4)

/-- Firmware activation history (R153). -/
def activationPage (s : State) : List Byte :=
  let xs := s.adm.fwLog.take 16
  vendorPage 0xCA s.tsc (leBytes 4 xs.length ++ zeros 12
    ++ xs.flatMap fun e => leBytes 8 e.tsc ++ padTo 8 e.prev ++ padTo 8 e.next ++ leBytes 1 e.slot ++ leBytes 1 e.action ++ leBytes 1 e.result ++ leBytes 1 e.ctl
      ++ leBytes 4 e.pauseUs)

/-- A log page that a controller reads, log 0xC5 apart; none: the identifier is not supported. `base` and `free` are free. -/
def logPage (s : State) (c lid : Nat) (base : List Byte) (free : Nat) : Option (List Byte) :=
  match lid with
  | 0x01 => some (errorPage s c)
  | 0x02 => some (smartPage s (base.take 512))
  | 0x03 => some (slotPage s)
  | 0x04 => some (changedPage s c)
  | 0x05 => some (effectsPage s c base)
  | 0x06 => some (selfTestPage s base)
  | 0x12 => some (featurePage base)
  | 0x81 => some (sanitizePage s (base.take 512))
  | 0xC0 => some (healthPage s)
  | 0xC1 => some (fencePage s)
  | 0xC2 => some (deaccessionPage s)
  | 0xC3 => some (lostPage s)
  | 0xC4 => some (holdupPage s)
  | 0xC6 => some (carePage s free)
  | 0xC7 => some (thermalPage s)
  | 0xC8 => some (alarmPage s)
  | 0xC9 => some (faultPage s)
  | 0xCA => some (activationPage s)
  | _ => none

/-! ## Sideband (R176 to R178) -/

/-- A port has a link. -/
def portActive (s : State) (p : Nat) : Bool := (upTo 4).any fun sub => (linkOf s (4 * p + sub)).rate != 0

/-- The keeper firmware runs and can refresh the block (R178): not before it runs, nor while its island is held or re-initialised. -/
def driveReady (s : State) : Bool := s.link.firmwareRuns && s.pwr.resetDump.isNone && !islandRefuses s .keeper

/-- The status flags (NVMe-MI: PRESUMED, log 27): arbitration, not ready, functional, no reset needed, the two ports' links. -/
def sidebandFlags (s : State) (ready : Bool) : Byte :=
  BitVec.ofNat 8 (128 * flag s.adm.smbusArb + 64 * flag (!ready) + 0x33 + 8 * flag (portActive s 0) + 4 * flag (portActive s 1))

/-- The temperature byte: °C, saturating at -60 and 127. -/
def sidebandTemp (t : Nat) : Byte :=
  BitVec.ofNat 8 (if t ≥ 273 then min 0x7F (t - 273) else if t ≥ 213 then 256 - (273 - t) else 0xC4)

/-- The status block of the basic management command: status flags, inverted warnings, temperature, percentage used. -/
def sidebandStatus (s : State) : List Byte :=
  match (if driveReady s then s.adm.sideband else none) with
  | none => [6, sidebandFlags s false, 0xFF, 0x80, 0, 0, 0]
  | some (warn, t, used) =>
    [6, sidebandFlags s true, BitVec.ofNat 8 (255 - warn % 256), sidebandTemp t, BitVec.ofNat 8 used, 0, 0]

/-- The vendor block: VID, most significant byte first, and SN. -/
def sidebandVendor (s : State) : List Byte :=
  [22] ++ beBytes 2 (s.boot.vendorId.getD (Config.identity 0 % 65536)) ++ serialNumber s

/-- The answer of a read at a command code, with its error code. -/
def sidebandRead (s : State) (code len : Nat) : List Byte :=
  let data := if code = 0 then sidebandStatus s else if code = 8 then sidebandVendor s else []
  let pec := BitVec.ofNat 8 (crc8 ([0xD4, BitVec.ofNat 8 code, 0xD5] ++ data))
  if data = [] then List.replicate len 0xFF else ((data ++ [pec]) ++ List.replicate len 0xFF).take len

end Sys2Proof.Machine
end

