-- ==== Sys2Proof/Machine/AdminOps.lean ====
section
/-! DEFINITION. The admin commands' operations: namespaces, log reads, features, firmware, virtualization, format, sanitize and self-test (chapter 04). Status values and encodings that NVMe gives are PRESUMED (log 27). -/

namespace Sys2Proof.Machine

/-- Command-specific statuses. -/
def stSpecific (sc : Nat) : Completion := statusOf 1 sc

/-- Runs an admin command that NVMe does not permit during a sanitize (R171). -/
def unlessSanitizing (c : Cmd) (f : State → State) (s : State) : State := if sanitizing s then finish c.ref stSanitizing s else f s

/-! ## Completion and waits for started commands (R143) -/

/-- The first DRAM extent, from the top, that can hold `size` bytes of subsystem local memory (R229, R419): above the map, the
working area and the minimum write buffer, which the working area holds. -/
def slmExtent (s : State) (size : Nat) : Option Nat :=
  let floor := mapSegments s * 65536 + 8 * 2 ^ 30
  let slms := (s.adm.namespaces.filter fun e => e.2.csi = 3).map fun e => (e.2.slmBase, e.2.slmBase + e.2.nsze)
  let tops := installedBytes s :: slms.map Prod.fst
  let cands := (tops.filter fun t => decide (t ≥ size)).map fun t => (t - size) / 4096 * 4096
  let ok (b : Nat) : Bool := decide (b ≥ floor) && slms.all fun e => decide (b + size ≤ e.1) || decide (e.2 ≤ b)
  minBy (fun b => 2 ^ 40 - b) (cands.filter ok)

/-- Every listed MU of a namespace becomes deallocated (R144, R170, R173). -/
def deallocateAll (nsid : Nat) (s : State) : State :=
  match nsOf s nsid with
  | none => s
  | some n =>
    let mus := (listedGmus s).filterMap fun g => (n.segs.idxOf? (g / 8192)).map fun i => i * 8192 + g % 8192
    let s := setCur (fun c => { c with
      lostMus := c.lostMus.filter (fun g => !n.segs.contains (g / 8192)), badMus := c.badMus.filter fun g => !n.segs.contains (g / 8192) }) s
    doAll (deallocMu nsid n) mus s

/-- A namespace attribute notice to controllers (R143). -/
def nsNotice (nsid : Nat) (ctls : List Nat) (s : State) : State :=
  doAll (fun c s =>
    let s := setCtl c (fun x => { x with changedNs := if x.changedNs.contains nsid then x.changedNs else x.changedNs ++ [nsid] }) s
    if (ctlOf s c).enabled then asyncNotice c 8 { type := 2, info := 0, lid := 4 } s else s) ctls s

/-- A namespace goes: its MUs, its key and record, its memory and its programs (R144, R224, R419). -/
def removeNamespace (nsid : Nat) (s : State) : State :=
  match nsOf s nsid with
  | none => s
  | some n =>
    let s := if n.csi = 0 then deallocateAll nsid s else if n.csi = 3 then dramZero n.slmBase (n.slmBase + n.nsze) s else s
    let s := doAll (fun i s => journal (.nsSegment nsid i (2 ^ 64 - 1)) s) (upTo n.segs.length) s
    let s := if n.csi = 0 && (variant s).crypto then
        setSec (fun x => { x with slots := Tab.del x.slots n.keySlot, records := Tab.del x.records n.keySlot }) s
      else s
    let s := doAll (fun (e : Nat × Program) s => doAll freeContext e.2.ctx.toList s) (s.rgs.programs.filter fun e => e.1 / 64 == nsid) s
    let s := setRgs (fun r => { r with
      programs := Tab.keep r.programs (fun k _ => k / 64 != nsid), rangeSets := Tab.keep r.rangeSets (fun _ x => x.nsid != nsid) }) s
    setAdm (fun a => { a with namespaces := Tab.del a.namespaces nsid }) s

/-- A command started on a namespace through one of some controllers, and not yet completed. -/
def startedOn (s : State) (nsid : Nat) (ctls : List Nat) : Bool :=
  s.acc.cmds.any fun c => c.ref.sq != 0 && c.nsid == nsid && ctls.contains c.ref.ctl && (c.phase == .started || c.phase == .executed) && !c.waitsCharge

/-- Detaches and deletes whose last started command has completed (R143). -/
def checkNsWaits (s : State) : State :=
  let ready := s.adm.nsWaits.filter fun w => !startedOn s w.nsid w.ctls
  let s := setAdm (fun a => { a with nsWaits := a.nsWaits.filter fun w => startedOn s w.nsid w.ctls }) s
  let s := doAll (fun (w : NsWait) s => if w.delete then removeNamespace w.nsid s else s) ready s
  doAll (fun (w : NsWait) s => if s.adm.nsWaits.any (fun x => x.ref == w.ref) then s else finish w.ref (success 0 0) s) ready s

/-- A namespace whose format a power loss or reset interrupted: until recovery has finished it, host commands to it meet Not Ready (R174). -/
def formatPending (s : State) (nsid : Nat) : Bool := s.adm.format.isNone && (nsOf s nsid).any fun n => n.formatting.isSome

/-- Commands not started on a namespace that is going end at once (R143). -/
def endWaiting (nsid : Nat) (ctls : List Nat) (s : State) : State :=
  doAll (fun (c : Cmd) s => endUnstarted c.ref stInvalidNs s)
    (s.acc.cmds.filter fun c => c.ref.sq != 0 && c.nsid == nsid && ctls.contains c.ref.ctl && c.waitsCharge) s

/-- COMMAND_COMPLETE: a finished command completes, and what waited for it goes on (R108, R143). -/
def commandComplete (r : CmdRef) (s : State) : State := checkNsWaits (completeCmd r (checkNsWaits s))

/-! ## Namespace Management and Attachment (R141 to R144, R230, R233, R418, R419, R565) -/

/-- Bytes of all namespaces (R230). -/
def allBytes (s : State) : Nat := (s.adm.namespaces.map fun e => nsBytes e.2).foldl (· + ·) 0

/-- The namespace that attributes ask for, without its places. -/
def wantedNs (a : NsAttrs) : Namespace :=
  { csi := a.csi, nsze := a.nsze, lbaf := a.flbas % 16, compress := a.vendorByte % 2 == 1, sustained := a.vendorByte / 2 % 2 == 1, segs := [] }

/-- Why a create fails, in the order of the model (R142, R418). -/
def createRefusal (s : State) (a : NsAttrs) : Option Completion :=
  let n := wantedNs a
  if a.csi ≠ 0 ∧ a.csi ≠ 3 ∧ a.csi ≠ 4 then some (stSpecific 0x29)
  else if (if a.csi = 0 then a.vendorByte ≥ 4 else a.vendorByte ≠ 0) ∨ a.nsze ≠ a.ncap ∨ (a.csi = 4 ∧ a.nsze ≠ 0) then some stInvalidField
  else if a.csi = 0 ∧ (a.flbas % 16 > 1 ∨ a.flbas / 32 % 4 ≠ 0) then some (stSpecific 0x0A)
  else if s.adm.namespaces.length ≥ 1024 ∨ (a.csi = 4 ∧ (s.adm.namespaces.filter fun e => e.2.csi = 4).length ≥ 64) then some (stSpecific 0x16)
  else if a.csi = 0 ∧ (variant s).crypto ∧ !s.sec.armed then some (stSpecific 0xC7)
  else if allBytes s + nsBytes n + 2048 * (8 * 2 ^ 30) > 2048 * installedBytes s then some (stSpecific 0x15)
  else if a.csi = 0 ∧ reservations s + nsReserve n.compress n.sustained (nsBytes n) > userCapacity s then some (stSpecific 0x15)
  else if a.csi = 3 ∧ (slmExtent s a.nsze).isNone then some (stSpecific 0x15)
  else none

/-- The lowest free map segments (R224). -/
def freeSegments (s : State) (k : Nat) : List Nat :=
  let used := s.adm.namespaces.flatMap fun e => e.2.segs
  ((upTo (used.length + k)).filter fun i => !used.contains i).take k

/-- A media key for a namespace: a random key in its slot, its record kept (R243, R531). -/
def newMediaKey (slot : Nat) (s : State) : State :=
  let s := keyGenerate 0 1 64 slot s
  if s.sec.keyResult = 0 then setSec (fun x => { x with records := Tab.set x.records slot (keyWrapBytes s) }) s else s

/-- Namespace Management create (R142). -/
def nsCreate (c : Cmd) (a : NsAttrs) (s : State) : State :=
  match createRefusal s a with
  | some st => finish c.ref st s
  | none =>
    let nsid := ((upTo 1024).map (· + 1) |>.find? fun k => !Tab.has s.adm.namespaces k).getD 1
    let segs := if a.csi = 0 then freeSegments s (ceilDiv (nsBytes (wantedNs a)) (2 ^ 27)) else []
    let slot := (upTo 1024).find? (fun k => !(s.adm.namespaces.any fun e => e.2.csi = 0 && e.2.keySlot == k)) |>.getD 0
    let base := if a.csi = 3 then (slmExtent s a.nsze).getD 0 else 0
    let n : Namespace := { wantedNs a with segs := segs, keySlot := slot, slmBase := base }
    let top := segs.foldl (fun m x => max m (x + 1)) 0 * 65536 + 8 * 2 ^ 30
    if s.adm.namespaces.any (fun e => e.2.csi = 3 && decide (e.2.slmBase < top)) then finish c.ref (stSpecific 0x15) s
    else
      let s := setAdm (fun x => { x with namespaces := Tab.set x.namespaces nsid n }) s
      let s := doAll (fun (p : Nat × Nat) s => journal (.nsSegment nsid p.1 p.2) s) ((upTo segs.length).zip segs) s
      let s := doAll (fun m s => clearMem (65536 * m) (65536 * (m + 1)) s) segs s
      let s := if a.csi = 3 then dramZero base (base + a.nsze) s else s
      let s := if a.csi = 0 && (variant s).crypto then newMediaKey slot s else s
      finish c.ref (success nsid 0) s

/-- Namespace Management delete (R143, R144); NSID 0xFFFF_FFFF deletes every namespace. -/
def nsDelete (c : Cmd) (s : State) : State :=
  let targets := if c.nsid = 0xFFFFFFFF then s.adm.namespaces.keys else if Tab.has s.adm.namespaces c.nsid then [c.nsid] else []
  let targets := targets.filter fun k => ((nsOf s k).map fun n => n.deleting.isNone).getD false
  if targets = [] ∧ c.nsid ≠ 0xFFFFFFFF then finish c.ref stInvalidNs s
  else if targets = [] then finish c.ref (success 0 0) s
  else if targets.any (formatPending s) then finish c.ref stNotReady s
  else
    let one (k : Nat) (s : State) : State :=
      let ctls := s.acc.ctls.keys
      let seen := ctls.filter fun i => (ctlOf s i).attached.contains k
      let s := setAdm (fun a => { a with
        namespaces := Tab.adjust a.namespaces k (fun n => { n with deleting := some c.ref }),
        nsWaits := a.nsWaits ++ [{ ref := c.ref, nsid := k, ctls := ctls, delete := true }] }) s
      let s := doAll (fun i s => setCtl i (fun x => { x with attached := x.attached.filter (· != k) }) s) seen s
      nsNotice k seen (endWaiting k ctls s)
    checkNsWaits (doAll one targets s)

/-- The controllers that a controller list names, by index; none where one is not there. -/
def listedControllers (s : State) (ids : List Nat) : Option (List Nat) :=
  if ids.all (fun i => decide (i ≥ 1) && functionThere s (i - 1)) then some (ids.map (· - 1)) else none

/-- Namespace Attachment attach. -/
def nsAttach (c : Cmd) (ids : List Nat) (s : State) : State :=
  match nsOf s c.nsid, listedControllers s ids with
  | none, _ => finish c.ref stInvalidNs s
  | some _, none => finish c.ref (stSpecific 0x1C) s
  | some n, some ctls =>
    if n.deleting.isSome then finish c.ref stInvalidNs s
    else if formatPending s c.nsid then finish c.ref stNotReady s
    else if ctls.any (fun i => (ctlOf s i).attached.contains c.nsid) then finish c.ref (stSpecific 0x18) s
    else
      let s := doAll (fun i s => setCtl i (fun x => { x with attached := sortBy id (c.nsid :: x.attached) }) s) ctls s
      finish c.ref (success 0 0) (nsNotice c.nsid ctls s)

/-- Namespace Attachment detach (R143). -/
def nsDetach (c : Cmd) (ids : List Nat) (s : State) : State :=
  match nsOf s c.nsid, listedControllers s ids with
  | none, _ => finish c.ref stInvalidNs s
  | some _, none => finish c.ref (stSpecific 0x1C) s
  | some _, some ctls =>
    if formatPending s c.nsid then finish c.ref stNotReady s
    else if ctls.any (fun i => !(ctlOf s i).attached.contains c.nsid) then finish c.ref (stSpecific 0x1A) s
    else
      let s := doAll (fun i s => setCtl i (fun x => { x with attached := x.attached.filter (· != c.nsid) }) s) ctls s
      let s := setAdm (fun a => { a with nsWaits := a.nsWaits ++ [{ ref := c.ref, nsid := c.nsid, ctls := ctls, delete := false }] }) s
      checkNsWaits (nsNotice c.nsid ctls (endWaiting c.nsid ctls s))

/-! ## Get Log Page (R145 to R153, R315) -/

/-- What a read with RAE = 0 clears: extents of log 0xC3 returned in full (R152), the list of log 0x04. -/
def logCleared (c lid ofst len : Nat) (s : State) : State :=
  if lid = 0xC3 then
    let gone (i : Nat) : Bool := decide (ofst ≤ 32 + 24 * i) && decide (32 + 24 * i + 24 ≤ ofst + len) && decide (i < 65536)
    setAdm (fun a => { a with lost := ((upTo a.lost.length).zip a.lost |>.filter fun e => !gone e.1).map Prod.snd, lostEvent := false }) s
  else if lid = 0x04 then setCtl c (fun x => { x with changedNs := [] }) s
  else s

/-- A snapshot of the monitors for a controller: every monitor is latched (R311, R315). -/
def takeSnapshot (c : Nat) (s : State) : State :=
  let page := monitorPage s
  setCtl c (fun x => { x with monSnap := some page }) (doAll monLatch (upTo 128) s)

/-- The log pages that NVMe permits during a sanitize (PRESUMED, log 27): errors, health, changed namespaces, sanitize status, and the
vendor pages, none of which holds user data. -/
def logPermitted (lid : Nat) : Bool := [0x01, 0x02, 0x04, 0x81].contains lid || decide (lid ≥ 0xC0)

/-- Get Log Page (R145, R146, R171). -/
def getLogPage (c : Cmd) (lid numd lpo : Nat) (rae : Bool) (s : State) : State :=
  let ctl := c.ref.ctl
  if sanitizing s && !logPermitted lid then finish c.ref stSanitizing s else
  let s := if lid = 0xC5 ∧ (lpo = 0 ∨ (ctlOf s ctl).monSnap.isNone) then takeSnapshot ctl s else s
  let base := drawBytes s 1024
  let free := draw base.2
  let page := if lid = 0xC5 then (ctlOf s ctl).monSnap else logPage s ctl lid base.1 (free.1 % 2 ^ 32)
  let s := free.2
  match page with
  | none => finish c.ref (stSpecific 0x09) s
  | some page =>
    if lid = 0x02 ∧ c.nsid ≠ 0 ∧ c.nsid ≠ 0xFFFFFFFF then finish c.ref stInvalidField s
    else if lpo % 4 ≠ 0 ∨ lpo ≥ page.length then finish c.ref stInvalidField s
    else
      let len := 4 * (numd + 1)
      let s := sendData c.ref (sliceBytes page lpo len) s
      finish c.ref (success 0 0) (if rae then s else logCleared ctl lid lpo len s)

/-- Identify (R138). -/
def identify (c : Cmd) (cns cntid csi : Nat) (s : State) : State :=
  let base := drawBytes s 4096
  let answer := identifyData s c.ref.ctl c.nsid cns cntid csi base.1
  let s := base.2
  match answer with
  | .inl st => finish c.ref st s
  | .inr data => finish c.ref (success 0 0) (sendData c.ref data s)

/-! ## Features (R154 to R159) -/

/-- A feature is device-wide, and saveable. -/
def deviceFeature (fid : Nat) : Bool := fid == 0x04 || decide (fid ≥ 0xC0)
def saveableFeature (fid : Nat) : Bool := [0x02, 0x04, 0x0B, 0x0C, 0xC0, 0xC1, 0xC2, 0xC3].contains fid

/-- The sub-index of a feature's value that CDW11 selects: threshold, vector or class. -/
def featSub (fid dw11 : Nat) : Nat :=
  if fid = 0x04 then dw11 / 2 ^ 20 % 4 + 4 * (dw11 / 65536 % 16) else if fid = 0x09 then dw11 % 65536 else if fid = 0xC1 then dw11 % 4 else 0

/-- The default of a feature value (R105, R154, R155). -/
def featDefault (s : State) (fid sub : Nat) : Nat :=
  match fid with
  | 0x01 => 0x0F030003
  | 0x04 => if sub % 4 = 0 then wcTemp s else 0
  | 0xC0 => 30
  | 0xC1 => [100, 500, 2000, 0].getD sub 0
  | 0xC2 => if (variant s).gradeI then 110 else 100
  | 0xC3 => 1
  | _ => 0

/-- The value that CDW11 sets, or none where it is refused with Invalid Field (R155, R156). -/
def featValue (s : State) (c fid dw11 : Nat) : Option Nat :=
  match fid with
  | 0x02 => if dw11 % 32 > 4 then none else some (dw11 % 256)
  | 0x04 => if dw11 / 2 ^ 20 % 4 > 1 then none else some (dw11 % 65536)
  | 0x05 => if dw11 / 65536 % 2 = 1 then none else some (dw11 % 65536)
  | 0x08 => some (dw11 % 65536)
  | 0x09 => if dw11 % 65536 > (ctlOf s c).vectors then none else some (dw11 % 2 ^ 17)
  | 0x0C => some (dw11 % 2)
  | 0xC0 => if dw11 % 256 < 5 ∨ dw11 % 256 > 200 then none else some (dw11 % 256)
  | 0xC1 => let g := dw11 / 256 % 2 ^ 24
    if g ≠ 0 ∧ (g < 20 ∨ g > 1000000) then none else some g
  | 0xC2 => if dw11 % 256 < 70 ∨ dw11 % 256 > (if (variant s).gradeI then 115 else 105) then none else some (dw11 % 256)
  | 0xC3 => some (dw11 % 2)
  | _ => some dw11

/-- Stores a value, listing it always; a value once set stays current until its reset (R159). -/
def storeFeature (c fid sub v : Nat) (save : Bool) (data : List Nat) (s : State) : State :=
  let key := fid * 65536 + sub
  if deviceFeature fid then
    setAdm (fun a => { a with feats := Tab.set a.feats key v, featsSaved := if save then Tab.set a.featsSaved key v else a.featsSaved }) s
  else
    let s := setCtl c (fun x => { x with
      feats := Tab.set x.feats key v, apst := if fid = 0x0C then data.take 32 else x.apst, apstState := if fid = 0x02 ∨ fid = 0x0C then none else x.apstState,
      lastOp := if fid = 0x02 ∧ v % 32 < 3 then v % 32 else x.lastOp }) s
    onlyIf save (setAdm fun a => { a with
      ctlSaved := Tab.set a.ctlSaved (c * 2 ^ 32 + key) v, apstSaved := if fid = 0x0C then Tab.set a.apstSaved c (data.take 32) else a.apstSaved }) s

/-- Number of Queues as reported (R99): NSQA and NCQA, 0's-based. -/
def queueCounts (s : State) (c : Nat) : Nat := let n := (ctlOf s c).vq - 1
  n + 65536 * n

/-- Set Features (R154 to R159). -/
def setFeatures (c : Cmd) (fid : Nat) (save : Bool) (dw11 : Nat) (data : List Nat) (s : State) : State :=
  let ctl := c.ref.ctl
  if !featureIds.contains fid then finish c.ref stInvalidField s
  else if fid = 0xC4 ∨ (deviceFeature fid ∧ !isPf s ctl) then finish c.ref (stSpecific 0x0E) s
  else if save && !saveableFeature fid then finish c.ref (stSpecific 0x0D) s
  else
    match featValue s ctl fid dw11 with
    | none => finish c.ref stInvalidField s
    | some v =>
      if fid = 0x07 then finish c.ref (success (queueCounts s ctl) 0) s
      else if fid = 0x05 then
        if c.nsid = 0xFFFFFFFF then
          finish c.ref (success 0 0) (setAdm (fun a => { a with namespaces := Tab.mapVals a.namespaces fun _ n => { n with tler := v } }) s)
        else if !Tab.has s.adm.namespaces c.nsid then finish c.ref stInvalidNs s
        else finish c.ref (success 0 0) (setAdm (fun a => { a with namespaces := Tab.adjust a.namespaces c.nsid fun n => { n with tler := v } }) s)
      else if fid = 0xC3 ∧ v = 1 ∧ !retentionAvailable s then finish c.ref (stSpecific 0xC0) (storeFeature ctl fid 0 0 false [] s)
      else finish c.ref (success 0 0) (storeFeature ctl fid (featSub fid dw11) v save data s)

/-- Whether a saved value of a feature exists, and which. -/
def savedFeature (s : State) (c fid sub : Nat) : Option Nat :=
  if deviceFeature fid then Tab.get? s.adm.featsSaved (fid * 65536 + sub) else Tab.get? s.adm.ctlSaved (c * 2 ^ 32 + fid * 65536 + sub)

/-- The value a Get Features answers for a current, default or saved value. -/
def featAnswer (s : State) (c fid sub v : Nat) : Nat :=
  match fid with
  | 0x07 => queueCounts s c
  | 0x09 => sub + v / 65536 % 2 * 65536
  | 0xC1 => sub + v * 256
  | 0xC3 => v + 2 * flag (retentionAvailable s)
  | _ => v

/-- Get Features (R154 to R159). -/
def getFeatures (c : Cmd) (fid sel dw11 : Nat) (s : State) : State :=
  let ctl := c.ref.ctl
  let sub := featSub fid dw11
  if !featureIds.contains fid ∨ sel > 3 then finish c.ref stInvalidField s
  else if fid = 0x05 ∧ !Tab.has s.adm.namespaces c.nsid then finish c.ref stInvalidNs s
  else if sel = 3 then
    finish c.ref (success (flag (saveableFeature fid) + 2 * flag (decide (fid = 0x05)) + 4 * flag (decide (fid ≠ 0xC4))) 0) s
  else if fid = 0xC4 then
    finish c.ref (success 0 0) (sendData c.ref (leBytes 4 s.boot.capacitance ++ leBytes 4 s.boot.voltage ++ leBytes 4 s.cur.holdup.cMeas) s)
  else
    let dflt := featDefault s fid sub
    let cur := if fid = 0x05 then ((nsOf s c.nsid).map (·.tler)).getD 0 else if deviceFeature fid then devFeat s fid sub dflt else ctlFeat s ctl fid sub dflt
    let v := if sel = 0 then cur else if sel = 1 then dflt else (savedFeature s ctl fid sub).getD dflt
    let table := if sel = 0 then (ctlOf s ctl).apst else if sel = 1 then [] else Tab.getD s.adm.apstSaved ctl []
    let s := if fid = 0x0C then sendData c.ref ((upTo 32).flatMap fun i => leBytes 8 (table.getD i 0)) s else s
    finish c.ref (success (featAnswer s ctl fid sub v) 0) s

/-- Asynchronous Event Request (R135): at most 8 outstanding; an event that waits answers it. -/
def asyncRequest (c : Cmd) (s : State) : State :=
  let x := ctlOf s c.ref.ctl
  if x.aers.length ≥ 8 then finish c.ref (stSpecific 0x05) s
  else
    match x.events with
    | e :: es => finish c.ref (success (e.type + e.info * 256 + e.lid * 65536) 0) (setCtl c.ref.ctl (fun x => { x with events := es }) s)
    | [] => if x.aers.contains c.ref.cid then s else setCtl c.ref.ctl (fun x => { x with aers := x.aers ++ [c.ref.cid] }) s

/-! ## Firmware (R160 to R169) -/

/-- A piece of an image arrives (R161). The last piece may be shorter than a multiple of 4 KiB. -/
def firmwareDownload (c : Cmd) (numd ofst : Nat) (data : List Byte) (s : State) : State :=
  let len := 4 * (numd + 1)
  let at' := 4 * ofst
  if at' % 4096 ≠ 0 ∨ at' + len > 4194304 then finish c.ref stInvalidField s
  else if s.adm.download.any (fun p => decide (at' < p.ofst + p.bytes.length) && decide (p.ofst < at' + len)) then finish c.ref (stSpecific 0x14) s
  else finish c.ref (success 0 0) (setAdm (fun a => { a with download := sortBy Piece.ofst ({ ofst := at', bytes := padTo len data } :: a.download) }) s)

/-- The image in the buffer: header length, digest, signature; none where the buffer has gaps (R160, R162). -/
def bufferImage (s : State) : Option FwImage :=
  let gapless := (s.adm.download.foldl (fun (e : Option Nat) p => if e = some p.ofst then some (p.ofst + p.bytes.length) else none) (some 0)).isSome
  let bs := s.adm.download.flatMap (·.bytes)
  let n := leAt bs 4 4
  let sig := sliceBytes bs (n + 32) 208
  if gapless && decide (n ≤ 4194304) && decide (n + 32 + 208 ≤ bs.length) then
    some { bytes := sliceBytes bs 0 n, digest := sliceBytes bs n 32, signature := sig, pkIndex := leAt sig 5 1 }
  else none

/-- The slot a commit acts on: 0 selects the one that does not hold the running image (R162). -/
def commitSlot (s : State) (slot : Nat) : Nat := if slot = 0 then 3 - s.adm.runningSlot else slot

/-- Firmware Commit of commit action 0, 1 or 3: the slot is written and read back before the boot-select record changes (R162, R163).
Where several refusals hold, the model tests sanitize, slot, image and rollback in this order: the manual gives none (DESIGN CHOICE,
log 144). -/
def commitImage (c : Cmd) (action slot : Nat) (done : FwImage → State → State) (s : State) : State :=
  let img := bufferImage s
  let s := setAdm (fun a => { a with download := [] }) s
  if sanitizing s then finish c.ref stSanitizing s
  else if slot > 2 then finish c.ref (stSpecific 0x06) s
  else
    match img with
    | none => finish c.ref (stSpecific 0x07) s
    | some x =>
      if !imageOk s x then finish c.ref (stSpecific 0x07) s
      else if leAt x.bytes 16 4 < s.fuses.rollback then finish c.ref (stSpecific 0x13) s
      else
        let n := commitSlot s slot
        let s := setAdm (fun a => { a with slots := Tab.set a.slots n x }) s
        done x (if action = 0 then s else setAdm (fun a => { a with bootSelect := n, commitAction := action }) s)

/-- Commit action 2: an image that a slot holds is to run after the next reset (R162). -/
def commitSelect (c : Cmd) (slot : Nat) (s : State) : State :=
  if sanitizing s then finish c.ref stSanitizing s
  else if slot > 2 then finish c.ref (stSpecific 0x06) s
  else
    match Tab.get? s.adm.slots (commitSlot s slot) with
    | none => finish c.ref (stSpecific 0x07) s
    | some x =>
      if !imageOk s x then finish c.ref (stSpecific 0x07) s
      else if leAt x.bytes 16 4 < s.fuses.rollback then finish c.ref (stSpecific 0x13) s
      else finish c.ref (success 0 0) (setAdm (fun a => { a with bootSelect := commitSlot s slot, commitAction := 2 }) s)

/-- Commit action 3 (R165, R166): the activation is staged where live_ok is set. A commit waits for one that runs (R137). -/
def commitLive (c : Cmd) (slot : Nat) (s : State) : State :=
  if s.adm.activation.isSome then s
  else
    let n := commitSlot s slot
    commitImage c 3 slot (fun x s =>
      if leAt x.bytes 20 4 % 2 = 0 then finish c.ref (stSpecific 0x10) s
      else setAdm (fun a => { a with activation := some { ref := c.ref, slot := n, image := x } }) s) s

/-- Firmware Commit by its commit action (R162); every action but 0 to 3 is refused. -/
def firmwareCommit (c : Cmd) (action slot : Nat) (s : State) : State :=
  if action = 0 ∨ action = 1 then
    if s.adm.activation.isSome then s else commitImage c action slot (fun _ => finish c.ref (success 0 0)) s
  else if action = 2 then (if s.adm.activation.isSome then s else commitSelect c slot s)
  else if action = 3 then commitLive c slot s
  else finish c.ref stInvalidField s

/-- The notice is sent and fetching stops (R166). -/
def activationStart (s : State) : State :=
  match s.adm.activation with
  | none => s
  | some a =>
    if a.stopped.isSome then s
    else
      let s := asyncNoticeAll 9 { type := 2, info := 1, lid := 3 } s
      setAcc (fun x => { x with stopActivation := true }) (setAdm (fun x => { x with activation := some { a with stopped := some s.tsc } }) s)

/-- A command that is over but never started stands behind one that has not started, in whose place it cannot post (R107, R108). -/
def behindHeld (s : State) (c : Cmd) : Bool := !c.silent && !((sqCmds s c.ref.ctl c.ref.sq).takeWhile Cmd.underWay).contains c

/-- A command that the keeper has not begun because the commit comes first (R137). -/
def behindCommit (s : State) (r : CmdRef) (c : Cmd) : Bool :=
  c.ref.sq == 0 && c.cpl.isNone && (sharedOpcodes.contains c.opcode || c.opcode == 0x09) && !keeperTurn s c.ref
    && ((s.acc.cmds.takeWhile fun k => !(k.ref == c.ref && !k.dup)).any fun k => k.ref == r)

/-- A started command other than the commit is still incomplete (R123, R167); requests for events do not count (log 33). -/
def drainLeft (s : State) (r : CmdRef) : Bool :=
  s.acc.cmds.any fun c => c.ref != r && c.started && !(c.ref.sq == 0 && c.opcode == 0x0C) && !behindHeld s c && !behindCommit s r c

/-- An activation ends: its log entry, and fetching goes on (R153). -/
def activationEnd (a : Activation) (result : Nat) (cpl : Completion) (s : State) : State :=
  let e : FwEvent := { tsc := s.tsc, prev := s.adm.runningRev, next := a.image.rev, slot := a.slot, action := 3, result := result, ctl := a.ref.ctl,
                       pauseUs := (s.tsc - a.stopped.getD s.tsc) / 1000 }
  finish a.ref cpl (setAcc (fun x => { x with stopActivation := false }) (setAdm (fun x => { x with activation := none }) (logFw e s)))

/-- 300 ms have passed and the drain is not over: the activation is abandoned (R167). -/
def activationTimeout (s : State) : State :=
  match s.adm.activation with
  | none => s
  | some a =>
    match a.stopped with
    | none => s
    | some t => if drainLeft s a.ref then activationEnd a 1 (stSpecific 0x12) (advanceTo (t + 300000000) s) else s

/-- The keeper cores restart on the new image (R166, R169). -/
def activationComplete (s : State) : State :=
  match s.adm.activation with
  | none => s
  | some a =>
    if a.stopped.isNone || drainLeft s a.ref then s
    else
      let s := keeperRestart (activationEnd a 0 (success 0 0) s)
      setAdm (fun x => { x with runningSlot := a.slot, runningRev := a.image.rev, commitAction := 0 }) s

/-! ## Virtualization Management (R97, R98) -/

/-- VQ or VI resources that every other controller holds. -/
def heldByOthers (s : State) (c : Nat) (f : Controller → Nat) : Nat :=
  (s.acc.ctls.filter fun e => e.1 != c).foldl (fun (n : Nat) (e : Nat × Controller) => n + f e.2) 0

/-- Gives a controller an allocation: resource type 0 VQ, 1 VI. -/
def allocate (r : CmdRef) (c rt nr : Nat) (s : State) : State :=
  if rt > 1 then finish r (stSpecific 0x22) s
  else if (rt = 0 ∧ heldByOthers s c (·.vq) + nr > 16384) ∨ (rt = 1 ∧ (heldByOthers s c (·.vi) + nr > 16384 ∨ nr > 2047)) then finish r (stSpecific 0x21) s
  else finish r (success nr 0) (setCtl c (fun x => if rt = 0 then { x with vq := nr } else { x with vi := nr }) s)

/-- Virtualization Management: 1 primary allocation, 7 secondary offline, 8 secondary assign, 9 secondary online. -/
def virtManage (c : Cmd) (act rt cntlid nr : Nat) (s : State) : State :=
  let pf := c.ref.ctl
  let sec := cntlid - 1
  let mine := decide (cntlid ≥ 1) && decide (sec ≠ pf) && (ctlsOf s (pf / 64) (ctlSub s pf)).contains sec
  if act = 1 then allocate c.ref pf rt nr s
  else if act ≠ 7 ∧ act ≠ 8 ∧ act ≠ 9 then finish c.ref stInvalidField s
  else if !mine then finish c.ref (stSpecific 0x1F) s
  else if act = 7 then
    finish c.ref (success 0 0) (setCtl sec (fun x => { x with online := false, cc := 0, vq := 0, vi := 0 }) (dropCommands sec s))
  else if act = 9 then finish c.ref (success 0 0) (setCtl sec (fun x => { x with online := true }) s)
  else if (ctlOf s sec).online then finish c.ref (stSpecific 0x20) s
  else allocate c.ref sec rt nr s

/-! ## Format (R173, R174) -/

/-- The namespaces a format acts on. -/
def formatTargets (s : State) (nsid : Nat) : List Nat :=
  if nsid = 0xFFFFFFFF then (s.adm.namespaces.filter fun e => e.2.csi = 0).map Prod.fst
  else if (nsOf s nsid).any (fun n => n.csi = 0 && n.deleting.isNone) then [nsid] else []

/-- A page holds data of a namespace. -/
def pageHolds (m : MediaPage) (nsid : Nat) : Bool := m.oob.any fun o => oobNsid o == nsid

/-- The stripe sets that hold data of a namespace. -/
def setsHolding (s : State) (nsid : Nat) : List Nat :=
  ((s.flash.media.filter fun e => pageHolds e.2 nsid).filterMap fun e => setOfBlock s (blockOf (e.1 * 2 ^ 7))).eraseDups

/-- An open set closes before it is full, once no page is on its way to it; the row begun gets its parity. -/
def closeEarly (n : Nat) (s : State) : State :=
  match stripe s n with
  | none => s
  | some x =>
    let onTheWay (q : PackPage) : Bool := !q.done && (match q.sent with
      | some psa => (pagePlace s psa).any fun t => t.1 == n
      | none => false)
    if x.state != .open || x.closing || s.cur.packing.any (fun e => onTheWay e.2) then s
    else closeSet n (if x.written.isEmpty || noParityBlock x x.row then s else sendParity n x.row x.written s)

/-- The sets that hold a namespace's data are collected (R173). -/
def collectSets (nsid : Nat) (s : State) : State :=
  doAll (fun n s =>
    let s := closeEarly n s
    if (stripe s n).any (fun x => x.state == .open || x.victim) then s
    else doAll (startReloc 1) (setGmus s n) (setStripe n (fun x => { x with victim := true }) s)) (setsHolding s nsid) s

/-- A channel operation in flight uses a media key slot (R534). -/
def keyInFlight (s : State) (slot : Nat) : Bool := s.flash.chans.any fun c => c.2.queue.any fun o => o.desc.xts && o.desc.keySlot == slot

/-- A namespace's format begins (R173): with SES 2 its new media key first, once the old one is out of use; then its MUs become
deallocated and its LBA format changes at the same size in bytes, and with SES 1 the sets that hold its data are collected. -/
def formatBegin (nsid lbaf ses : Nat) (s : State) : State :=
  match nsOf s nsid with
  | none => s
  | some n =>
    if ses = 2 ∧ (!s.sec.armed ∨ keyInFlight s n.keySlot) then s
    else
      let s := deallocateAll nsid (onlyIf (ses == 2) (newMediaKey n.keySlot) s)
      let s := setAdm (fun a => { a with namespaces := Tab.adjust a.namespaces nsid fun n =>
        let m := { n with lbaf := lbaf }
        { m with nsze := nsBytes n / blockSize m, formatBegun := true } }) s
      if ses ≠ 1 then s else collectSets nsid s

/-- Format NVM (R173, R174): each namespace it is to act on is recorded first; they are formatted one after another. -/
def formatNvm (c : Cmd) (lbaf ses : Nat) (s : State) : State :=
  let targets := formatTargets s c.nsid
  if s.adm.format.isSome then s
  else if lbaf > 1 then finish c.ref (stSpecific 0x0A) s
  else if ses > 2 ∨ (ses = 2 ∧ !(variant s).crypto) then finish c.ref stInvalidField s
  else if ses = 2 ∧ !s.sec.armed then finish c.ref (stSpecific 0xC7) s
  else if targets = [] ∧ c.nsid ≠ 0xFFFFFFFF then finish c.ref stInvalidNs s
  else if targets.any (formatPending s) then finish c.ref stNotReady s
  else
    let s := doAll (fun k s => setAdm (fun a => { a with
      namespaces := Tab.adjust a.namespaces k fun n => { n with formatting := some (lbaf, ses), formatBegun := false } }) s) targets s
    let s := setAdm (fun a => { a with format := some (c.ref, targets) }) s
    settle (doAll (fun k s => formatBegin k lbaf ses s) (targets.take 1) s)

/-- Every MU of a namespace is deallocated, or was never written. -/
def allDeallocated (s : State) (n : Namespace) : Bool :=
  !((listedGmus s).any fun g => n.segs.contains (g / 8192) && entryState (mapEntry s g) != 2)

/-- A namespace's format may end: its MUs are deallocated, and its data is erased where SES asks for it. -/
def formatReady (s : State) (nsid : Nat) (n : Namespace) (ses : Nat) : Bool :=
  n.formatBegun && allDeallocated s n
    && (ses != 1 || (!(s.flash.media.any fun e => pageHolds e.2 nsid) && !(s.cur.wb.any fun e => e.2.nsid == nsid)))

/-- The first namespace whose format is recorded and has not ended, with its LBA format and SES. -/
def nextFormat (s : State) : Option (Nat × Namespace × Nat × Nat) :=
  (s.adm.namespaces.filterMap fun e => e.2.formatting.map fun f => (e.1, e.2, f.1, f.2)).head?

/-- The format under way goes on (R173, R174): it begins, deallocates again what a recovery brought back, collects, or ends. -/
def formatStep (s : State) : State :=
  match nextFormat s with
  | none => s
  | some (k, n, lbaf, ses) =>
    if !n.formatBegun then formatBegin k lbaf ses s
    else if formatReady s k n ses then
      setAdm (fun a => { a with namespaces := Tab.adjust a.namespaces k fun n => { n with formatting := none, formatBegun := false } }) s
    else
      let s := if allDeallocated s n then s else deallocateAll k s
      onlyIf (ses == 1) (collectSets k) s

/-- Takes the recorded formats as far as they go, one after another (R173, R174). One that a power loss or reset interrupted goes on with
its recorded LBA format and SES. -/
def formatComplete (s : State) : State :=
  if !s.cur.mediaReady then s
  else
    let s := doAll (fun _ s => formatStep s) (upTo (2 * s.adm.namespaces.length)) s
    match s.adm.format, nextFormat s with
    | some (r, _), none => settle (finish r (success 0 0) (setAdm (fun a => { a with format := none }) s))
    | _, _ => settle s

/-! ## Sanitize (R170 to R172) -/

/-- I/O commands that run or wait fail with Sanitize In Progress (R171). -/
def endForSanitize (s : State) : State :=
  let out := s.cur.reads.map (·.ref) ++ s.cur.writes.map (·.ref)
  doAll (fun r s => finish r stSanitizing s) out { s with cur := { s.cur with reads := [], writes := [] } }

/-- A sanitize starts. A program or an I/O command that runs fails with Sanitize In Progress (R171). -/
def sanitizeStart (c : Cmd) (st : SanState) (s : State) : State :=
  if sanitizing s then finish c.ref stSanitizing s
  else if st == .cryptoErase && !(variant s).crypto then finish c.ref stInvalidField s
  else if st == .cryptoErase && !s.sec.armed then finish c.ref (stSpecific 0xC7) s
  else
    let s := endForSanitize (doAll (fun e s => cancelExecution e .sanitize s) (s.rgs.execs.map Prod.fst) s)
    finish c.ref (success 0 0) (setAdm (fun a => { a with sanitize := st }) s)

/-- SANACT 1 leaves sanitize failure mode (R172). -/
def sanitizeExit (c : Cmd) (s : State) : State :=
  if sanitizing s then finish c.ref stSanitizing s
  else finish c.ref (success 0 0) (if sanitizeFailed s then setAdm (fun a => { a with sanitize := .idle }) s else s)

/-- Sanitize by its action (R170): 1 leaves failure mode, 2 erases blocks, 4 replaces the keys; overwrite (3) and every other are refused. -/
def sanitizeAction (c : Cmd) (act : Nat) (s : State) : State :=
  if act = 1 then sanitizeExit c s
  else if act = 2 then sanitizeStart c .blockErase s
  else if act = 4 then sanitizeStart c .cryptoErase s
  else finish c.ref stInvalidField s

/-- Block erase: every user, Ledger, dump and journal block is erased (R170); the MUs that were written become deallocated (R226), and the journal begins
again with a directory copy. -/
def eraseEverything (s : State) : State :=
  let blank (b : Block) : Block :=
    let free : Block := { b with use := .free, erases := b.erases + 1, slc := false, stream := none, pinned := false, badUses := 0, badNow := false, rewriteUses := 0, rewriteNow := false }
    match b.use with
    | .inSet _ | .ledger _ | .journal => free
    | .dump _ => { b with erases := b.erases + 1 }
    | .free | .reserve | .emergency | .retired | .fencedOut => b
  let s := doAll (fun g s => setEntryRaw g deallocated s) (listedGmus s) s
  let s := setFlash (fun f => { f with media := [], aborted := [], chans := Tab.mapVals f.chans fun _ c => { c with queue := [], done := [] } }) s
  let s := setCur (fun c => { c with
    wb := [], packing := [], sets := [], seqs := [], gens := [], lostMus := [], badMus := [], reads := [], writes := [], tail := [], journal := [], changed := [],
    nextJ := noPsa, nextJMirror := noPsa, dirs := [], rebuilds := [], compressedSlots := [],
    dumpSets := { c.dumpSets with a := { c.dumpSets.a with dirty := [] }, b := { c.dumpSets.b with dirty := [] }, armed := some 0, live := [], consuming := [],
                                  erasing := none },
    blocks := Tab.mapVals c.blocks fun _ b => blank b, pools := Tab.mapVals c.pools fun _ p => { p with ledgerUsed := 0, collecting := false, short := [] } }) s
  rootNow (journalAdvance s)

/-- Crypto erase: every media key is replaced, then every entry is deallocated (R170). -/
def eraseKeys (s : State) : State :=
  let ns := (s.adm.namespaces.filter fun e => e.2.csi = 0).map fun e => (e.1, e.2.keySlot)
  let s := doAll (fun (e : Nat × Nat) s => newMediaKey e.2 s) ns s
  settle (doAll (fun (e : Nat × Nat) s => deallocateAll e.1 s) ns s)

/-- A sanitize ends. One that ran as a crypto erase waits until the device is armed and its old keys are out of use (R534). -/
def sanitizeComplete (ok : Bool) (s : State) : State :=
  let done := setAdm fun a => { a with sanitize := .done }
  match s.adm.sanitize with
  | .idle => s
  | .done => s
  | .failed => s
  | .blockErase => if ok then done (eraseEverything s) else setAdm (fun a => { a with sanitize := .failed }) s
  | .cryptoErase =>
    if !ok then setAdm (fun a => { a with sanitize := .failed }) s
    else if !s.sec.armed || s.adm.namespaces.any (fun e => e.2.csi = 0 && keyInFlight s e.2.keySlot) then s
    else done (eraseKeys s)

/-! ## Self-test (R175) -/

/-- A self-test starts. -/
def selfTestStart (c : Cmd) (code : Nat) (s : State) : State :=
  if s.adm.selfTest.isSome then finish c.ref (stSpecific 0x1D) s
  else finish c.ref (success 0 0) (setAdm (fun a => { a with selfTest := some code }) s)

/-- What the tests look at in the device itself (R175): every present page reports ready, and each DRAM channel serves and passes a read
scrub of its first GiB. -/
def selfTestLooks (s : State) : Bool :=
  ((upTo 264).filter (pagePresent s)).all (fun p => (hdr s p).ready)
    && (upTo (variant s).dram).all fun n => let c := drc s n
      (c.state == 2 || c.state == 3) && !(c.poisoned.any fun b => decide (b < 2 ^ 24))

/-- The pages whose verify the extended test failed: written ones (R175). -/
def selfTestBad (s : State) (found : SelfTestFound) : Bool := found.pages.any fun p => (mediaAt s p).isSome

/-- The result of a test: 0 for a pass, 7 for a failed segment (NVMe's codes: PRESUMED, log 27). -/
def selfTestResult (s : State) (code : Nat) (found : SelfTestFound) : Nat :=
  if found.dies && found.engines && selfTestLooks s && !(code == 2 && selfTestBad s found) then 0 else 7

/-- A self-test ends with a result. -/
def selfTestEnd (result : Nat) (s : State) : State :=
  match s.adm.selfTest with
  | none => s
  | some k => setAdm (fun a => { a with
      selfTest := none, selfTests := ({ code := k, result := result % 16, tsc := s.tsc } :: a.selfTests).take 20 }) s

/-- The test that runs ends with what it found (R175). -/
def selfTestFinish (found : SelfTestFound) (s : State) : State :=
  match s.adm.selfTest with
  | none => s
  | some k => selfTestEnd (selfTestResult s k found) s

/-- STC 0xF aborts the test that runs. -/
def selfTestAbort (c : Cmd) (s : State) : State := finish c.ref (success 0 0) (selfTestEnd 1 s)

/-! ## Sideband (R177, R178) -/

/-- The keeper refreshes the values of the status block. -/
def sidebandRefresh (s : State) : State :=
  if !s.link.firmwareRuns then s
  else setAdm (fun a => { a with sideband := some (criticalWarning s, composite s / 10, percentUsed s) }) s

end Sys2Proof.Machine
end

