-- ==== Sys2Proof/Machine/Admin.lean ====
section
/-! DEFINITION. The meanings of the admin commands, and of what happens around them (chapter 04). -/

namespace Sys2Proof.Machine

/-- COMMAND_COMPLETE (R108, R143). -/
def execCommandComplete (ref : CmdRef) (s : State) : Host.Outcome State Fault Refusal := .next (commandComplete ref s)

/-- GET_LOG_PAGE (R145, R146). -/
def execGetLogPage (ref : CmdRef) (lid numd lpo : Nat) (rae : Bool) (s : State) : Host.Outcome State Fault Refusal :=
  .next (onCmd ref true [0x02] (fun c => getLogPage c lid numd lpo rae) s)

/-- IDENTIFY (R138). -/
def execIdentify (ref : CmdRef) (cns cntid csi : Nat) (s : State) : Host.Outcome State Fault Refusal :=
  .next (onCmd ref true [0x06] (fun c => identify c cns cntid csi) s)

/-- SET_FEATURES (R137, R154 to R159): of a device-wide feature in its turn. No feature of R154 reads Dword 12. -/
def execSetFeatures (ref : CmdRef) (fid : Nat) (save : Bool) (dw11 _dw12 : Nat) (data : List Nat) (s : State) : Host.Outcome State Fault Refusal :=
  if deviceFeature fid && !keeperTurn s ref then .next s else .next (onCmd ref true [0x09] (fun c => setFeatures c fid save dw11 data) s)

/-- GET_FEATURES (R154 to R159). -/
def execGetFeatures (ref : CmdRef) (fid sel dw11 : Nat) (s : State) : Host.Outcome State Fault Refusal :=
  .next (onCmd ref true [0x0A] (fun c => getFeatures c fid sel dw11) s)

/-- ASYNC_EVENT_REQUEST (R135). -/
def execAsyncEventRequest (ref : CmdRef) (s : State) : Host.Outcome State Fault Refusal :=
  .next (onCmd ref true [0x0C] asyncRequest s)

/-- NS_MGMT_CREATE (R141, R142, R418). -/
def execNsMgmtCreate (ref : CmdRef) (attrs : NsAttrs) (s : State) : Host.Outcome State Fault Refusal :=
  .next (onCmd ref true [0x0D] (fun c => unlessSanitizing c (nsCreate c attrs)) s)

/-- NS_MGMT_DELETE (R143, R144). -/
def execNsMgmtDelete (ref : CmdRef) (s : State) : Host.Outcome State Fault Refusal :=
  .next (onCmd ref true [0x0D] (fun c => unlessSanitizing c (nsDelete c)) s)

/-- NS_ATTACH (R143). -/
def execNsAttach (ref : CmdRef) (ctls : List Nat) (s : State) : Host.Outcome State Fault Refusal :=
  .next (onCmd ref true [0x15] (fun c => unlessSanitizing c (nsAttach c ctls)) s)

/-- NS_DETACH (R143). -/
def execNsDetach (ref : CmdRef) (ctls : List Nat) (s : State) : Host.Outcome State Fault Refusal :=
  .next (onCmd ref true [0x15] (fun c => unlessSanitizing c (nsDetach c ctls)) s)

/-- FIRMWARE_IMAGE_DOWNLOAD (R161). -/
def execFirmwareImageDownload (ref : CmdRef) (numd ofst : Nat) (data : List Byte) (s : State) : Host.Outcome State Fault Refusal :=
  .next (onCmd ref true [0x11] (fun c => unlessSanitizing c (firmwareDownload c numd ofst data)) s)

/-- FIRMWARE_COMMIT_REPLACE: commit action 0, or one that no other row has (R162). -/
def execFirmwareCommitReplace (ref : CmdRef) (action slot : Nat) (s : State) : Host.Outcome State Fault Refusal :=
  .next (onCmd ref true [0x10] (fun c => firmwareCommit c action slot) s)

/-- FIRMWARE_COMMIT_AT_RESET: commit action 1 (R162, R164). -/
def execFirmwareCommitAtReset (ref : CmdRef) (slot : Nat) (s : State) : Host.Outcome State Fault Refusal :=
  .next (onCmd ref true [0x10] (fun c => firmwareCommit c 1 slot) s)

/-- FIRMWARE_COMMIT_SLOT_SELECT: commit action 2 (R162). -/
def execFirmwareCommitSlotSelect (ref : CmdRef) (slot : Nat) (s : State) : Host.Outcome State Fault Refusal :=
  .next (onCmd ref true [0x10] (fun c => firmwareCommit c 2 slot) s)

/-- FIRMWARE_COMMIT_IMMEDIATE: commit action 3 (R165, R166). -/
def execFirmwareCommitImmediate (ref : CmdRef) (slot : Nat) (s : State) : Host.Outcome State Fault Refusal :=
  .next (onCmd ref true [0x10] (fun c => firmwareCommit c 3 slot) s)

/-- FW_ACTIVATION_START (R166). -/
def execFwActivationStart (s : State) : Host.Outcome State Fault Refusal := .next (activationStart s)

/-- FW_ACTIVATION_TIMEOUT (R167). -/
def execFwActivationTimeout (s : State) : Host.Outcome State Fault Refusal := .next (activationTimeout s)

/-- FW_ACTIVATION_COMPLETE (R166, R169). -/
def execFwActivationComplete (s : State) : Host.Outcome State Fault Refusal := .next (activationComplete s)

/-- SELF_TEST_SHORT: STC 1 (R175). -/
def execSelfTestShort (ref : CmdRef) (s : State) : Host.Outcome State Fault Refusal :=
  .next (onCmd ref true [0x14] (fun c => unlessSanitizing c (selfTestStart c 1)) s)

/-- SELF_TEST_EXTENDED: STC 2 (R175, R176). -/
def execSelfTestExtended (ref : CmdRef) (s : State) : Host.Outcome State Fault Refusal :=
  .next (onCmd ref true [0x14] (fun c => unlessSanitizing c (selfTestStart c 2)) s)

/-- SELF_TEST_ABORT: STC 0xF (R175). -/
def execSelfTestAbort (ref : CmdRef) (s : State) : Host.Outcome State Fault Refusal :=
  .next (onCmd ref true [0x14] (fun c => unlessSanitizing c (selfTestAbort c)) s)

/-- SELF_TEST_COMPLETE (R175). -/
def execSelfTestComplete (found : SelfTestFound) (s : State) : Host.Outcome State Fault Refusal := .next (selfTestFinish found s)

/-- VIRTUALIZATION_MANAGEMENT (R97, R98). -/
def execVirtualizationManagement (ref : CmdRef) (act rt cntlid nr : Nat) (s : State) : Host.Outcome State Fault Refusal :=
  .next (onCmd ref true [0x1C] (fun c => unlessSanitizing c (virtManage c act rt cntlid nr)) s)

/-- FORMAT_NVM (R173, R174). -/
def execFormatNvm (ref : CmdRef) (lbaf ses : Nat) (s : State) : Host.Outcome State Fault Refusal :=
  .next (onCmd ref true [0x80] (fun c => unlessSanitizing c (formatNvm c lbaf ses)) s)

/-- FORMAT_COMPLETE (R173, R174). -/
def execFormatComplete (s : State) : Host.Outcome State Fault Refusal := .next (formatComplete s)

/-- SANITIZE_BLOCK_ERASE: SANACT 2, or one that no other row has (R170, R171). -/
def execSanitizeBlockErase (ref : CmdRef) (act : Nat) (s : State) : Host.Outcome State Fault Refusal :=
  .next (onCmd ref true [0x84] (fun c => sanitizeAction c act) s)

/-- SANITIZE_CRYPTO_ERASE: SANACT 4 (R170, R171). -/
def execSanitizeCryptoErase (ref : CmdRef) (s : State) : Host.Outcome State Fault Refusal :=
  .next (onCmd ref true [0x84] (fun c => sanitizeAction c 4) s)

/-- SANITIZE_EXIT_FAILURE: SANACT 1 (R172). -/
def execSanitizeExitFailure (ref : CmdRef) (s : State) : Host.Outcome State Fault Refusal :=
  .next (onCmd ref true [0x84] (fun c => sanitizeAction c 1) s)

/-- SANITIZE_COMPLETE (R170, R172). -/
def execSanitizeComplete (ok : Bool) (s : State) : Host.Outcome State Fault Refusal := .next (sanitizeComplete ok s)

/-- SMBUS_MI_READ (R177): no answer while the power is off. A block read that completes sets the arbitration flag. -/
def execSmbusMiRead (code len : Nat) (s : State) : Host.Outcome State Fault Refusal :=
  .next (if s.pwr.on then setAdm (fun a => { a with smbusArb := true }) (emit (.smbus (sidebandRead s code len)) s) else emit .smbusNack s)

/-- SIDEBAND_REFRESH (R178). -/
def execSidebandRefresh (s : State) : Host.Outcome State Fault Refusal := .next (sidebandRefresh s)

end Sys2Proof.Machine
end

