-- ==== Sys2Proof/Machine/Flags.lean ====
section
/-! DEFINITION. Lanes, shapes, mask and flags of the accumulator: the arithmetic of the Docent instruction set (R360 to R364, R373 to R379). -/

namespace Sys2Proof.Machine

/-! ## Lanes and shapes (R360, R361) -/

/-- Lane width in bits of a lane size field. -/
def laneWidth (sz : BitVec 2) : Nat := 8 * 2 ^ sz.toNat

/-- Number of lanes of a width. -/
def laneCount (w : Nat) : Nat := 512 / w

/-- The lanes of a shape: V all, L the lower half, H the upper half, S lane 0. -/
def shapeLanes (sh n : Nat) : List Nat :=
  match sh with
  | 0 => upTo n
  | 1 => upTo (n / 2)
  | 2 => (upTo (n / 2)).map (· + n / 2)
  | _ => [0]

/-- Width in bytes of the memory operand of a shape. -/
def shapeBytes (sh w : Nat) : Nat := if sh = 0 then 64 else if sh = 3 then w / 8 else 32

/-- Where the memory operand of a shape meets A, in bits. -/
def shapeShift (sh : Nat) : Nat := if sh = 2 then 256 else 0

/-- Lane j of a 512-bit value. -/
def laneAt (v : BitVec 512) (w j : Nat) : Nat := (v.toNat >>> (j * w)) % 2 ^ w

/-- A 512-bit value with lane j set. -/
def setLane (v : BitVec 512) (w j x : Nat) : BitVec 512 :=
  (v &&& ~~~ BitVec.ofNat 512 ((2 ^ w - 1) <<< (j * w))) ||| BitVec.ofNat 512 ((x % 2 ^ w) <<< (j * w))

/-- Writes the lanes listed, and under a mask only those whose bit is 1 (R362, R363). -/
def writeLanes (a : BitVec 512) (mask : BitVec 64) (masked : Bool) (w : Nat) (lanes : List Nat) (f : Nat → Nat) : BitVec 512 :=
  lanes.foldl (fun acc j => if masked && !mask.getLsbD j then acc else setLane acc w j (f j)) a

/-! ## Lane arithmetic (R364, R373) -/

/-- The signed value of a lane. -/
def laneInt (w x : Nat) : Int := if 2 * x < 2 ^ w then (x : Int) else (x : Int) - 2 ^ w

/-- The value of a lane, signed or not. -/
def laneVal (w : Nat) (s : Bool) (x : Nat) : Int := if s then laneInt w x else (x : Int)

/-- An integer as a lane. -/
def toLane (w : Nat) (i : Int) : Nat := (i % (2 ^ w : Int)).toNat

/-- An integer outside the signed range of a lane. -/
def outOfRange (w : Nat) (i : Int) : Bool := decide (i < -(2 ^ (w - 1) : Int)) || decide ((2 ^ (w - 1) : Int) ≤ i)

/-- An integer cut to the range of a lane. -/
def saturate (w : Nat) (s : Bool) (i : Int) : Int :=
  if s then max (-(2 ^ (w - 1) : Int)) (min ((2 ^ (w - 1) : Int) - 1) i) else max 0 (min ((2 ^ w : Int) - 1) i)

/-- What an instruction makes of one lane: its value, the carry and the overflow. -/
structure LaneRes where
  val : Nat
  c : Bool
  v : Bool
deriving DecidableEq, Repr

/-- p + q. -/
def addLane (w : Nat) (s sat : Bool) (p q : Nat) : LaneRes :=
  { val := toLane w (if sat then saturate w s (laneVal w s p + laneVal w s q) else (p : Int) + q)
    c := decide (2 ^ w ≤ p + q), v := outOfRange w (laneInt w p + laneInt w q) }

/-- p − q: C is 1 when no borrow occurs. -/
def subLane (w : Nat) (s sat : Bool) (p q : Nat) : LaneRes :=
  { val := toLane w (if sat then saturate w s (laneVal w s p - laneVal w s q) else (p : Int) - q)
    c := decide (q ≤ p), v := outOfRange w (laneInt w p - laneInt w q) }

/-- |p|, signed; sat cuts to the signed range (DEDUCED, log 40). -/
def absLane (w : Nat) (sat : Bool) (p : Nat) : LaneRes :=
  let r : Int := (laneInt w p).natAbs
  { val := toLane w (if sat then saturate w true r else r), c := false, v := outOfRange w r }

/-- p shifted left by n (R374). -/
def shlLane (w n p : Nat) : LaneRes :=
  { val := if n < w then (p <<< n) % 2 ^ w else 0, c := decide (1 ≤ n) && decide (n ≤ w) && p.testBit (w - n), v := false }

/-- p shifted right by n, arithmetic when s (R374). -/
def shrLane (w : Nat) (s : Bool) (n p : Nat) : LaneRes :=
  if s then { val := toLane w (laneInt w p >>> min n w), c := decide (1 ≤ n) && p.testBit (min n w - 1), v := false }
  else { val := p >>> n, c := decide (1 ≤ n) && decide (n ≤ w) && p.testBit (n - 1), v := false }

/-- The immediate of LDI and ADDI in a lane (R373). -/
def immLane (w : Nat) (s : Bool) (d : BitVec 16) : Nat := toLane w (if s then d.toInt else (d.toNat : Int))

/-! ## Flags (R364). "Lane 0" is read as the lowest lane of the shape (DEDUCED, log 40). -/

/-- Z and N of a result. -/
def flagsZN (x : Core) (w : Nat) (lanes : List Nat) : Core :=
  { x with z := lanes.all fun j => laneAt x.a w j == 0, n := (laneAt x.a w (lanes.headD 0)).testBit (w - 1) }

/-- C of the lowest lane of the shape. -/
def flagC (r : LaneRes) (x : Core) : Core := { x with c := r.c }

/-- V of the lowest lane of the shape. -/
def flagV (r : LaneRes) (x : Core) : Core := { x with v := r.v }

/-- The condition codes of BR (R378). -/
def condHolds (x : Core) (c : Nat) : Bool :=
  match c with
  | 0 => true
  | 1 => x.z
  | 2 => !x.z
  | 3 => x.c
  | 4 => !x.c
  | 5 => x.n
  | 6 => !x.n
  | 7 => x.v
  | 8 => x.c && !x.z
  | 9 => !x.c || x.z
  | 10 => x.n == x.v
  | 11 => x.n != x.v
  | 12 => !x.z && x.n == x.v
  | 13 => x.z || x.n != x.v
  | 14 => x.mask != 0
  | _ => x.mask == 0

/-- The flags as XFR selector 8 lays them out (R377). -/
def flagsWord (x : Core) : BitVec 4 := BitVec.ofNat 4 (flag x.z + 2 * flag x.n + 4 * flag x.c + 8 * flag x.v)

/-- Flags from their layout. -/
def Core.putFlags (f : BitVec 4) (x : Core) : Core :=
  { x with z := f.getLsbD 0, n := f.getLsbD 1, c := f.getLsbD 2, v := f.getLsbD 3 }

/-! ## The multiplier (R379 to R381) -/

/-- The products of the lanes of a shape, low and high halves; every other lane receives 0. -/
def multiply (w : Nat) (s : Bool) (lanes : List Nat) (p q : BitVec 512) : BitVec 512 × BitVec 512 :=
  let prod (j : Nat) : Nat := toLane (2 * w) (laneVal w s (laneAt p w j) * laneVal w s (laneAt q w j))
  (writeLanes 0 0 false w lanes (fun j => prod j % 2 ^ w), writeLanes 0 0 false w lanes (fun j => prod j / 2 ^ w))

/-- A product is issued: it lands four cycles later. -/
def Core.issueProduct (lo hi : BitVec 512) (x : Core) : Core := { x with products := x.products ++ [{ lands := x.cycle + 4, lo := lo, hi := hi }] }

/-- The oldest product lands. -/
def Core.landOne (x : Core) : Core :=
  match x.products with
  | [] => x
  | p :: ps => { x with mlo := p.lo, mhi := p.hi, products := ps }

/-- The products due at or before a cycle land in order. -/
def landDue (t : Nat) : List Product → BitVec 512 → BitVec 512 → List Product × BitVec 512 × BitVec 512
  | [], lo, hi => ([], lo, hi)
  | p :: ps, lo, hi => if p.lands ≤ t then landDue t ps p.lo p.hi else (p :: ps, lo, hi)

/-- The products that are due land. -/
def Core.land (x : Core) : Core :=
  let (ps, lo, hi) := landDue x.cycle x.products x.mlo x.mhi
  { x with products := ps, mlo := lo, mhi := hi }

/-- Every product lands (R381). -/
def Core.drain (x : Core) : Core :=
  match x.products.getLast? with
  | some p => { x with mlo := p.lo, mhi := p.hi, products := [] }
  | none => x

end Sys2Proof.Machine
end

