-- ==== Sys2Proof/Machine/PageAccess.lean ====
section
/-! DEFINITION. Register pages: what a read of every register returns and what a write of every register does, for every requester (chapters 01, 02 and the register tables of the others). -/

namespace Sys2Proof.Machine

/-! ## Latched high halves (R58) -/

/-- The number that a _LO register and its latching _HI register show, by the offset of _LO (R58, R65, R288, R353, R463, R560, R568, R594, R622). -/
def pairValue (s : State) (page off : Nat) : Option Nat :=
  let stored := some ((getReg s page off).toNat + 2 ^ 32 * (getReg s page (off + 4)).toNat)
  if page = 0 ∧ off = 0x48 then some s.fuses.uid
  else if page = 2 ∧ off = 0x54 then some s.sec.lastTsc
  else if page = 3 ∧ off = 0x40 then some s.tsc
  else if page = 160 ∧ off = 0x88 then some s.cur.holdup.budget
  else if page = 160 ∧ off = 0x90 then some (dirtyBytes s)
  else if 160 < page ∧ page < 176 ∧ page % 2 = 1 ∧ off = 0x40 then stored
  else if 192 ≤ page ∧ page < 200 ∧ page % 4 = 0 ∧ (off = 0x48 ∨ off = 0x50 ∨ off = 0x58) then stored
  else if page = 232 ∧ off = 0x58 then stored
  else if page = 250 ∧ off = 0x4C then some s.sec.shown.fixed
  else if page = 256 ∧ off = 0x50 then some (if pmcSelected s then (getCore s (pmcCore s)).pmcCycles else 0)
  else if page = 256 ∧ 0x58 ≤ off ∧ off < 0x98 ∧ off % 8 = 0 then
    some (if pmcSelected s then Tab.getD (getCore s (pmcCore s)).pmc ((off - 0x58) / 8) 0 else 0)
  else none

/-- A read of a _LO register latches its _HI register. -/
def readLow (page off v : Nat) (s : State) : Word × State :=
  (word v, setFab (fun f => { f with latches := Tab.set f.latches (regKey page (off + 4)) (word (v / 2 ^ 32)) }) s)

/-- A read of a _HI register returns what was latched, once; with nothing latched it returns the value as it stands (DEDUCED, log 37). -/
def readHigh (page off v : Nat) (s : State) : Word × State :=
  match Tab.get? s.fab.latches (regKey page off) with
  | some w => (w, setFab (fun f => { f with latches := Tab.del f.latches (regKey page off) }) s)
  | none => (word (v / 2 ^ 32), s)

/-! ## The common header (R48 to R58) -/

/-- PG_CTRL. -/
def pgCtrl (s : State) (page : Nat) : Word :=
  let h := hdr s page
  word (flag h.lock * 8 + flag (h.quiesceReq && quiescePage page) * 4 + flag (h.busy && reinitPage page) * 2 + flag h.enable)

/-- PG_STAT. -/
def pgStat (s : State) (page : Nat) : Word :=
  let h := hdr s page
  if !pagePresent s page then 8
  else word (flag h.busy * 32 + flag (h.errCount != 0) * 16 + flag h.fenced * 4 + flag h.quiesced * 2 + flag (pageReady s page))

/-- PG_CLK and PG_PWR of the owning island (R304, R596). -/
def pgClk (s : State) (i : Island) : Word :=
  let h := isl s i
  if !islandPresent s i then 0 else word (clockMhz s i * 65536 + flag (h.power == 3) * 4 + levelOf s i)
def pgPwr (s : State) (i : Island) : Word :=
  if !islandPresent s i then 0 else word (flag (isl s i).wakePending * 256 + (isl s i).power)

/-- A read of the common header. -/
def hdrRead (page off : Nat) (s : State) : Word × State :=
  let h := hdr s page
  let i := (pageIsland page).getD .alwaysOn
  let (ty, first) := pageBlock page
  match off with
  | 0x00 => (word (ty * 65536 + (page - first) * 256 + 1), s)
  | 0x04 => (word (ty * 65536 + 0x0201), s)
  | 0x08 => (pgCtrl s page, s)
  | 0x0C => (pgStat s page, s)
  | 0x10 => (h.irqStat, s)
  | 0x14 => (h.irqEn, s)
  | 0x1C => (if h.errCount = 0 then 0 else word (h.errCount * 65536 + ty % 256 * 256 + h.errCode), s)
  | 0x20 => readLow page 0x20 h.errAddr s
  | 0x24 => readHigh page 0x24 h.errAddr s
  | 0x28 => (pgClk s i, s)
  | 0x2C => (pgPwr s i, s)
  | 0x30 => (h.scratch, s)
  | _ => (0, s)

/-- A write of PG_IRQ_STAT: bits written 1 clear, err re-arms capture (R57). -/
def irqClear (page : Nat) (v : Word) (s : State) : State :=
  let s := setHdr page (fun h => { h with irqStat := h.irqStat &&& ~~~v }) (wakeKeepers s)
  if !bit v 0 then s
  else
    let s := setHdr page (fun h => { h with errCode := 0, errCount := 0, errAddr := 0 }) s
    let s := onlyIf (decide (64 ≤ page ∧ page < 160)) (setChan (page - 64) fun c => { c with respCaptured := false }) s
    onlyIf (page == 232) (fun s => { s with gals := Tab.mapVals s.gals fun _ x => { x with dropCaptured := false } }) s

/-- A write of PG_IRQ_SET. Bits [7:4] are reserved. The model takes every bit of [31:8] as one of the block's, also those that the
block's chapter does not define: they can be set, enabled and cleared (DESIGN CHOICE, log 136). -/
def irqSet (page : Nat) (v : Word) (s : State) : State := raiseIrq page (v &&& 0xFFFFFF0F) s

/-- PG_CTRL.lock set (R50). -/
def lockPage (page : Nat) (s : State) : State := if pagePresent s page then setHdr page (fun h => { h with lock := true }) s else s

/-- PG_CTRL.enable written (R48); ready follows on every page of an island whose primary page it is. -/
def enablePage (page : Nat) (b : Bool) (s : State) : State :=
  match pageIsland page with
  | none => s
  | some i => if pagePresent s page then noteReady i (setHdr page (fun h => { h with enable := b })) s else s

/-- PG_CTRL.reinit written 1 (R51, R53). -/
def reinitWrite (page : Nat) (s : State) : State :=
  match pageIsland page with
  | none => s
  | some i => if reinitPage page && pagePresent s page && decide ((isl s i).power ≠ 0) then islandReinit i s else s

/-- A write of PG_CTRL by a keeper. -/
def pgCtrlWrite (page : Nat) (v : Word) (s : State) : State :=
  if !pagePresent s page then s
  else
    let s := onlyIf (bit v 3) (lockPage page) s
    let s := enablePage page (bit v 0) s
    let req := (hdr s page).quiesceReq
    let s := if bit v 2 && !req then quiesceRequest page s else if !bit v 2 && req then quiesceRelease page s else s
    onlyIf (bit v 1) (reinitWrite page) s

/-- A write of the common header. -/
def hdrWrite (who : Requester) (page off : Nat) (v : Word) (s : State) : State :=
  match off with
  | 0x08 => if who.isKeeper then pgCtrlWrite page v s else s
  | 0x10 => irqClear page v s
  | 0x14 => if who.isKeeper then setHdr page (fun h => { h with irqEn := v &&& 0xFFFFFF0F }) (wakeKeepers s) else s
  | 0x18 => irqSet page v s
  | 0x30 => setHdr page (fun h => { h with scratch := v }) s
  | _ => s

/-! ## Views of block registers -/

/-- A mask with the bits of a list set. -/
def maskWord (xs : List Nat) : Word := xs.foldl (fun w n => putBit w n true) 0

/-- PWR registers that are not stored (R620, R637). The level of a ball that is not driven is free (log 1). -/
def pwrView (off : Nat) (s : State) : Word × State :=
  match off with
  | 0x40 => (word (flag s.pwr.ret * 1024 + flag s.pwr.busy * 256 + s.pwr.target * 16 + s.pwr.ps), s)
  | 0x44 => (word (match s.pwr.cause with | .powerOn => 1 | .perst => 4 | .nssr => 8 | .keeper => 16 | .kwdog => 32), s)
  | 0x58 =>
    let (n, s) := draw s
    let oe := getReg s 1 0x50
    ((getReg s 1 0x54 &&& oe) ||| (word (n % 65536) &&& ~~~oe), s)
  | _ => (getReg s 1 off, s)

/-- ALM registers (R568). -/
def almView (s : State) (off : Nat) : Word :=
  match off with
  | 0x40 => putBit (putBit (maskWord s.sec.latched) 8 s.sec.fuseAlarm) 31 s.sec.armed
  | 0x44 => maskWord s.sec.live
  | 0x48 => word s.sec.rearmResult
  | 0x4C => word s.sec.count
  | 0x50 => word (s.sec.lastDetector % 256 * 256 + s.sec.lastSource)
  | _ => getReg s 2 off

/-- HIF registers (R85 to R87). -/
def hifView (s : State) (page off : Nat) : Word :=
  match off with
  | 0x48 => if page % 4 = 0 then hifPortCfg s ((page - 8) / 4) else 0
  | 0x80 => hifLinkStat s (page - 8)
  | 0x84 => putBit (getReg s page 0x84) 0 false
  | _ => getReg s page off

/-- The I/O queue of a pool index: controller and queue (chapter 07). -/
def poolQueue (s : State) (q : Nat) : Option (Nat × Nat) :=
  ((upTo (controllerCount s)).foldl (fun (acc : Option (Nat × Nat) × Nat) c =>
    match acc with
    | (some r, n) => (some r, n)
    | (none, n) => if n < (ctlOf s c).vq then (some (c, n + 1), n) else (none, n - (ctlOf s c).vq)) (none, q)).1

/-- Outstanding commands of a queue of the pool, and its CQEs held (R314). -/
def poolOutstanding (s : State) (q : Nat) : Nat :=
  match poolQueue s q with
  | none => 0
  | some (c, y) => min 0xFFFF (((sqCmds s c y).filter fun x => x.phase != .fetching).length)
def poolHeld (s : State) (q : Nat) : Nat :=
  match poolQueue s q with
  | none => 0
  | some (c, y) => min 255 (((sqCmds s c y).filter fun x => x.phase == .held).length)

/-- ACC registers (R132, R314). -/
def accView (s : State) (page off : Nat) : Word :=
  if page = 16 ∧ off = 0x44 then ctxInUse s
  else if 18 ≤ page ∧ page ≤ 26 then
    let q := (page - 18) * 2016 + (off - 0x40) / 4 * 2
    if (off - 0x40) / 4 < 1008 then word (poolOutstanding s q + 65536 * poolOutstanding s (q + 1)) else 0
  else if 27 ≤ page ∧ page ≤ 31 then
    let q := (page - 27) * 4032 + (off - 0x40) / 4 * 4
    if (off - 0x40) / 4 < 1008 then
      word (poolHeld s q + 256 * poolHeld s (q + 1) + 65536 * poolHeld s (q + 2) + 2 ^ 24 * poolHeld s (q + 3))
    else 0
  else getReg s page off

/-- WNG registers (R217). -/
def wngView (s : State) (page off : Nat) : Word :=
  let w := page - 32
  match off with
  | 0x40 => word (flag (Tab.has s.flash.discovering w))
  | 0x44 => wngStat s w
  | 0x48 => wngLive s w
  | 0x4C => wngGeomA s w
  | 0x50 => wngGeomB s w
  | _ => getReg s page off

/-- FCH registers (R219). -/
def fchView (s : State) (page off : Nat) : Word :=
  let ch := page - 64
  match off with
  | 0x44 => fchStat s ch
  | 0x48 => fchPresent s ch
  | 0x4C => fchFenced s ch
  | 0x54 => fchDieStat s ch
  | 0x70 => word (slotsInUse (chan s ch))
  | _ => getReg s page off

/-- CUR registers (R288). -/
def curView (s : State) (page off : Nat) : Word :=
  let w := (page - 160) / 2
  let p := pool s w
  if page % 2 = 1 then getReg s page off
  else
    match off with
    | 0x40 => curSets s w
    | 0x44 => word (p.reserve + p.emergency)
    | 0x48 => word p.emergency
    | 0x4C => word p.lent
    | 0x50 => word p.borrowed
    | 0x60 => curLedger s w
    | 0x80 => if page = 160 then curDevStat s else 0
    | 0x98 => if page = 160 then word s.cur.holdup.shown else 0
    | 0x9C => if page = 160 then huCtrl s else 0
    | _ => getReg s page off

/-- CON registers (R318). -/
def conView (s : State) (page off : Nat) : Word :=
  if page = 176 ∧ off = 0x44 then conStat s
  else if page = 177 ∧ 0x40 ≤ off ∧ off < 0xE8 then conTemp s ((off - 0x40) / 4)
  else if page = 177 ∧ 0x100 ≤ off ∧ off < 0x1A8 then conSupply s ((off - 0x100) / 4)
  else if page = 178 ∧ 0x40 ≤ off ∧ off < 0xE8 then conLvl s ((off - 0x40) / 4)
  else getReg s page off

/-- CAT registers (R488). -/
def catView (s : State) (page off : Nat) : Word :=
  if page = 200 ∧ off = 0x40 then catStat s
  else if page = 200 ∧ (off = 0x44 ∨ off = 0x50) then putBit (getReg s 200 off) 31 s.cat.running.isSome
  else getReg s page off

/-- DOC registers (R411). -/
def docView (s : State) (page off : Nat) : Word :=
  let g := gal s (page - 208)
  match off with
  | 0x40 => maskWord g.active
  | 0x44 => maskWord ((g.cores.filter fun e => e.2.serving.isSome).map Prod.fst)
  | 0x48 => maskWord g.fenced
  | 0x4C => word (g.spare.getD 0x1F)
  | 0x50 => 0
  | _ => getReg s page off

/-- KPR registers (R413). A core that waits leaves WAIT as soon as an event is pending (R408). -/
def kprView (s : State) (page off : Nat) : Word :=
  let cores (p : Core → Bool) : List Nat := (upTo 4).filter fun k => p (getCore s (.keeper k))
  let waits : List Nat := (upTo 4).filter fun k => (getCore s (.keeper k)).waiting && !keeperEvent s k
  if page ≠ 224 then 0
  else
    match off with
    | 0x44 => word ((maskWord (cores (·.halted))).toNat * 256 + (maskWord waits).toNat * 16 + (maskWord (cores (·.running))).toNat)
    | 0x68 => maskWord (irqPending s)
    | _ => getReg s 224 off

/-- Registers of page 232 that are not stored. The two cancel registers read 0. -/
def rgs232View (s : State) (off : Nat) : Word :=
  match off with
  | 0x44 => rgsLive s
  | 0x48 => rgsExecLive s
  | 0x64 => 0
  | 0x68 => 0
  | _ => getReg s 232 off

/-- Registers of page 237 that are not stored. -/
def rgs237View (s : State) (off : Nat) : Word :=
  match off with
  | 0x44 => word (selectedList s).length
  | 0x48 => rgsListWait s
  | 0x50 => rgsFlowStat s
  | _ => getReg s 237 off

/-- RGS registers (R463). -/
def rgsView (s : State) (page off : Nat) : Word :=
  if page = 232 then rgs232View s off
  else if page = 235 then
    if 0x80 ≤ off ∧ off < 0xC0 then word (Tab.getD s.rgs.delays ((off - 0x80) / 4) {}).ticks
    else if 0xC0 ≤ off ∧ off < 0x100 then word (delayedOn s ((off - 0xC0) / 4)).length
    else getReg s 235 off
  else if page = 236 then
    if 0xC0 ≤ off ∧ off < 0x100 then word (Tab.getD s.rgs.loads ((off - 0xC0) / 4) 0 % 1024) else getReg s 236 off
  else if page = 237 then rgs237View s off
  else getReg s page off

/-- DRC registers (R525). -/
def drcView (s : State) (page off : Nat) : Word :=
  let n := page - 240
  match off with
  | 0x40 => drcTopo s n
  | 0x44 => drcStat s n
  | 0x50 => drcFront s n
  | 0x54 => word (flag (drc s n).slice.isSome * 2 ^ 31 + flag (drc s n).retrainGo)
  | 0x68 => putBit (getReg s page 0x68) 31 ((drc s n).heldGo || (drc s n).zeroing)
  | _ => getReg s page off

/-- SCE registers (R547). -/
def sceView (s : State) (off : Nat) : Word :=
  match off with
  | 0x40 => word (flag (s.sec.owner != 0xFF) * 256 + s.sec.owner)
  | 0x44 => putBit (getReg s 248 0x44) 31 s.sec.msg.isSome
  | 0x48 => word (flag s.sec.msg.isSome * 2 ^ 31 + s.sec.sceStatus)
  | 0x54 => 0
  | 0x58 => word s.sec.sceInvoc
  | _ => getReg s 248 off

/-- DGE registers (R555). -/
def dgeView (s : State) (off : Nat) : Word :=
  let e := if off < 0x80 then 0 else 1
  if 0x40 ≤ off ∧ off < 0xC0 then
    match (off - 0x40) % 0x40 with
    | 0x00 => putBit (getReg s 249 off) 31 (dge s e).busy
    | 0x04 => word (flag (dge s e).busy * 2 ^ 31 + (dge s e).status)
    | 0x20 => 0
    | 0x28 => 0
    | _ => getReg s 249 off
  else if 0x100 ≤ off ∧ off < 0x140 then word (ofBe (sliceBytes (dge s 0).digest (off - 0x100) 4))
  else if 0x140 ≤ off ∧ off < 0x180 then word (ofBe (sliceBytes (dge s 1).digest (off - 0x140) 4))
  else 0

/-- KEY registers (R560). -/
def keyView (s : State) (page off : Nat) : Word :=
  if page = 250 then
    match off with
    | 0x44 => word s.sec.keyResult
    | 0x48 => s.sec.shown.info
    | 0x54 => word s.sec.shown.invoc
    | 0x58 => word s.fuses.rollback
    | _ => getReg s 250 off
  else if 0x40 ≤ off ∧ off < 0xC0 then keyValidWord s (32 * ((off - 0x40) / 4))
  else if 0xC0 ≤ off ∧ off < 0xC8 then keyValidWord s (1024 + 32 * ((off - 0xC0) / 4))
  else if off = 0xD0 then maskWord s.fuses.revoked
  else if 0x100 ≤ off ∧ off < 0x1C0 then
    word (ofBe (sliceBytes ((s.fuses.hashes[(off - 0x100) / 0x30]?).getD []) ((off - 0x100) % 0x30) 4))
  else 0

/-- MBX registers (R591). -/
def mbxView (s : State) (page off : Nat) : Word :=
  if page = 252 ∧ off = 0x4C then 0
  else if 0x100 ≤ off ∧ off < 0x500 ∧ off % 8 = 4 then mbxStat s ((page - 252) * 128 + (off - 0x100) / 8)
  else getReg s page off

/-- The monitor registers at 0x800 and above (R311, R320): statistics as last latched. -/
def monView (s : State) (page off : Nat) : Word :=
  let j := (page - 256) * 16 + (off - 0x800) / 0x80
  let m := latchedMonitor s j
  let o := off % 0x80
  if o < 0x10 then
    match o with
    | 0x00 => (monitor s j).cfg
    | 0x04 => (monitor s j).bin
    | 0x08 => (monitor s j).period
    | _ => 0
  else
    match o with
    | 0x10 => word m.count
    | 0x14 => word (m.count / 2 ^ 32)
    | 0x18 => word m.sum
    | 0x1C => word (m.sum / 2 ^ 32)
    | 0x20 => word m.min
    | 0x24 => word m.max
    | 0x68 => word m.last
    | _ => if 0x28 ≤ o ∧ o < 0x68 then word (Tab.getD m.bins ((o - 0x28) / 4) 0) else 0

/-- The PMC registers (R594, R595). -/
def pmcView (s : State) (page off : Nat) : Word :=
  if page = 256 then
    match off with
    | 0x40 => getReg s 256 0x40
    | 0x48 => pmcEvsel s false
    | 0x4C => pmcEvsel s true
    | 0x98 => if pmcSelected s then word (getCore s (pmcCore s)).pmcOvf.toNat else 0
    | _ => 0
  else if page = 257 then getReg s 257 off
  else 0

/-- What a block register shows, apart from latching. -/
def regView (s : State) (page off : Nat) : Word :=
  if page = 0 then
    match off with
    | 0x40 => word (0xC5E3B000 + s.fuses.variant % 256 * 16 + s.fuses.package % 16)
    | _ => getReg s 0 off
  else if page = 2 then almView s off
  else if page < 16 then hifView s page off
  else if page < 32 then accView s page off
  else if page < 40 then wngView s page off
  else if page < 160 then fchView s page off
  else if page < 176 then curView s page off
  else if page < 192 then conView s page off
  else if page < 200 then (if page % 4 = 0 ∧ off = 0x44 then cmpStat s ((page - 192) / 4) else getReg s page off)
  else if page < 208 then catView s page off
  else if page < 224 then docView s page off
  else if page < 232 then kprView s page off
  else if page < 240 then rgsView s page off
  else if page < 248 then drcView s page off
  else if page = 248 then sceView s off
  else if page = 249 then dgeView s off
  else if page < 252 then keyView s page off
  else if page < 256 then mbxView s page off
  else if off ≥ 0x800 then monView s page off
  else pmcView s page off

/-- A read of the TSC notes what it returned. -/
def noteTsc (v : Nat) (s : State) : State := setFab (fun f => { f with tscSeen := max f.tscSeen v }) s

/-- An island's replica of the TSC: at most 8 ns behind and never ahead, the lag free, and no read goes back (R20, R21; log 39). -/
def replicaTsc (s : State) : Nat × State :=
  let (d, s) := draw s
  let v := min s.tsc (max s.fab.tscSeen (s.tsc - d % 9))
  (v, noteTsc v s)

/-- A read of RGS_GAL_LOAD finds the busy share of the last 1 ms, which the model has no clock for: a free number of thousandths (R463, log 152). -/
def settleLoad (g : Nat) (s : State) : State :=
  if islandPresent s (.gallery g) then
    let (n, s) := draw s
    setRgs (fun r => { r with loads := Tab.set r.loads g (n % 1001) }) s
  else s

/-- A read of a block register, with what the read itself does. -/
def regRead (who : Requester) (page off : Nat) (s : State) : Word × State :=
  let s := if page = 256 then settleShown off s
    else if page = 236 ∧ 0xC0 ≤ off ∧ off < 0x100 then settleLoad ((off - 0xC0) / 4) s else s
  if page = 1 then pwrView off s
  else if page = 2 ∧ off = 0x44 then
    let s := liveNow s
    (almView s 0x44, s)
  else if page = 248 ∧ off ≠ 0x40 ∧ who ≠ .keeper s.sec.owner then (0, s)
  else if 256 ≤ page ∧ off ≥ 0x800 ∧ off % 0x80 = 0x10 then
    let s := monLatch ((page - 256) * 16 + (off - 0x800) / 0x80) s
    (regView s page off, s)
  else if page = 3 ∧ off = 0x40 then readLow 3 0x40 s.tsc (noteTsc s.tsc s)
  else
    match pairValue s page off, pairValue s page (off - 4) with
    | some v, _ => readLow page off v s
    | none, some v => readHigh page off v s
    | none, none => (regView s page off, s)

/-! ## Writes of block registers -/

/-- A field after a write, by its access code (R8). -/
def fieldWrite (who : Requester) (lock : Bool) (old new : Word) (f : FieldD) (w : Word) : Word :=
  let o := bits old f.hi f.lo
  let n := bits new f.hi f.lo
  putBits w f.hi f.lo (match f.acc with
    | .ro => o
    | .rw => n
    | .wo => 0
    | .w1c => o &&& (2 ^ 32 - 1 - n)
    | .w1s => o ||| n
    | .rwk => if who.isKeeper then n else o
    | .rwl => if lock then o else n)

/-- A write of a register with no behaviour of its own (R8, R50). -/
def plainWrite (who : Requester) (page off : Nat) (v : Word) (s : State) : State :=
  match findReg page off with
  | none => s
  | some r =>
    let lock := (hdr s page).lock
    let w := r.fields.foldl (fun w f => fieldWrite who lock (getReg s page off) v f w) 0
    let s := putReg page off w s
    onlyIf (lock && r.fields.any fun f => f.acc == .rwl) (capture page 7 (pageAddr page off)) s

/-- The state of a keeper core once it has stopped: products in flight have landed (R381, R413). -/
def keeperStopped (c : Core) : Core := { c.drain with running := false, waiting := false, stalled := false }

/-- A keeper core starts at KPR_START_k. -/
def keeperOn (k : Nat) (s : State) : State := keeperStart k false (putField 224 0x40 k k 1 s)

/-- A keeper core stops; a message it owns is released (R381, R413, R538). -/
def keeperOff (k : Nat) (s : State) : State :=
  let s := setCore (.keeper k) keeperStopped (putField 224 0x40 k k 0 s)
  onlyIf (s.sec.owner == k) sceForceRelease s

/-- A write of KPR_RUN. -/
def kprRunWrite (v : Word) (s : State) : State :=
  doAll (fun k s =>
    if bit v k == regBit s 224 0x40 k then s else if bit v k then keeperOn k s else keeperOff k s) (upTo 4) s

/-- DOC_ICACHE_INV (R371, R411). -/
def icacheInvalidate (g : Nat) (v : Word) (s : State) : State := onlyIf (bit v 0) (setGal g fun x => { x with icacheInvs := x.icacheInvs + 1 }) s

/-- A write of CAT_CMD: go starts the command (R479, R488). The row that a read fails on is not named here: none (log 38). -/
def catCmdWrite (v : Word) (s : State) : State :=
  if bit v 31 then catCommand (bits v 26 24) (bits v 19 16) [] s
  else if s.cat.running.isSome then capture 200 0x23 (pageAddr 200 0x44) s else putReg 200 0x44 (v &&& 0x070F0000) s

/-- A write of KEY_CMD. -/
def keyCmdWrite (v : Word) (s : State) : State := if bit v 31 then sendDue (keyCommand v s) else putReg 250 0x40 (v &&& 0x7EFF03FF) s

/-- A write of HIF_LINK_CTRL: the cap is stored, retrain retrains (R87). -/
def linkCtrlWrite (page : Nat) (v : Word) (s : State) : State :=
  onlyIf (bit v 0) (setLink (page - 8) fun l => { l with training := true }) (putReg page 0x84 (v &&& 0xE) s)

/-- A write of RGS_GAL_OWNER (R463). -/
def galOwnerWrite (g : Nat) (v : Word) (s : State) : State :=
  let n := bits v 7 0
  if n ≠ 0xFF ∧ n ≥ controllerCount s then capture 232 0x24 (pageAddr 236 (0x40 + 4 * g)) s else putReg 236 (0x40 + 4 * g) (word n) s

/-- A write of CAT_SCRUB (R488). -/
def catScrubWrite (v : Word) (s : State) : State :=
  let n := bits v 15 0
  if 1 ≤ n ∧ n ≤ 15 then capture 200 0x22 (pageAddr 200 0x58) s else putReg 200 0x58 (word n) s

/-- A write of DRC_SCRUB (R525). -/
def drcScrubWrite (page : Nat) (v : Word) (s : State) : State :=
  if bits v 15 0 > 720 then capture page 0x26 (pageAddr page 0x4C) s else putReg page 0x4C (word (bits v 15 0)) s

/-- A write of DGE_LAST_CNT (R550). -/
def dgeCountWrite (off : Nat) (v : Word) (s : State) : State :=
  if bits v 2 0 > 4 then capture 249 0x23 (pageAddr 249 off) s else putReg 249 off (word (bits v 2 0)) s

/-- A write of an SCE register by a keeper core (R537). -/
def sceWrite (k off : Nat) (v : Word) (s : State) : State :=
  match off with
  | 0x40 => sceLockWrite k v s
  | 0x54 => sceForceWrite v s
  | 0x44 => sceCtrlWrite k v s
  | _ => if s.sec.owner ≠ k then capture 248 0x20 (pageAddr 248 off) s else plainWrite (.keeper k) 248 off v s

/-- A write of a PWR register by a keeper core (R620, R621). -/
def pwrRegWrite (k off : Nat) (v : Word) (s : State) : State :=
  match off with
  | 0x48 => devResetWrite v s
  | 0x4C => kwdogWrite v s
  | _ => if 0x100 ≤ off ∧ off < 0x1A8 then islandPowerWrite ((off - 0x100) / 4) (bit v 0) s else plainWrite (.keeper k) 1 off v s

/-- A write of an FCH register by a keeper core (R219). -/
def fchRegWrite (k page off : Nat) (v : Word) (s : State) : State :=
  match off with
  | 0x40 => fchCfgWrite (page - 64) v s
  | 0x50 => dieCtrlWrite (page - 64) v s
  | 0x58 => fchTmoWrite (page - 64) v s
  | _ => plainWrite (.keeper k) page off v s

/-- A write of a CUR register by a keeper core (R288). -/
def curRegWrite (k page off : Nat) (v : Word) (s : State) : State :=
  if page % 2 = 0 ∧ off = 0x54 then gcCfgWrite page v s
  else if page = 160 ∧ off = 0x84 then lendFloorWrite v s
  else if page = 160 ∧ off = 0x9C then huCtrlWrite v s
  else if page = 160 ∧ off = 0xA0 then huMinWrite v s
  else if page = 160 ∧ off = 0xA4 then jnlMaxWrite v s
  else plainWrite (.keeper k) page off v s

/-- A write of a CMP register by a keeper core (R353). -/
def cmpRegWrite (k page off : Nat) (v : Word) (s : State) : State :=
  let c := (page - 192) / 4
  let r := (page % 4 - 1) * 16 + (off - 0x40) / 0x20
  if page % 4 = 0 ∧ off = 0x40 then cmpCfgWrite c v s
  else if (page % 4 = 1 ∨ page % 4 = 2) ∧ 0x40 ≤ off ∧ off < 0x240 ∧ off % 0x20 = 0x08 then ringCfgWrite c r v s
  else if (page % 4 = 1 ∨ page % 4 = 2) ∧ 0x40 ≤ off ∧ off < 0x240 ∧ off % 0x20 = 0x0C then ringTailWrite c r (bits v 11 0) s
  else plainWrite (.keeper k) page off v s

/-- A write of a CAT register by a keeper core (R488). -/
def catRegWrite (k page off : Nat) (v : Word) (s : State) : State :=
  if page = 200 ∧ off = 0x44 then catCmdWrite v s
  else if page = 200 ∧ off = 0x58 then catScrubWrite v s
  else if page = 201 ∧ 0x40 ≤ off ∧ off < 0x80 then catChainWrite ((off - 0x40) / 4) v s
  else plainWrite (.keeper k) page off v s

/-- A write of an RGS register by a keeper core (R463). -/
def rgsRegWrite (k page off : Nat) (v : Word) (s : State) : State :=
  if page = 232 ∧ off = 0x64 then execCancelWrite v s
  else if page = 232 ∧ off = 0x68 then slotCancelWrite v s
  else if page = 233 ∧ off = 0x44 then ctxCommand v s
  else if page = 235 ∧ 0x40 ≤ off ∧ off < 0x80 then delayPeriodWrite ((off - 0x40) / 4) v s
  else if page = 236 ∧ 0x40 ≤ off ∧ off < 0x80 then galOwnerWrite ((off - 0x40) / 4) v s
  else plainWrite (.keeper k) page off v s

/-- A write of a DRC register by a keeper core (R525). -/
def drcRegWrite (k page off : Nat) (v : Word) (s : State) : State :=
  match off with
  | 0x4C => drcScrubWrite page v s
  | 0x54 => onlyIf (bit v 0) (startSlice (page - 240)) s
  | 0x68 => writeInitSkip (page - 240) v s
  | _ => plainWrite (.keeper k) page off v s

/-- A write of a DGE register by a keeper core (R555). -/
def dgeRegWrite (k off : Nat) (v : Word) (s : State) : State :=
  let e := if off < 0x80 then 0 else 1
  if off < 0x40 ∨ 0xC0 ≤ off then plainWrite (.keeper k) 249 off v s
  else
    match (off - 0x40) % 0x40 with
    | 0x00 => dgeCtrlWrite e v s
    | 0x20 => dgeData e v s
    | 0x24 => dgeCountWrite off v s
    | 0x28 => dgeLast e v s
    | _ => plainWrite (.keeper k) 249 off v s

/-- A write of a KEY register by a keeper core (R560). -/
def keyRegWrite (k page off : Nat) (v : Word) (s : State) : State :=
  if page = 250 ∧ off = 0x40 then keyCmdWrite v s
  else if page = 250 ∧ off = 0x58 then rollbackWrite v s
  else if page = 251 ∧ off = 0xD0 then revokeWrite v s
  else plainWrite (.keeper k) page off v s

/-- A write of an MBX register by a keeper core (R591). -/
def mbxRegWrite (k page off : Nat) (v : Word) (s : State) : State :=
  if page = 252 ∧ off = 0x4C then onlyIf (bit v 31) (mbxRecall (.keeper k) (bits v 8 0)) s
  else if 0x100 ≤ off ∧ off < 0x500 ∧ off % 8 = 0 then mbxConfig ((page - 252) * 128 + (off - 0x100) / 8) v s
  else plainWrite (.keeper k) page off v s

/-- A write of a monitor's register by a keeper core (R320). -/
def monRegWrite (page off : Nat) (v : Word) (s : State) : State :=
  let j := (page - 256) * 16 + (off - 0x800) / 0x80
  match off % 0x80 with
  | 0x00 => monConfigWrite j 0 v s
  | 0x04 => monConfigWrite j 1 v s
  | 0x08 => monConfigWrite j 2 v s
  | 0x0C => monClrWrite j v s
  | _ => s

/-- A write of a PMC register by a keeper core (R594). -/
def pmcRegWrite (off : Nat) (v : Word) (s : State) : State :=
  match off with
  | 0x40 => pmcSelWrite v s
  | 0x48 => pmcEvselWrite false v s
  | 0x4C => pmcEvselWrite true v s
  | 0x98 => pmcOvfWrite v s
  | 0x9C => pmcClrWrite v s
  | _ => s

/-- A write of a register with behaviour by keeper core k, or of one with none. -/
def keeperRegWrite (k page off : Nat) (v : Word) (s : State) : State :=
  let plain := plainWrite (.keeper k) page off v s
  if page = 1 then pwrRegWrite k off v s
  else if page = 2 then (if off = 0x48 then onlyIf (bit v 31) rearmWrite s else plain)
  else if page < 8 then plain
  else if page < 16 then (if off = 0x84 then linkCtrlWrite page v s else plain)
  else if page = 16 then (if off = 0x48 ∧ !(hdr s 16).lock then ctxReserveWrite v s else plain)
  else if page = 17 then (if 0x40 ≤ off ∧ off < 0x240 then ctlWeightWrite ((off - 0x40) / 4) v s else plain)
  else if page < 32 then plain
  else if page < 40 then (if off = 0x40 then onlyIf (bit v 0) (startDiscovery (page - 32) []) s else plain)
  else if page < 160 then fchRegWrite k page off v s
  else if page < 176 then curRegWrite k page off v s
  else if page < 192 then (if page = 176 ∧ off = 0x5C then dvfsWrite v s else plain)
  else if page < 200 then cmpRegWrite k page off v s
  else if page < 208 then catRegWrite k page off v s
  else if page < 224 then (if off = 0x50 then icacheInvalidate (page - 208) v s else plain)
  else if page < 232 then (if page = 224 ∧ off = 0x40 then kprRunWrite v s else plainWrite (.keeper k) page off v (wakeKeepers s))
  else if page < 240 then rgsRegWrite k page off v s
  else if page < 248 then drcRegWrite k page off v s
  else if page = 248 then sceWrite k off v s
  else if page = 249 then dgeRegWrite k off v s
  else if page < 252 then keyRegWrite k page off v s
  else if page < 256 then mbxRegWrite k page off v s
  else if off ≥ 0x800 then monRegWrite page off v s
  else if page = 256 then pmcRegWrite off v s
  else if page = 257 ∧ 0x40 ≤ off ∧ off < 0x140 ∧ off % 0x10 = 4 then samplePerWrite ((off - 0x44) / 0x10) v s
  else plain

/-- Registers of which a writer that is no keeper may write some field and that have a behaviour (R8, R63): the fields it may
not write keep their value. -/
def otherRegWrite (who : Requester) (page off : Nat) (v : Word) (s : State) : State :=
  let t := takenWord who page off v s
  if page = 1 ∧ off = 0x48 then devResetWrite v s
  else if page = 1 ∧ off = 0x4C then kwdogWrite t s
  else if page = 16 ∧ off = 0x48 ∧ !(hdr s 16).lock then ctxReserveWrite v s
  else if page = 160 ∧ off = 0x9C then huCtrlWrite t s
  else if page = 160 ∧ off = 0xA0 then huMinWrite t s
  else if 208 ≤ page ∧ page < 224 ∧ off = 0x50 then icacheInvalidate (page - 208) v s
  else if page = 232 ∧ off = 0x64 then execCancelWrite v s
  else if page = 232 ∧ off = 0x68 then slotCancelWrite v s
  else if 240 ≤ page ∧ page < 248 ∧ off = 0x54 then onlyIf (bit v 0) (startSlice (page - 240)) s
  else if 240 ≤ page ∧ page < 248 ∧ off = 0x68 then writeInitSkip (page - 240) t s
  else if 256 ≤ page ∧ off ≥ 0x800 ∧ off % 0x80 = 0x0C then monClrWrite ((page - 256) * 16 + (off - 0x800) / 0x80) v s
  else if page = 256 ∧ off = 0x98 then pmcOvfWrite v s
  else if page = 256 ∧ off = 0x9C then pmcClrWrite v s
  else if (findReg page off).isSome then plainWrite who page off v s
  else s

/-- A write of a block register. -/
def regWrite (who : Requester) (page off : Nat) (v : Word) (s : State) : State :=
  match who with
  | .keeper k => keeperRegWrite k page off v s
  | .docent _ _ | .host _ | .engine _ => otherRegWrite who page off v s

/-! ## Accesses (R25, R30, R43, R44, R48, R59, R62, R640) -/

/-- The error that meets an access before any register is reached: its R59 code, 0 for none, with what it captures. A refused
access to page 249 of wrong width or alignment clears both digest engines (R552). `place` tells how far the access has got: one
that has reached the page is past the window (R64), and one that the island has accepted is past a quiesce (R26). -/
def accessCheck (place : CrossPlace) (who : Requester) (page off width : Nat) (write : Bool) (s : State) : Nat × State :=
  let addr := pageAddr page off
  let reached := place == .receiveSide || place == .inService
  if pageIsland page = none then (1, capture 0 1 addr s)
  else if width ≠ 32 ∨ off % 4 ≠ 0 ∨ off ≥ 0x1000 then
    (8, onlyIf (page == 249) (dgeClearBoth 0x12) (capture page 8 addr s))
  else
    match if reached then none else shutPort s who page write with
    | some p => (6, capture (8 + 4 * p) 6 addr s)
    | none =>
      if off ≥ 0x40 ∧ (regsRefuse s page || (place == .served && quiescing s page)) then (2, capture page 2 addr s) else (0, s)

/-- A page read: the R59 code and the value. -/
def pageRead (place : CrossPlace) (who : Requester) (page off width : Nat) (s : State) : Nat × Word × State :=
  let (code, s) := accessCheck place who page off width false s
  if code ≠ 0 then (code, 0, s)
  else
    let (v, s) := if off < 0x40 then hdrRead page off s else regRead who page off s
    (0, v, s)

/-- A page write: the R59 code. -/
def pageWrite (place : CrossPlace) (who : Requester) (page off width : Nat) (v : Word) (s : State) : Nat × State :=
  let (code, s) := accessCheck place who page off width true s
  if code ≠ 0 then (code, s)
  else (0, if off < 0x40 then hdrWrite who page off v s else regWrite who page off v s)

/-- The island a requester sends from. -/
def Requester.island : Requester → Island
  | .keeper _ => .keeper
  | .docent g _ => .gallery g
  | .host p => .host p
  | .engine i => i

/-- The requester that speaks for an island. -/
def Island.requester : Island → Requester
  | .keeper => .keeper 0
  | .host p => .host p
  | .accession => .engine .accession
  | .wing w => .engine (.wing w)
  | .gallery g => .engine (.gallery g)
  | .registrar => .engine .registrar
  | .catalogue => .engine .catalogue
  | .compress c => .engine (.compress c)
  | .dram n => .engine (.dram n)
  | .security => .engine .security
  | .alwaysOn => .engine .alwaysOn

/-! ## Crossings (R22 to R28) -/

/-- The stamp of a mailbox post from an island's hardware: block and instance (R574). -/
def islandStamp (i : Island) : Nat :=
  let (ty, first) := pageBlock i.primary
  ty % 256 * 65536 + (i.primary - first) * 256

/-- Who makes the page access of a request. -/
def CrossReq.who (r : CrossReq) : Requester :=
  match r.src, r.core with
  | .keeper, some k => .keeper k
  | i, _ => i.requester

/-- The island performs a request and answers it. One that has been held on the send side meets the window as it now stands (R64). -/
def serveRequest (r : CrossReq) (s : State) : State :=
  match r.op with
  | .pageRead page off width =>
    let (code, v, s) := pageRead r.place r.who page off width s
    crossAnswer r code (if code = 0 then leBytes 4 v.toNat else []) s
  | .pageWrite page off width v =>
    let (code, s) := pageWrite r.place r.who page off width v s
    crossAnswer r code [] s
  | .memRead a len =>
    let (ans, s) := busRead a len s
    crossAnswer r ans.code (if ans.code = 0 then ans.bytes else []) s
  | .memWrite a bs =>
    let (code, s) := busWrite a bs s
    crossAnswer r code [] s
  | .post chan m => crossAnswer r 0 [] (ringTake chan (mbxPost chan (islandStamp r.src) (word (ofLe m)) s).2)
  | .wake => crossAnswer r 0 [] s

/-- The requests from one island to another that stand in the crossing, in the order sent (R23). -/
def pairRequests (s : State) (src dst : Island) : List CrossReq := s.fab.requests.filter fun x => x.src == src && x.dst == dst

/-- The requests between the two islands of a request that were sent before it, and it, in order (R23). -/
def upToRequest (s : State) (r : CrossReq) : List CrossReq := (pairRequests s r.src r.dst).takeWhile (fun x => x.id != r.id) ++ [r]

/-- A request in a crossing is served, after every earlier one of its pair. -/
def serveThrough (r : CrossReq) (s : State) : State := doAll serveRequest (upToRequest s r) s

/-- Sends a page access that must wait for its island to wake. -/
def holdAccess (who : Requester) (dst : Island) (op : CrossOp) (s : State) : State :=
  holdRequest { id := freshId s, src := who.island, dst := dst, epoch := (isl s who.island).epoch, op := op, place := .sendSide,
                core := match who with | .keeper k => some k | .docent _ _ | .host _ | .engine _ => none } s

/-- What was sent earlier between two islands is served before what follows it (R23), where the destination takes requests. -/
def serveEarlier (src dst : Island) (s : State) : State :=
  if (islandPresent s dst && islandAsleep s dst) || islandRefuses s dst then s else doAll serveRequest (pairRequests s src dst) s

/-- An access to the header mirror, which every island's pages always answer (R48). -/
def mirrorOp : CrossOp → Bool
  | .pageRead page off _ => (pageIsland page).isSome && decide (off < 0x40)
  | .pageWrite page off _ _ => (pageIsland page).isSome && decide (off < 0x40)
  | .memRead _ _ => false
  | .memWrite _ _ => false
  | .post _ _ => false
  | .wake => false

/-- The port through whose window a request comes, where the window is closed to it (R62). -/
def opShutPort (s : State) (src : Island) : CrossOp → Option (Nat × Nat × Nat)
  | .pageRead page off _ => if (pageIsland page).isSome then (shutPort s src.requester page false).map fun p => (p, page, off) else none
  | .pageWrite page off _ _ => if (pageIsland page).isSome then (shutPort s src.requester page true).map fun p => (p, page, off) else none
  | .memRead _ _ | .memWrite _ _ | .post _ _ | .wake => none

/-- A request enters a crossing (R22 to R26). A closed window ends it there (R62), and an access to the header mirror goes to
ALWAYS-ON, behind what was sent there before (R23, R48). An island that is both gated by a low-power state and quiesced holds it: the
manual gives R24 and R25 no order (DESIGN CHOICE, log 147). -/
def crossRequest (id : Nat) (src dst : Island) (op : CrossOp) (place : CrossPlace) (s : State) : State :=
  if !islandPresent s src || s.fab.requests.any (·.id == id) || s.fab.responses.any (·.id == id) then s
  else
    let r : CrossReq := { id := id, src := src, dst := dst, epoch := (isl s src).epoch, op := op, place := place }
    let enter (s : State) : State := setFab (fun f => { f with requests := f.requests ++ [r] }) s
    match opShutPort s src op with
    | some (p, page, off) => crossAnswer r 6 [] (capture (8 + 4 * p) 6 (pageAddr page off) s)
    | none =>
      if mirrorOp op then serveRequest r (serveEarlier src .alwaysOn s)
      else if islandPresent s dst && islandAsleep s dst then holdRequest r s
      else if islandRefuses s dst || (hdr s dst.primary).quiesceReq then crossRefuse r 2 s
      else if place = .served then serveThrough r (enter s) else enter s

/-- A response arrives at its island (R22); one for an island re-initialised since is not taken here (R28). A request that its
island still has to serve is served first. A failed read gives the host all ones and any other requester an error response; a
failed write gives the host nothing (R640). -/
def crossResponse (id : Nat) (s : State) : State :=
  let s := match s.fab.requests.find? (fun r => r.id == id) with
    | none => s
    | some r => if islandAsleep s r.dst || islandRefuses s r.dst then s else serveThrough r s
  match s.fab.responses.find? (fun x => x.id == id) with
  | none => s
  | some x =>
    if x.epoch ≠ (isl s x.dest).epoch then s
    else
      let s := setFab (fun f => { f with responses := f.responses.filter (fun y => y.id != id) }) s
      match x.dest with
      | .host _ => if !x.read then s else emit (.hostRead (if x.error ≠ 0 then 0xFFFFFFFF else ofLe x.data)) s
      | .accession | .wing _ | .gallery _ | .keeper | .registrar | .catalogue | .compress _ | .dram _ | .security | .alwaysOn =>
        if x.error ≠ 0 then emit (.errorResponse x.error) s else if x.read then emit (.coreRead (ofLe x.data)) s else s

/-- A stale response is dropped and counted in the page of the requester's island (R28, R59). -/
def staleDrop (id : Nat) (s : State) : State :=
  match s.fab.responses.find? (fun x => x.id == id) with
  | none => s
  | some x =>
    if x.epoch = (isl s x.dest).epoch then s
    else
      capture x.dest.primary 4 (pageAddr x.dest.primary 0) (setFab (fun f => { f with responses := f.responses.filter (fun y => y.id != id) }) s)

/-- The requests an island holds or has accepted are served, in order (R23, R24, R26). -/
def serveHeld (dst : Island) (p : CrossReq → Bool) (s : State) : State :=
  doAll serveRequest (s.fab.requests.filter fun r => r.dst == dst && p r) s

/-- An island that can serve serves what its crossings hold, and a DRAM channel what waits on it. -/
def serveIsland (dst : Island) (s : State) : State :=
  let s := serveHeld dst (fun _ => true) s
  match dst with
  | .dram n => dramServe n s
  | .host _ | .accession | .wing _ | .gallery _ | .keeper | .registrar | .catalogue | .compress _ | .security | .alwaysOn => s

/-- After a low-power state has been left, every island serves what was held for it (R24). -/
def serveWoken (before t : State) : State :=
  if before.pwr.ps ≥ 3 ∧ t.pwr.ps < 3 then
    doAll (fun i s => if islandRefuses s i then s else serveIsland i s) (presentIslands t) t
  else t

/-- What a requester gets from a page read. -/
def answerRead (who : Requester) (r : Nat × Word × State) : State :=
  let (code, v, s) := r
  if code ≠ 0 then refuseRead who code s
  else
    match who with
    | .host _ => emit (.hostRead v.toNat) s
    | .keeper _ | .docent _ _ | .engine _ => emit (.coreRead v.toNat) s

/-- What a requester gets from a page write. -/
def answerWrite (who : Requester) (r : Nat × State) : State := if r.1 ≠ 0 then refuseWrite who r.1 r.2 else r.2

/-- The island that serves an offset of a page: the header mirror stands in ALWAYS-ON (R48). -/
def servingIsland (page off : Nat) : Option Island := if off < 0x40 then (pageIsland page).map fun _ => .alwaysOn else pageIsland page

/-- A page access on its way: one that a closed window does not end is held while its island sleeps (R24), and comes after what its
requester's island sent before (R23). -/
def sendAccess (who : Requester) (page off : Nat) (op : CrossOp) (f : State → State) (s : State) : State :=
  match servingIsland page off with
  | none => f s
  | some i =>
    if (shutPort s who page (!op.isRead)).isSome then f s
    else if heldBy s i off then holdAccess who i op s
    else f (serveEarlier who.island i s)

/-- A requester reads a register: held while the island sleeps (R24), else answered. -/
def readRegister (who : Requester) (page off width : Nat) (s : State) : State :=
  sendAccess who page off (.pageRead page off width) (fun s => answerRead who (pageRead .served who page off width s)) s

/-- A requester writes a register. -/
def writeRegister (who : Requester) (page off width : Nat) (v : Word) (s : State) : State :=
  sendAccess who page off (.pageWrite page off width v) (fun s => answerWrite who (pageWrite .served who page off width v s)) s

/-- A write of `v` to a register with behaviour `f`: discarded where the window is closed (R62), held while the island sleeps (R24),
refused with the not-ready error while the unit takes no work (R25), without effect from a writer that may write no field (R8),
else the behaviour. -/
def keeperWrite (who : Requester) (page off : Nat) (v : Word) (f : State → State) (s : State) : State :=
  sendAccess who page off (.pageWrite page off 32 v) (fun s =>
    match shutPort s who page true with
    | some p => capture (8 + 4 * p) 6 (pageAddr page off) s
    | none =>
      if regsRefuse s page || quiescing s page then refuseWrite who 2 (capture page 2 (pageAddr page off) s)
      else if who.isKeeper || openReg page off then f s else s) s

end Sys2Proof.Machine
end

