-- ==== Sys2Proof/Machine/Care.lean ====
section
/-! DEFINITION. The meanings of the background-care commands (chapter 07). -/

namespace Sys2Proof.Machine

/-- LATENCY_WINDOW_END (R294). -/
def execLatencyWindowEnd (s : State) : Host.Outcome State Fault Refusal := .next (windowEnd s)

/-- PATROL_VERIFY (R296): the verify goes to its channel. -/
def execPatrolVerify (s : State) : Host.Outcome State Fault Refusal := .next (patrol s)

/-- THRESHOLD_REWRITE (R297, R298). -/
def execThresholdRewrite (set : Nat) (s : State) : Host.Outcome State Fault Refusal := .next (thresholdRewrite set s)

/-- EFFECTIVE_AGE_TICK (R298): `dieTemps` gives, by wing, what the dies report. -/
def execEffectiveAgeTick (dieTemps : List (Nat × Nat)) (s : State) : Host.Outcome State Fault Refusal := .next (ageTick dieTemps s)

/-- BLOCK_GROUP_CALIBRATION (R299). -/
def execBlockGroupCalibration (ch die group : Nat) (s : State) : Host.Outcome State Fault Refusal :=
  .next (calibrate ch die group s)

/-- RETRAIN_TRIGGER (R300). -/
def execRetrainTrigger (dram : Bool) (n : Nat) (s : State) : Host.Outcome State Fault Refusal := .next (retrainTrigger dram n s)

/-- SCHEDULE_RECORD_WRITE (R301). -/
def execScheduleRecordWrite (s : State) : Host.Outcome State Fault Refusal := .next (scheduleWrite s)

/-- SENSOR_INVALID (R303). -/
def execSensorInvalid (n reading : Nat) (s : State) : Host.Outcome State Fault Refusal := .next (sensorInvalid n reading s)

/-- SENSOR_REVALID (R303). -/
def execSensorRevalid (n reading : Nat) (s : State) : Host.Outcome State Fault Refusal := .next (sensorRevalid n reading s)

/-- THERMAL_LOOP_TICK (R306): the readings give, by sensor, temperature and supply. -/
def execThermalLoopTick (readings : List (Nat × Nat × Nat)) (s : State) : Host.Outcome State Fault Refusal := .next (thermalTick readings s)

/-- UTILISATION_DVFS_EVAL (R308). -/
def execUtilisationDvfsEval (busy : List (Nat × Nat)) (s : State) : Host.Outcome State Fault Refusal := .next (dvfsEval busy s)

/-- MONITOR_EVENT_SAMPLE (R309). -/
def execMonitorEventSample (source inst value : Nat) (s : State) : Host.Outcome State Fault Refusal := .next (eventSample source inst value s)

/-- MONITOR_LEVEL_SAMPLE (R309). -/
def execMonitorLevelSample (j : Nat) (s : State) : Host.Outcome State Fault Refusal := .next (levelSample j s)

/-- MON_CLR (R312). -/
def execMonClr (who : Requester) (j : Nat) (s : State) : Host.Outcome State Fault Refusal :=
  .next (if j < 128 then keeperWrite who (monPage j) (monBase j + 0xC) 1 (monClrWrite j 1) s else s)

/-- MONITOR_CONFIG_WRITE (R312): `which` is 0 for MON_CFG, 1 for MON_BIN, 2 for MON_PERIOD. -/
def execMonitorConfigWrite (who : Requester) (j which : Nat) (v : Word) (s : State) : Host.Outcome State Fault Refusal :=
  .next (if j < 128 ∧ which < 3 then keeperWrite who (monPage j) (monBase j + 4 * which) v (monConfigWrite j which v) s else s)

/-- LIFETIME_VALUES_UPDATE (R317). -/
def execLifetimeValuesUpdate (s : State) : Host.Outcome State Fault Refusal := .next (lifetimeUpdate s)

end Sys2Proof.Machine
end

