-- ==== Sys2Proof/Machine/Catalogue.lean ====
section
/-! DEFINITION. The meanings of the Catalogue's keeper commands (chapter 11). -/

namespace Sys2Proof.Machine

/-- CAT_CHAIN_WRITE (R466, R468, R469): defines, enables or disables a chain. -/
def execCatChainWrite (who : Requester) (chain : Nat) (v : Word) (s : State) : Host.Outcome State Fault Refusal :=
  .next (keeperWrite who 201 (0x40 + 4 * chain) v (catChainWrite chain v) s)

/-- The word of a command: go, op and chain (R488). -/
def catWord (op chain : Nat) : Word := word (2 ^ 31 + op % 8 * 2 ^ 24 + chain % 16 * 65536)

/-- CAT_WRITE (R478): the staged entry is written at CAT_IDX. -/
def execCatWrite (who : Requester) (chain : Nat) (s : State) : Host.Outcome State Fault Refusal :=
  .next (keeperWrite who 200 0x44 (catWord 1 chain) (catCommand 1 chain []) s)

/-- CAT_INVALIDATE (R478): the entry at CAT_IDX becomes invalid. -/
def execCatInvalidate (who : Requester) (chain : Nat) (s : State) : Host.Outcome State Fault Refusal :=
  .next (keeperWrite who 200 0x44 (catWord 2 chain) (catCommand 2 chain []) s)

/-- CAT_MOVE (R480): the entry at CAT_IDX moves to CAT_IDX2. -/
def execCatMove (who : Requester) (chain : Nat) (s : State) : Host.Outcome State Fault Refusal :=
  .next (keeperWrite who 200 0x44 (catWord 3 chain) (catCommand 3 chain []) s)

/-- CAT_READ (R478): the entry at CAT_IDX is copied to staging; `failing` names the banks whose row fails parity. -/
def execCatRead (who : Requester) (chain : Nat) (failing : List Nat) (s : State) : Host.Outcome State Fault Refusal :=
  .next (keeperWrite who 200 0x44 (catWord 4 chain) (catCommand 4 chain failing) s)

/-- CAT_KEEPER_SEARCH (R478): the staged value is searched; the RESULT word goes to CAT_CMD_RESULT. -/
def execCatKeeperSearch (who : Requester) (chain : Nat) (s : State) : Host.Outcome State Fault Refusal :=
  .next (keeperWrite who 200 0x44 (catWord 5 chain) (catCommand 5 chain []) s)

/-- CAT_INVALIDATE_TAG (R481): starts to invalidate every entry of a chain that carries the staged tag. -/
def execCatInvalidateTag (who : Requester) (chain : Nat) (s : State) : Host.Outcome State Fault Refusal :=
  .next (keeperWrite who 200 0x44 (catWord 6 chain) (catCommand 6 chain []) s)

/-- CAT_INVALIDATE_TAG_END (R481): the last row is done. -/
def execCatInvalidateTagEnd (s : State) : Host.Outcome State Fault Refusal := .next (catTagEnd s)

/-- CAT_UNDEFINED_OP (R478): op 0 or 7 is refused with result 5. -/
def execCatUndefinedOp (who : Requester) (op chain : Nat) (s : State) : Host.Outcome State Fault Refusal :=
  .next (keeperWrite who 200 0x44 (catWord (if op = 0 then 0 else 7) chain) (catCommand (if op = 0 then 0 else 7) chain []) s)

/-- CAT_SCRUB_TICK (R482): the next row of every bank is read and its parity checked. -/
def execCatScrubTick (failing : List Nat) (s : State) : Host.Outcome State Fault Refusal := .next (catScrub failing s)

end Sys2Proof.Machine
end

