-- ==== Sys2Proof/Machine/Compression.lean ====
section
/-! DEFINITION. The meanings of the compression rings' commands (chapter 08). -/

namespace Sys2Proof.Machine

/-- CMP_RING_TAIL_WRITE (R354). -/
def execCmpRingTailWrite (who : Requester) (island ring : Nat) (v : Word) (s : State) : Host.Outcome State Fault Refusal :=
  .next (keeperWrite who (ringPage island ring) (ringBase ring + 0xC) v (ringTailWrite island ring (bits v 11 0)) s)

/-- CMP_RING_ENABLE (R353): a write of CMP_RING_CFG. -/
def execCmpRingEnable (who : Requester) (island ring : Nat) (v : Word) (s : State) : Host.Outcome State Fault Refusal :=
  .next (keeperWrite who (ringPage island ring) (ringBase ring + 8) v (ringCfgWrite island ring v) s)

/-- CMP_JOB_FETCH (R323). -/
def execCmpJobFetch (island : Nat) (s : State) : Host.Outcome State Fault Refusal := .next (fetchJob island s)

/-- CMP_JOB_COMPRESS (R326). -/
def execCmpJobCompress (job : Nat) (s : State) : Host.Outcome State Fault Refusal := .next (startJob job 1 (runCompression job) s)

/-- CMP_JOB_DECOMPRESS (R331). -/
def execCmpJobDecompress (job : Nat) (s : State) : Host.Outcome State Fault Refusal := .next (startJob job 2 (runDecompression job) s)

/-- CMP_JOB_COMPLETE (R341). -/
def execCmpJobComplete (job : Nat) (s : State) : Host.Outcome State Fault Refusal := .next (endJob job s)

end Sys2Proof.Machine
end

