-- ==== Sys2Proof/Machine/Curator.lean ====
section
/-! DEFINITION. The meanings of the NVM I/O commands and of the Curator's events (chapter 06). -/

namespace Sys2Proof.Machine

/-! ## I/O commands (R139, R234 to R239, R247) -/

/-- READ (R139, R247). -/
def execRead (ref : CmdRef) (lba nlb : Nat) (s : State) : Host.Outcome State Fault Refusal :=
  .next (onCmd ref false [0x02] (fun c s => onNvm c (fun n s => startJobRead c n lba (nlb % 65536 + 1) 0 [] s) s) s)

/-- WRITE (R139, R234, R235). -/
def execWrite (ref : CmdRef) (lba : Nat) (data : List Byte) (s : State) : Host.Outcome State Fault Refusal :=
  .next (onCmd ref false [0x01] (fun c s => onNvm c (fun n s => startWrite c lba data false n s) s) s)

/-- WRITE_CHARGE_ADMIT (R35, R272). -/
def execWriteChargeAdmit (ref : CmdRef) (s : State) : Host.Outcome State Fault Refusal := .next (chargeAdmit ref s)

/-- WRITE_ZEROES (R239): a write of zeros, whole MUs become deallocated. -/
def execWriteZeroes (ref : CmdRef) (lba nlb : Nat) (s : State) : Host.Outcome State Fault Refusal :=
  .next (onCmd ref false [0x08] (fun c s => onNvm c (fun n s => startWrite c lba (zeros ((nlb % 65536 + 1) * blockSize n)) true n s) s) s)

/-- DATASET_MANAGEMENT (R239). -/
def execDatasetManagement (ref : CmdRef) (deallocate : Bool) (ranges : List LbaRange) (s : State) : Host.Outcome State Fault Refusal :=
  .next (onCmd ref false [0x09] (fun c s => onNvm c (fun n s => datasetManage c deallocate ranges n s) s) s)

/-- COMPARE (R139). -/
def execCompare (ref : CmdRef) (lba : Nat) (data : List Byte) (s : State) : Host.Outcome State Fault Refusal :=
  .next (onCmd ref false [0x05] (fun c s => onNvm c (fun n s => startJobRead c n lba (data.length / blockSize n) 1 data s) s) s)

/-- VERIFY (R139). -/
def execVerify (ref : CmdRef) (lba nlb : Nat) (s : State) : Host.Outcome State Fault Refusal :=
  .next (onCmd ref false [0x0C] (fun c s => onNvm c (fun n s => startJobRead c n lba (nlb % 65536 + 1) 2 [] s) s) s)

/-- FLUSH (R139): a Write that has completed is already safe. -/
def execFlush (ref : CmdRef) (s : State) : Host.Outcome State Fault Refusal :=
  .next (onCmd ref false [0x00] (fun c s => onNvm c (fun _ s => finish c.ref (success 0 0) s) s) s)

/-! ## Events of the write buffer, the packer and the stripe sets -/

/-- MAP_ENTRY_RESTORE (R228). -/
def execMapEntryRestore (gmu : Nat) (bad : List Nat) (s : State) : Host.Outcome State Fault Refusal := .next (restoreEntry gmu bad s)

/-- PARTIAL_MU_FILL (R236). -/
def execPartialMuFill (entry : Nat) (s : State) : Host.Outcome State Fault Refusal := .next (settle (fillEntry entry s))

/-- INLINE_COMPRESS_REQUEST (R238, R322). -/
def execInlineCompressRequest (entry : Nat) (s : State) : Host.Outcome State Fault Refusal := .next (compressRequest entry s)

/-- INLINE_COMPRESS_DONE (R238, R325). -/
def execInlineCompressDone (entry : Nat) (s : State) : Host.Outcome State Fault Refusal := .next (settle (compressDone entry s))

/-- INLINE_DECOMPRESS_REQUEST (R347, R348). -/
def execInlineDecompressRequest (ref : CmdRef) (mu : Nat) (s : State) : Host.Outcome State Fault Refusal := .next (decompressMu ref mu s)

/-- PAGE_FILL_TIMEOUT (R241): CUR_PACK_TMO after its first MU was placed, a page is programmed as it is. -/
def execPageFillTimeout (page : Nat) (s : State) : Host.Outcome State Fault Refusal :=
  match pack s page with
  | none => .next s
  | some x =>
    let s := advanceTo (x.since + 1000 * regField s (curPage x.wing) 0x5C 15 0) s
    .next (settle (sendDue (setPack page (fun p => { p with due := true }) s)))

/-- PAGE_PROGRAMMED (R242, R248): the reads that wait for its MUs go on. -/
def execPageProgrammed (page : Nat) (s : State) : Host.Outcome State Fault Refusal :=
  let gmus := ((pack s page).map fun x => x.placed.filterMap fun (q : Nat × Nat) => (wb s q.1).map fun e => e.gmu).getD []
  .next (settle (doAll retryReads gmus (pageProgrammed page s)))

/-- PARITY_PROGRAMMED (R242). -/
def execParityProgrammed (set row : Nat) (s : State) : Host.Outcome State Fault Refusal := .next (settle (parityProgrammed set row s))

/-- STRIPE_SET_OPEN (R250, R251, R256): pages that wait for a set go to their channels. -/
def execStripeSetOpen (wing : Nat) (stream : CurStream) (s : State) : Host.Outcome State Fault Refusal :=
  .next (settle (sendDue (openSet wing stream s)))

/-- PARITY_RELEASE (R253). -/
def execParityRelease (set : Nat) (s : State) : Host.Outcome State Fault Refusal := .next (settle (releaseParity set s))

/-- GARBAGE_COLLECTION_START (R257). -/
def execGarbageCollectionStart (wing : Nat) (s : State) : Host.Outcome State Fault Refusal := .next (startGc wing s)

/-- RELOCATION (R246, R254, R259). -/
def execRelocation (gmu : Nat) (s : State) : Host.Outcome State Fault Refusal := .next (settle (startReloc 1 gmu s))

/-- STRIPE_SET_FREE (R261). -/
def execStripeSetFree (set : Nat) (s : State) : Host.Outcome State Fault Refusal := .next (settle (freeSet set s))

/-- BLOCK_DEACCESSION (R263 to R266, R268). -/
def execBlockDeaccession (psa reason : Nat) (s : State) : Host.Outcome State Fault Refusal := .next (deaccession psa reason s)

/-! ## Journal, recovery and hold-up -/

/-- JOURNAL_PAGE_DURABLE (R280, R282): it waits for the record of a new fence (R212). -/
def execJournalPageDurable (s : State) : Host.Outcome State Fault Refusal := .next (if fenceUndurable s then s else settle (journalDurable s))

/-- JOURNAL_ADVANCE (R282): it waits for the record of a new fence, as its copies name changed entries (R212). -/
def execJournalAdvance (s : State) : Host.Outcome State Fault Refusal := .next (if fenceUndurable s then s else settle (journalAdvance s))

/-- ROOT_RECORD_WRITE (R279). -/
def execRootRecordWrite (s : State) : Host.Outcome State Fault Refusal := .next (settle (rootWrite s))

/-- RECOVERY (R282 to R286). -/
def execRecovery (bad : List Nat) (s : State) : Host.Outcome State Fault Refusal := .next (recover bad s)

/-- DUMP_CONSUMED (R285). -/
def execDumpConsumed (s : State) : Host.Outcome State Fault Refusal := .next (dumpConsumed s)

/-- PFAIL_ASSERT (R203, R275, R626). -/
def execPfailAssert (lowNs : Nat) (s : State) : Host.Outcome State Fault Refusal := .next (pfailLow lowNs s)

/-- DUMP_DIE_CUTOFF (R204). -/
def execDumpDieCutoff (notReady : List (Nat × Nat)) (s : State) : Host.Outcome State Fault Refusal := .next (dumpCutoff notReady s)

/-- DUMP_END (R275 to R278). -/
def execDumpEnd (s : State) : Host.Outcome State Fault Refusal := .next (dumpEnds s)

/-- HOLDUP_MEASURE (R270). -/
def execHoldupMeasure (s : State) : Host.Outcome State Fault Refusal := .next (startMeasure s)

/-- HOLDUP_MEASURE_END (R270 to R273). -/
def execHoldupMeasureEnd (before after : Nat) (s : State) : Host.Outcome State Fault Refusal := .next (endMeasure before after s)

/-- BANK_CHARGED (R270). -/
def execBankCharged (s : State) : Host.Outcome State Fault Refusal := .next (bankCharged s)

/-- BANK_CHARGE_TIMEOUT (R273). -/
def execBankChargeTimeout (s : State) : Host.Outcome State Fault Refusal := .next (bankTimeout s)

end Sys2Proof.Machine
end

