-- ==== Sys2Proof/Machine/Dram.lean ====
section
/-! DEFINITION. The meanings of the DRAM commands (chapter 12). -/

namespace Sys2Proof.Machine

/-- DRAM_ACCESS (R497): a client's request reaches its channel behind those that wait, and the channel serves what it can. A
request that a low-power state holds raises the island's wake event (R24). -/
def execDramAccess (client : DramClient) (addr : Nat) (op : DramOp) (symbols : Nat) (s : State) : Host.Outcome State Fault Refusal :=
  .next (dramRequest { client := client, addr := addr, op := op, symbols := symbols } s)

/-- REFRESH_DUE (R503): a refresh falls due on a rank; it is issued unless a real-time burst uses the rank. -/
def execRefreshDue (n rank : Nat) (s : State) : Host.Outcome State Fault Refusal :=
  let c := drc s n
  if c.state = 0 ∨ c.state = 1 ∨ c.state = 5 then .next s
  else
    let (d, s1) := settleDebt n rank (debtOf c rank + 1) s
    .next (setDebt n rank d (noteRefresh n rank (debtOf c rank + 1) d s1))

/-- REFRESH_RATE_POLL (R505): the rate indication of a rank is read; a change recounts the debt in time. -/
def execRefreshRatePoll (n rank ind : Nat) (s : State) : Host.Outcome State Fault Refusal :=
  let c := drc s n
  let old := indOf c rank
  if c.state = 5 ∨ ind = old then .next s
  else
    let d := debtOf c rank
    let d := if old = 0 then 2 * d else if ind = 0 then (d + 1) / 2 else d
    let s1 := raiseIrq (drcPage n) 0x100 (setInd n rank ind s)
    let s2 := if ind = 2 then capture (drcPage n) 0x25 (pageAddr (drcPage n) 0x44) s1 else s1
    let (d', s3) := if rtActive s c rank then settleDebt n rank d s2 else (d, s2)
    .next (setDebt n rank d' (noteRefresh n rank d d' s3))

/-- CA_PARITY_ALERT (R508, R509): the commands in the retry buffer are replayed; after three replays of a command that all
fail, the channel is held for command/address retraining. -/
def execCaParityAlert (n : Nat) (s : State) : Host.Outcome State Fault Refusal :=
  let c := drc s n
  if c.state < 2 ∨ c.state = 6 then .next s
  else if c.replays ≥ 3 then .next (setDrc n (fun c => { c with caRetrain := true }) s)
  else .next (bumpReg (drcPage n) 0x60 1 (setDrc n (fun c => { c with replays := c.replays + 1 }) s))

/-- CA_RETRAIN_END (R509): one more replay; if it fails too the channel enters the failed state. -/
def execCaRetrainEnd (n : Nat) (ok : Bool) (s : State) : Host.Outcome State Fault Refusal :=
  if !(drc s n).caRetrain then .next s
  else
    let s1 := bumpReg (drcPage n) 0x60 1 (setDrc n (fun c => { c with caRetrain := false, replays := 0 }) s)
    if ok then .next (dramServe n s1)
    else .next (dramServe n (capture (drcPage n) 0x22 (pageAddr (drcPage n) 0x44) (raiseIrq (drcPage n) 0x800
      (setDrc n (fun c => { c with state := 6 }) s1))))

/-- DRAM_SCRUB_READ (R513): the patrol scrub reads the next burst and writes a corrected one back. -/
def execDramScrubRead (n symbols : Nat) (s : State) : Host.Outcome State Fault Refusal :=
  let c := drc s n
  let a := dramGlobal s n (c.scrubAt * 64)
  if regField s (drcPage n) 0x4C 15 0 = 0 ∨ s.dram.stopped ∨ !drcTrained c ∨ c.state = 5
      ∨ dramHolds { client := .scrub, addr := a, op := .read 64, symbols := symbols } s ∨ channelBytes s = 0 then .next s
  else
    let (_, _, s1) := readBurst a 64 symbols s
    .next (setDrc n (fun c => { c with scrubAt := (c.scrubAt + 1) % (channelBytes s / 64) }) s1)

/-- Time and temperature of a DRAM channel's training enter the schedule (R300). -/
def dramTrainedNow (n : Nat) (s : State) (x : Schedule) : Schedule :=
  { x with trainTimes := Tab.set x.trainTimes n s.tsc, trainTemps := Tab.set x.trainTemps n (Tab.getD s.care.sensors (32 + n) {}).temp }

/-- DRAM_TRAINING_END (R491, R514): a channel's training ends. A third failure, or devices that disagree with the boot image's
declaration, leave it untrained; a trained channel awaits or starts its zeroing (R516). -/
def execDramTrainingEnd (n : Nat) (found : DramFound) (s : State) : Host.Outcome State Fault Refusal :=
  let c := drc s n
  if c.state ≠ 1 then .next s
  else if !found.ok then
    if c.fails + 1 ≥ 3 then
      .next (capture (drcPage n) 0x20 (pageAddr (drcPage n) 0x44) (setDrc n (fun c => { c with fails := c.fails + 1, state := 0 }) s))
    else .next (setDrc n (fun c => { c with fails := c.fails + 1 }) s)
  else if found.width ≠ s.boot.dramWidth ∨ found.density ≠ s.boot.dramDensity ∨ found.ranks ≠ s.boot.dramRanks
      ∨ rankGiB found.width found.density = 0 then
    .next (capture (drcPage n) 0x21 (pageAddr (drcPage n) 0x40) (setDrc n (fun c => { c with state := 0 }) s))
  else
    let s1 := setDrc n (fun c => { c with
      state := 2, rate := s.boot.dramRate, rowBits := rowBitsOf found.width found.density,
      ranks := found.ranks, density := found.density, width := found.width })
      { s with care := { s.care with live := dramTrainedNow n s s.care.live } }
    .next (if c.heldGo then startZeroing n s1 else s1)

/-- DRC_RETRAIN (R8, R515): a write of 1 to go sets the bit and starts a retraining slice; ignored while one runs. -/
def execDrcRetrain (who : Requester) (n : Nat) (s : State) : Host.Outcome State Fault Refusal :=
  .next (keeperWrite who (drcPage n) 0x54 1 (startSlice n) s)

/-- A slice ends: it counts in log 0xC6, sets the channel's training time and raises retrain_done (R515, R300). -/
def endSlice (n : Nat) (s : State) : State :=
  let s := setDrc n (fun c => { c with slice := none, retrainGo := false, state := servingState c }) s
  raiseIrq (drcPage n) 0x2000 { s with care := { s.care with
    counts := { s.care.counts with dramRetrains := s.care.counts.dramRetrains + 1 },
    live := dramTrainedNow n s s.care.live } }

/-- RETRAIN_STEP (R515): a step of a slice. None starts while a real-time burst uses the rank or after a power failure (R522);
a step that fails keeps the previous setting, captures 0x20 and ends the slice. -/
def execRetrainStep (n : Nat) (ok : Bool) (s : State) : Host.Outcome State Fault Refusal :=
  let c := drc s n
  match c.slice with
  | none => .next s
  | some k =>
    if s.dram.stopped || rtActive s c 0 || rtActive s c 1 || justRefreshed s c then .next s
    else if !ok then .next (endSlice n (capture (drcPage n) 0x20 (pageAddr (drcPage n) 0x54) s))
    else if k ≤ 1 then .next (endSlice n s)
    else .next (setDrc n (fun c => { c with slice := some (k - 1) }) s)

/-- DRC_INIT_SKIP as a command. -/
def execDrcInitSkip (who : Requester) (n : Nat) (v : Word) (s : State) : Host.Outcome State Fault Refusal :=
  .next (keeperWrite who (drcPage n) 0x68 v (fun s => writeInitSkip n (takenWord who (drcPage n) 0x68 v s) s) s)

/-- DRAM_INIT_DONE (R516): the frontier reaches the channel's end. -/
def execDramInitDone (n : Nat) (s : State) : Host.Outcome State Fault Refusal :=
  let c := drc s n
  if !c.zeroing || c.initDone || s.dram.stopped then .next s
  else .next (dramServe n (raiseIrq (drcPage n) 0x1000 (setDrc n (fun c => { c with
    frontier := channelBytes s / 64, initDone := true,
    state := if c.state = 2 then 3 else c.state }) s)))

/-- RANKPWR_ENABLE (R518): RANKPWR_EN[k] goes high; it switches rank 1 of channels 2k and 2k + 1. -/
def execRankpwrEnable (k : Nat) (s : State) : Host.Outcome State Fault Refusal :=
  if decide (k < 4) && decide (2 * k < (variant s).dram) then
    let on (n : Nat) := setDrc n (fun c => { c with rank1Power := true })
    .next (on (2 * k) (on (2 * k + 1) { s with pwr := { s.pwr with rankPower := s.pwr.rankPower.set k true } }))
  else .next s

end Sys2Proof.Machine
end

