-- ==== Sys2Proof/Machine/Flash.lean ====
section
/-! DEFINITION. The meanings of the flash channel and wing commands (chapter 05). -/

namespace Sys2Proof.Machine

/-- WING_DISCOVERY (R184, R221): a write of 1 to WNG_CTRL.discover. -/
def execWingDiscovery (who : Requester) (wing : Nat) (answers : List DieAnswer) (s : State) : Host.Outcome State Fault Refusal :=
  .next (keeperWrite who (32 + wing) 0x40 1 (fun s => formatDone (startDiscovery wing answers s)) s)

/-- REFERENCE_GEOMETRY_FOUND (R186). -/
def execReferenceGeometryFound (s : State) : Host.Outcome State Fault Refusal := .next (formatDone (referenceFound s))

/-- CHANNEL_TRAINING_DONE (R182, R183, R216). -/
def execChannelTrainingDone (ch : Nat) (ok : Bool) (s : State) : Host.Outcome State Fault Refusal := .next (formatDone (settle (trainingDone ch ok s)))

/-- CHANNEL_RETRAIN (R182, R219): FCH_CFG with its rate cap kept and retrain set. -/
def execChannelRetrain (who : Requester) (ch : Nat) (s : State) : Host.Outcome State Fault Refusal :=
  .next (keeperWrite who (fchPage ch) 0x40 (putBits (getReg s (fchPage ch) 0x40) 8 8 1) (fchCfgWrite ch (putBits (getReg s (fchPage ch) 0x40) 8 8 1)) s)

/-- CHANNEL_OPERATION_SUBMIT (R188, R189, R202, R206): a descriptor of the keepers or of the data mover. -/
def execChannelOperationSubmit (ch : Nat) (d : ChanDesc) (data oob : List Byte) (s : State) : Host.Outcome State Fault Refusal :=
  .next (if islandRefuses s (.wing (ch / 12)) then emit (.errorResponse 2) (capture (32 + ch / 12) 2 (pageAddr (32 + ch / 12) 0) s)
         else submitOp ch { desc := d, origin := .keeper, data := data, oob := oob } s)

/-- CHANNEL_OPERATION_START (R190, R192, R534, R535). -/
def execChannelOperationStart (ch : Nat) (s : State) : Host.Outcome State Fault Refusal := .next (settle (startNext ch s))

/-- FLASH_READ (R194 to R196). -/
def execFlashRead (ch die : Nat) (codewords : List Decode) (s : State) : Host.Outcome State Fault Refusal :=
  .next (readOutcome ch die codewords s)

/-- FLASH_VERIFY (R200, R201). -/
def execFlashVerify (ch die : Nat) (codewords : List Decode) (s : State) : Host.Outcome State Fault Refusal :=
  .next (verifyOutcome ch die codewords s)

/-- FLASH_PROGRAM (R188, R194, R208, R243, R244). -/
def execFlashProgram (ch die : Nat) (ok : Bool) (ns : Nat) (s : State) : Host.Outcome State Fault Refusal := .next (programOutcome ch die ok ns s)

/-- FLASH_ERASE (R188, R208). -/
def execFlashErase (ch die : Nat) (ok : Bool) (ns : Nat) (s : State) : Host.Outcome State Fault Refusal := .next (eraseOutcome ch die ok ns s)

/-- FLASH_READ_STATUS (R189, R191). -/
def execFlashReadStatus (ch die : Nat) (statusByte : Byte) (s : State) : Host.Outcome State Fault Refusal :=
  .next (readStatus ch die statusByte s)

/-- DIE_OPERATION_END (R191): the record is written, and its requester takes it. -/
def execDieOperationEnd (ch die : Nat) (s : State) : Host.Outcome State Fault Refusal := .next (settle (endDieOp ch die s))

/-- BUFFER_SLOT_RELEASE (R193). -/
def execBufferSlotRelease (ch tag : Nat) (s : State) : Host.Outcome State Fault Refusal := .next (releaseSlots ch tag s)

/-- OPERATION_RESUME (R202). -/
def execOperationResume (ch die : Nat) (s : State) : Host.Outcome State Fault Refusal := .next (resumeOp ch die s)

/-- DIE_BUSY_TIMEOUT (R204, R208). -/
def execDieBusyTimeout (ch die : Nat) (s : State) : Host.Outcome State Fault Refusal := .next (settle (busyTimeout ch die s))

/-- RESET_LUN_COMPLETE (R208, R218): the third within 3,600 s fences the die with reason 1. -/
def execResetLunComplete (ch die : Nat) (s : State) : Host.Outcome State Fault Refusal :=
  let (third, s) := resetLunDone ch die s
  .next (if third then fenceDie ch die 1 s else s)

/-- DIE_RESET_TIMEOUT (R208): the die is still busy 10 ms after RESET LUN. -/
def execDieResetTimeout (ch die : Nat) (s : State) : Host.Outcome State Fault Refusal :=
  match (chan s ch).queue.find? fun o => o.resetAt.isSome && o.desc.dieNo == die with
  | none => .next s
  | some o => .next (if s.pwr.pfailN then fenceDie ch die 1 (advanceTo ((o.resetAt.getD 0) + 10000000) s) else s)

/-- KEEPER_DIE_CHECK (R208, R209). -/
def execKeeperDieCheck (ch die : Nat) (readable : Bool) (failedPages : List Nat) (s : State) : Host.Outcome State Fault Refusal :=
  .next (keeperCheck ch die readable failedPages s)

/-- FENCE_RECORD_DURABLE (R212, R217). -/
def execFenceRecordDurable (ch die : Nat) (s : State) : Host.Outcome State Fault Refusal :=
  .next (setFence ch die (fun e => { e with durable := true }) s)

/-- FENCED_DIE_RESPONSE (R210, R211). -/
def execFencedDieResponse (ch die : Nat) (s : State) : Host.Outcome State Fault Refusal := .next (fencedResponse ch die s)

/-- The word of a die command: go, cmd, die and reason (R219). -/
def dieCommand (cmd die reason : Nat) : Word := word (2 ^ 31 + reason % 256 * 65536 + cmd * 256 + die % 16)

/-- DIE_FENCE (R208, R219): command 1. -/
def execDieFence (who : Requester) (ch die : Nat) (s : State) : Host.Outcome State Fault Refusal :=
  .next (keeperWrite who (fchPage ch) 0x50 (dieCommand 1 die 0) (dieCtrlWrite ch (dieCommand 1 die 0)) s)

/-- DIE_QUALIFY (R213, R219): command 2. -/
def execDieQualify (who : Requester) (ch die : Nat) (s : State) : Host.Outcome State Fault Refusal :=
  .next (keeperWrite who (fchPage ch) 0x50 (dieCommand 2 die 0) (dieCtrlWrite ch (dieCommand 2 die 0)) s)

/-- DIE_QUALIFY_END (R213). -/
def execDieQualifyEnd (ch : Nat) (test : DieTest) (s : State) : Host.Outcome State Fault Refusal := .next (qualifyEnd ch test s)

/-- CHANNEL_QUALIFY (R216, R219): command 3. -/
def execChannelQualify (who : Requester) (ch : Nat) (s : State) : Host.Outcome State Fault Refusal :=
  .next (keeperWrite who (fchPage ch) 0x50 (dieCommand 3 0 0) (dieCtrlWrite ch (dieCommand 3 0 0)) s)

/-- DIE_RESTORE_FENCE (R212, R219): command 4. -/
def execDieRestoreFence (who : Requester) (ch die reason : Nat) (s : State) : Host.Outcome State Fault Refusal :=
  .next (keeperWrite who (fchPage ch) 0x50 (dieCommand 4 die reason) (dieCtrlWrite ch (dieCommand 4 die reason)) s)

end Sys2Proof.Machine
end

