-- ==== Sys2Proof/Machine/Operands.lean ====
section
/-! DEFINITION. Instructions of the cores: the fields they accept, effective addresses, the memory of gallery and keeper mode, faults, and the frame in which every instruction runs (R365 to R371, R395 to R408). -/

namespace Sys2Proof.Machine

/-! ## Encoding (R365, R366) -/

/-- The fields an instruction accepts (R372). -/
structure Accepts where
  sz : Bool := false
  base : Bool := false
  sh : Bool := false
  s : Bool := false
  m : Bool := false
  f : Bool := false
  sat : Bool := false
  onlyS : Bool := false
deriving DecidableEq, Repr

/-- The modifiers of a word. -/
def Fields.shape (w : Fields) : Nat := w.mods.toNat / 16
def Fields.s (w : Fields) : Bool := w.mods.getLsbD 3
def Fields.m (w : Fields) : Bool := w.mods.getLsbD 2
def Fields.f (w : Fields) : Bool := w.mods.getLsbD 1
def Fields.sat (w : Fields) : Bool := w.mods.getLsbD 0

/-- The lane width, and the lanes of the shape. -/
def Fields.width (w : Fields) : Nat := laneWidth w.sz
def Fields.lanes (w : Fields) : List Nat := shapeLanes w.shape (laneCount w.width)

/-- The condition code of BR. -/
def Fields.cond (w : Fields) : Nat := w.mods.toNat / 4

/-- A field that is not accepted is zero, and a required shape is S (R366). -/
def Accepts.ok (a : Accepts) (w : Fields) : Bool :=
  (a.sz || w.sz == 0) && (a.base || w.base == 0) && (a.sh || w.shape == 0) && (a.s || !w.s) && (a.m || !w.m)
    && (a.f || !w.f) && (a.sat || !w.sat) && (!a.onlyS || w.shape == 3)

/-- The word of an instruction (R365). -/
def instrWord (op : Nat) (w : Fields) : Nat :=
  op * 2 ^ 26 + w.sz.toNat * 2 ^ 24 + w.base.toNat * 2 ^ 22 + w.mods.toNat * 2 ^ 16 + w.disp.toNat

/-! ## Addresses (R358, R367) -/

/-- The width of X, Y, G, LK and PC. -/
def CoreId.addrBits (c : CoreId) : Nat := if c.isKeeper then 48 else 32

/-- A number at the width of X. -/
def CoreId.addr (c : CoreId) (n : Nat) : BitVec 48 := BitVec.ofNat 48 (n % 2 ^ c.addrBits)

/-- A register plus a signed offset, modulo the width of X. -/
def CoreId.offset (c : CoreId) (b : BitVec 48) (d : Int) : BitVec 48 := c.addr (((b.toNat : Int) + d) % (2 ^ c.addrBits : Int)).toNat

/-- The base that the base field names. -/
def baseOf (x : Core) (b : BitVec 2) : BitVec 48 := if b = 0 then 0 else if b = 1 then x.x else if b = 2 then x.y else x.g

/-- The effective address. -/
def effAddr (c : CoreId) (x : Core) (w : Fields) : Nat := (c.offset (baseOf x w.base) w.disp.toInt).toNat

/-- The target of a branch, and the address of the next instruction. -/
def branchTarget (c : CoreId) (x : Core) (w : Fields) : BitVec 48 := c.offset x.pc (4 * w.disp.toInt)
def nextPc (c : CoreId) (x : Core) : BitVec 48 := c.offset x.pc 4

/-- Bytes of an index load (R368). -/
def CoreId.indexBytes (c : CoreId) : Nat := if c.isKeeper then 8 else 4

/-! ## Loads and stores -/

/-- What a load brings: bytes and extra cycles, a fault with its sub-code, or a stall. -/
inductive LoadRes where
  | got (bytes : List Byte) (extra : Nat) (s : State)
  | fault (code sub : Nat) (s : State)
  | stall (s : State)
deriving DecidableEq, Repr

/-- What a store does: done, or a fault. -/
inductive StoreRes where
  | done (s : State)
  | fault (code sub : Nat) (s : State)
deriving DecidableEq, Repr

/-- The regions of gallery mode (R369). -/
inductive Region where
  | localMem (off : Nat) | shared (off : Nat) | window (off : Nat) | windowCtl (off : Nat) | port (off : Nat) | mailbox (off : Nat) | none
deriving DecidableEq, Repr

/-- The region of an access. -/
def regionOf (a len : Nat) : Region :=
  if a + len ≤ 0x10000 then .localMem a
  else if 0x100000 ≤ a ∧ a + len ≤ 0x300000 then .shared (a - 0x100000)
  else if 0x400000 ≤ a ∧ a + len ≤ 0x480000 then .window (a - 0x400000)
  else if 0x480000 ≤ a ∧ a + len ≤ 0x480080 then .windowCtl (a - 0x480000)
  else if 0x600000 ≤ a ∧ a + len ≤ 0x600100 then .port (a - 0x600000)
  else if 0x700000 ≤ a ∧ a + len ≤ 0x702000 then .mailbox (a - 0x700000)
  else .none

/-- A read of window space (R388, R390). -/
def windowLoad (g k off len : Nat) (s : State) : LoadRes :=
  let x := window s g (off / 0x10000)
  let h := x.half (off / 0x8000 % 2)
  let o := off % 0x8000
  if h.holder ≠ some k then .fault 0x06 0 s
  else if h.err then .fault 0x07 0 s
  else if h.data.length < o + len then .fault 0x06 0 s
  else .got (sliceBytes h.data o len) 1 (doAll (fun _ s => pmcEvent (.docent g k) 0x0B s) (upTo len) s)

/-- A read of the window control (R386, R387). Accesses other than of one word are taken as unmapped (log 41). -/
def windowCtlLoad (g k off len : Nat) (s : State) : LoadRes :=
  if len ≠ 4 then .fault 0x04 0 s
  else if off % 16 = 0 then
    match winClaim g k (off / 16) s with
    | (some v, s) => .got (leBytes 4 v.toNat) 2 s
    | (none, s) => .stall s
  else if off % 16 = 8 then .got (leBytes 4 (winStat (window s g (off / 16))).toNat) 2 s
  else .got (zeros 4) 2 s

/-- A read of the search port (R391, R392). -/
def portLoad (g k off len : Nat) (s : State) : LoadRes :=
  let x := getCore s (.docent g k)
  if off + len ≤ 0x48 ∨ (off = 0x80 ∧ len = 4) then .got (zeros len) 0 s
  else if off = 0x84 ∧ len = 4 then
    match x.searching, x.result with
    | some _, _ => .stall s
    | none, some r => .got (leBytes 4 r.toNat) 0 s
    | none, none => .fault 0x0A 0 s
  else .fault 0x04 0 s

/-- A read of the mailbox region (R581). -/
def mailboxLoad (g k off len : Nat) (s : State) : LoadRes :=
  let n := off / 16
  if off % 16 = 0 ∧ len = 4 then .got (leBytes 4 (mbxStat s n).toNat) 0 s
  else if off % 16 = 4 ∧ len = 4 then .got (leBytes 4 (getCore s (.docent g k)).postResult.toNat) 0 s
  else if off % 16 = 8 ∧ len = 8 then
    let (v, s) := coreTake (.docent g k) n s
    .got (leBytes 8 v) 0 s
  else .fault 0x04 0 s

/-- A load in gallery mode. -/
def galleryLoad (g k a len : Nat) (s : State) : LoadRes :=
  match regionOf a len with
  | .localMem o => .got (readMem s (docentLocalBase g k + o) len) 0 (pmcEvent (.docent g k) 0x03 s)
  | .shared o => .got (readMem s (galleryShareBase g + o) len) 5 (pmcEvent (.docent g k) 0x04 s)
  | .window o => windowLoad g k o len s
  | .windowCtl o => windowCtlLoad g k o len s
  | .port o => portLoad g k o len s
  | .mailbox o => mailboxLoad g k o len s
  | .none => .fault 0x04 0 s

/-- A write of WIN_RELEASE (R389). -/
def windowRelease (g k w : Nat) (v : Word) (s : State) : StoreRes :=
  if v &&& 0xFFFEFFFF ≠ 0 ∨ ((window s g w).half (bits v 16 16)).holder ≠ some k then .fault 0x06 0 s
  else .done (releaseHalf g w (bits v 16 16) s)

/-- A write of the window control. One to the reserved word is ignored (log 41). -/
def windowCtlStore (g k off : Nat) (bs : List Byte) (s : State) : StoreRes :=
  if bs.length ≠ 4 then .fault 0x04 0 s
  else if off % 16 = 4 then windowRelease g k (off / 16) (word (ofLe bs)) s
  else if off % 16 = 12 then .done s
  else .fault 0x05 0 s

/-- The domain of the ticket a core serves (R475). -/
def servedDomain (s : State) (g k : Nat) : Option Nat :=
  match (getCore s (.docent g k)).serving with
  | none => none
  | some n =>
    match Tab.get? s.rgs.tickets n with
    | none => none
    | some t => if ctxState s t.ctx = 2 ∧ ctxDomain s t.ctx = 0xFF then none else some (ctxDomain s t.ctx)

/-- A SEARCH store starts a search (R391, R392, R473 to R476, R485). -/
def startSearch (g k : Nat) (v : Word) (s : State) : StoreRes :=
  if islandRefuses s .catalogue || (hdr s 200).quiesceReq then .fault 0x08 2 (capture 200 2 (pageAddr 200 0) s)
  else
    let (r, s) := portSearch g v (getCore s (.docent g k)).key.toNat (servedDomain s g k) s
    let s := setCore (.docent g k) (fun c => { c with searching := some r, result := none }) s
    let s := pmcEvent (.docent g k) 0x0D s
    .done (if bit r 31 then pmcEvent (.docent g k) 0x0E s else s)

/-- The key with bytes written from an offset on (R472). -/
def keyWith (key : BitVec 576) (off : Nat) (bs : List Byte) : BitVec 576 :=
  BitVec.ofNat 576 (ofLe (overlay (leBytes 72 key.toNat) off bs))

/-- A write of the search port. -/
def portStore (g k off : Nat) (bs : List Byte) (s : State) : StoreRes :=
  if off + bs.length ≤ 0x48 then .done (setCore (.docent g k) (fun c => { c with key := keyWith c.key off bs }) s)
  else if off = 0x80 ∧ bs.length = 4 then startSearch g k (word (ofLe bs)) s
  else if off = 0x84 ∧ bs.length = 4 then .fault 0x05 0 s
  else .fault 0x04 0 s

/-- A write of the mailbox region (R581). -/
def mailboxStore (g k off : Nat) (bs : List Byte) (s : State) : StoreRes :=
  if off % 16 = 0 ∧ bs.length = 4 then .done (corePost (.docent g k) (off / 16) (word (ofLe bs)) s)
  else if off % 16 = 4 ∧ bs.length = 4 then .done (mbxRecall (.docent g k) (off / 16) s)
  else .fault 0x04 0 s

/-- Writes the bytes of memory whose flag is set. -/
def writeMasked (a : Nat) (bs : List Byte) (en : List Bool) (s : State) : State :=
  doAll (fun p s => if p.2.2 then writeMem (a + p.1) [p.2.1] s else s) ((upTo bs.length).zip (bs.zip en)) s

/-- A store in gallery mode; `en` flags the bytes that are written (R363). A masked store to a register is whole, or none when no
byte is written (DEDUCED, log 41). -/
def galleryStore (g k a : Nat) (bs : List Byte) (en : List Bool) (s : State) : StoreRes :=
  match regionOf a bs.length with
  | .localMem o => .done (writeMasked (docentLocalBase g k + o) bs en (pmcEvent (.docent g k) 0x03 s))
  | .shared o => .done (writeMasked (galleryShareBase g + o) bs en s)
  | .window _ => .fault 0x05 0 s
  | .windowCtl o => if en.any id then windowCtlStore g k o bs s else .done s
  | .port o => if en.any id then portStore g k o bs s else .done s
  | .mailbox o => if en.any id then mailboxStore g k o bs s else .done s
  | .none => .fault 0x04 0 s

/-- The extra cycles of a keeper access (R399). -/
def keeperExtra (k : Nat) : MemPlace → Nat
  | .keeperLocal j _ => if j = k then 0 else 4
  | .keeperShared _ => 4
  | .bootRom _ => 4
  | .dram => 0
  | .docentLocal _ _ _ => 0
  | .galleryShared _ _ => 0
  | .page _ _ => 0
  | .nowhere => 0

/-- A load in keeper mode (R399). -/
def keeperLoad (k a len : Nat) (s : State) : LoadRes :=
  match placeOf a with
  | .keeperLocal j o =>
    .got (readMem s a len) (keeperExtra k (.keeperLocal j o)) (onlyIf (j == k) (pmcEvent (.keeper k) 0x03) (onlyIf (j != k) (pmcEvent (.keeper k) 0x04) s))
  | .keeperShared _ => .got (readMem s a len) 4 (pmcEvent (.keeper k) 0x04 s)
  | .bootRom o => .got ((upTo len).map fun i => Config.bootRom (o + i)) 4 s
  | .dram | .docentLocal _ _ _ | .galleryShared _ _ | .page _ _ | .nowhere => .fault 0x04 0 s

/-- A store in keeper mode. The boot ROM is reached by loads only, so a store there is unmapped (R29, R399). -/
def keeperStore (k a : Nat) (bs : List Byte) (en : List Bool) (s : State) : StoreRes :=
  match placeOf a with
  | .keeperLocal j _ => .done (writeMasked a bs en (onlyIf (j == k) (pmcEvent (.keeper k) 0x03) s))
  | .keeperShared _ => .done (writeMasked a bs en s)
  | .bootRom _ | .dram | .docentLocal _ _ _ | .galleryShared _ _ | .page _ _ | .nowhere => .fault 0x04 0 s

/-- A load of a core, aligned to its width (R368). -/
def coreLoad (c : CoreId) (a len align : Nat) (s : State) : LoadRes :=
  if a % align ≠ 0 then .fault 0x03 0 s
  else
    match c with
    | .docent g k => galleryLoad g k a len s
    | .keeper k => keeperLoad k a len s

/-- A store of a core, aligned to its width (R368). -/
def coreStore (c : CoreId) (a align : Nat) (bs : List Byte) (en : List Bool) (s : State) : StoreRes :=
  if a % align ≠ 0 then .fault 0x03 0 s
  else
    match c with
    | .docent g k => galleryStore g k a bs en s
    | .keeper k => keeperStore k a bs en s

/-- An address where XADD is accepted: local or shared memory of the mode (R384, R399). The extra cycles in shared memory. -/
def xaddPlace (c : CoreId) (a len : Nat) : Option Nat :=
  match c with
  | .docent _ _ =>
    match regionOf a len with
    | .localMem _ => some 0
    | .shared _ => some 6
    | .window _ | .windowCtl _ | .port _ | .mailbox _ | .none => none
  | .keeper k =>
    match placeOf a with
    | .keeperLocal j _ => some (if j = k then 0 else 6)
    | .keeperShared _ => some 6
    | .bootRom _ | .dram | .docentLocal _ _ _ | .galleryShared _ _ | .page _ _ | .nowhere => none

/-! ## Running instructions -/

/-- What an instruction comes to: done with the next PC where it is not the next word, and the cycles it takes; done, with the core
asleep until an event (R408); a fault that changes no state of the core; or a stall. -/
inductive IsaRes where
  | done (s : State) (pc : Option (BitVec 48)) (cost : Nat)
  | sleep (s : State)
  | fault (code sub : Nat) (s : State)
  | stall (s : State)

/-- The core executes instructions: a Docent core that serves a ticket, has no stop and no fence, in a gallery that serves
(R356, R453, R456); a keeper core that runs, in an island that serves, out of WAIT (R408, R413). -/
def coreRuns (s : State) : CoreId → Bool
  | .docent g k =>
    let x := getCore s (.docent g k)
    x.serving.isSome && x.stopAt.isNone && !(gal s g).fenced.contains k && !islandRefuses s (.gallery g) && decide ((isl s (.gallery g)).power = 2)
  | .keeper k =>
    let x := getCore s (.keeper k)
    decide (k < 4) && x.running && !x.halted && !(x.waiting && !keeperEvent s k) && !islandRefuses s .keeper
      && decide ((isl s .keeper).power = 2)

/-- The PC lies in an executable region (R371, R399). One that is no multiple of 4 does not (DEDUCED, log 41). -/
def fetchable (c : CoreId) (pc : BitVec 48) : Bool :=
  pc.toNat % 4 == 0 &&
    match c with
    | .docent _ _ => decide (pc.toNat < 0x10000) || (decide (0x100000 ≤ pc.toNat) && decide (pc.toNat < 0x300000))
    | .keeper _ =>
      match placeOf pc.toNat with
      | .keeperLocal _ _ => true
      | .keeperShared _ => true
      | .bootRom _ => true
      | .dram | .docentLocal _ _ _ | .galleryShared _ _ | .page _ _ | .nowhere => false

/-- A fault in keeper mode: the handler, or a halt on a double fault (R381, R406, R415). -/
def keeperFault (k code ea : Nat) (s : State) : State :=
  let s := pmcEvent (.keeper k) 0x14 s
  let x := (getCore s (.keeper k)).drain
  if x.ecause.getLsbD 31 then
    capture 224 0x20 x.pc.toNat (raiseIrq 224 0x100 (setCore (.keeper k) (fun c => { c.drain with halted := true, running := false, stalled := false }) s))
  else
    setCore (.keeper k) (fun _ => { x with
      epc := x.pc, eaddr := BitVec.ofNat 48 ea, efl := flagsWord x, emask := x.mask, ecause := BitVec.ofNat 32 (2 ^ 31 + code),
      ien := false, pc := BitVec.ofNat 48 (x.vbase.toNat + 0x80), stalled := false, waiting := false }) s

/-- A fault of a core (R396, R397, R406). -/
def coreFault (c : CoreId) (code sub instr ea : Nat) (s : State) : State :=
  match c with
  | .docent g k => docentFault g k code sub instr ea s
  | .keeper k => keeperFault k code ea s

/-- A core counts down retired instructions to its next sample (R590). -/
def sampleCount (s : State) (c : CoreId) (n : Nat) : Nat :=
  match c with
  | .docent g k => if regField s 257 (0x44 + 16 * g) 19 0 ≠ 0 ∧ regBit s 257 (0x40 + 16 * g) k then n - 1 else n
  | .keeper _ => n

/-- An instruction retires. -/
def retire (c : CoreId) (pc : Option (BitVec 48)) (cost : Nat) (s : State) : State :=
  pmcEvent c 0x01 (setCore c (fun x => { x with
    pc := pc.getD (nextPc c x), cycle := x.cycle + cost, stalled := false, waiting := false, sampleLeft := sampleCount s c x.sampleLeft }) s)

/-- An instruction is executed at the PC of a core: its own effect is `body`, which sees the core with every product landed that
is due (R380). Opcodes 0x33 and above are privileged (R357). -/
def runInstr (c : CoreId) (op : Nat) (acc : Accepts) (w : Fields) (body : Core → State → IsaRes) (s : State) : State :=
  if !coreRuns s c then s
  else
    let s := setCore c Core.land s
    let x := getCore s c
    let ea := if acc.base then effAddr c x w else 0
    if !fetchable c x.pc then coreFault c 0x09 0 0 0 s
    else if decide (0x33 ≤ op) && !c.isKeeper then coreFault c 0x02 0 (instrWord op w) ea s
    else if !acc.ok w then coreFault c 0x01 0 (instrWord op w) 0 s
    else
      match body x s with
      | .done t pc cost => retire c pc cost t
      | .sleep t => setCore c (fun x => { x with waiting := true }) (retire c none 1 t)
      | .fault code sub t => coreFault c code sub (instrWord op w) (if code = 1 then 0 else ea) t
      | .stall t => setCore c (fun x => { x with stalled := true }) t

/-- An instruction that only changes its core. -/
def coreOnly (c : CoreId) (cost : Nat) (f : Core → Core) (s : State) : IsaRes := .done (setCore c f s) none cost

/-- Continues with what a load brings. -/
def thenLoad (r : LoadRes) (k : List Byte → Nat → State → IsaRes) : IsaRes :=
  match r with
  | .got bs extra s => k bs extra s
  | .fault code sub s => .fault code sub s
  | .stall s => .stall s

/-- Continues once a store is done. -/
def thenStore (r : StoreRes) (k : State → IsaRes) : IsaRes :=
  match r with
  | .done s => k s
  | .fault code sub s => .fault code sub s

/-- The memory operand of a shape, where it meets A (R361). -/
def withOperand (c : CoreId) (x : Core) (w : Fields) (s : State) (k : BitVec 512 → Nat → State → IsaRes) : IsaRes :=
  let len := shapeBytes w.shape w.width
  thenLoad (coreLoad c (effAddr c x w) len len s) fun bs extra s => k (BitVec.ofNat 512 (ofLe bs <<< shapeShift w.shape)) extra s

end Sys2Proof.Machine
end

