-- ==== Sys2Proof/Machine/Galleries.lean ====
section
/-! DEFINITION. Accesses of Docent cores to window control and the search port, and instruction cache invalidation: their meanings (R371, R386 to R392, R472 to R477). -/

namespace Sys2Proof.Machine

/-- A request of a Docent core reaches its gallery: a fenced core's is dropped at its gate (R458), a core that serves no ticket makes none. -/
def coreRequest (g k : Nat) (f : State → State) (s : State) : State :=
  if coreFenced s (.docent g k) then gateDrop g s else if coreRuns s (.docent g k) then f s else s

/-- What a load of the core brings it; a fault of one whose instruction the command does not name records a free word. -/
def answerLoad (g k ea : Nat) (r : LoadRes) : State :=
  match r with
  | .got bs _ s => emit (.coreRead (ofLe bs)) s
  | .stall s => setCore (.docent g k) (fun x => { x with stalled := true }) s
  | .fault code sub s =>
    let (n, s) := draw s
    docentFault g k code sub (n % 2 ^ 32) ea s

/-- What a store of the core does. -/
def answerStore (g k ea : Nat) (r : StoreRes) : State :=
  match r with
  | .done s => s
  | .fault code sub s =>
    let (n, s) := draw s
    docentFault g k code sub (n % 2 ^ 32) ea s

/-- WIN_CLAIM_READ (R387). -/
def execWinClaimRead (g k w : Nat) (s : State) : Host.Outcome State Fault Refusal :=
  .next (coreRequest g k (fun s => answerLoad g k (0x480000 + 16 * w) (windowCtlLoad g k (16 * w) 4 s)) s)

/-- WIN_RELEASE_WRITE (R389). -/
def execWinReleaseWrite (g k w : Nat) (v : Word) (s : State) : Host.Outcome State Fault Refusal :=
  .next (coreRequest g k (fun s => answerStore g k (0x480004 + 16 * w) (windowRelease g k w v s)) s)

/-- CATALOGUE_KEY_STORE (R391, R472). -/
def execCatalogueKeyStore (g k off : Nat) (bytes : List Byte) (s : State) : Host.Outcome State Fault Refusal :=
  .next (coreRequest g k (fun s =>
    answerStore g k (0x600000 + off) (if off + bytes.length ≤ 0x48 then portStore g k off bytes s else .fault 0x04 0 s)) s)

/-- SEARCH (R391, R392, R473 to R476). -/
def execSearch (g k : Nat) (v : Word) (s : State) : Host.Outcome State Fault Refusal :=
  .next (coreRequest g k (fun s => answerStore g k 0x600080 (startSearch g k v s)) s)

/-- SEARCH_RESULT (R474, R477): the RESULT word arrives at the core's port, and a stall on it ends. -/
def execSearchResult (g k : Nat) (s : State) : Host.Outcome State Fault Refusal :=
  match (getCore s (.docent g k)).searching with
  | none => .next s
  | some r => .next (setCore (.docent g k) (fun x => { x with searching := none, result := some r, stalled := false }) s)

/-- RESULT_READ (R392). -/
def execResultRead (g k : Nat) (s : State) : Host.Outcome State Fault Refusal :=
  .next (coreRequest g k (fun s => answerLoad g k 0x600084 (portLoad g k 0x84 4 s)) s)

/-- DOC_ICACHE_INV (R371, R411). -/
def execDocIcacheInv (who : Requester) (g : Nat) (v : Word) (s : State) : Host.Outcome State Fault Refusal :=
  .next (writeRegister who (208 + g) 0x50 32 v s)

end Sys2Proof.Machine
end

