-- ==== Sys2Proof/Machine/IsaAlu.lean ====
section
/-! DEFINITION. Instructions on the accumulator, the mask and the multiplier: their meanings (R372 to R376, R379 to R381, R384). -/

namespace Sys2Proof.Machine

/-! ## Shared operations -/

/-- Writes lanes of A in the shape, under the mask when m. -/
def putLanes (w : Fields) (f : Nat → Nat) (x : Core) : Core := { x with a := writeLanes x.a x.mask w.m w.width w.lanes f }

/-- Which of C and V an instruction sets beside Z and N. -/
structure CarryFlags where
  c : Bool := true
  v : Bool := true
deriving DecidableEq, Repr

/-- A := A op B in the lanes of the shape; with f, the flags (R364). -/
def alu (fl : CarryFlags) (w : Fields) (b : BitVec 512) (op : Nat → Nat → LaneRes) (x : Core) : Core :=
  let r (j : Nat) := op (laneAt x.a w.width j) (laneAt b w.width j)
  let y := putLanes w (fun j => (r j).val) x
  if !w.f then y
  else
    let y := flagsZN y w.width w.lanes
    let y := if fl.c then flagC (r (w.lanes.headD 0)) y else y
    if fl.v then flagV (r (w.lanes.headD 0)) y else y

/-- A value without carry or overflow. -/
def plainLane (v : Nat) : LaneRes := { val := v, c := false, v := false }

/-- Bits of a mask. -/
def laneMask (lanes : List Nat) (p : Nat → Bool) : BitVec 64 := lanes.foldl (fun acc j => if p j then acc ||| BitVec.ofNat 64 (2 ^ j) else acc) 0

/-- mask := the lanes of the shape where A and M compare true; with m, ANDed with the old bit (R363). -/
def compare (w : Fields) (b : BitVec 512) (p : Nat → Nat → Bool) (x : Core) : Core :=
  { x with mask := laneMask w.lanes fun j => p (laneAt x.a w.width j) (laneAt b w.width j) && (!w.m || x.mask.getLsbD j) }

/-- A[63:0] := a value; the rest is cleared (R376). -/
def putA (v : Nat) (x : Core) : Core := { x with a := BitVec.ofNat 512 (v % 2 ^ 64) }

/-- An instruction that combines A with the memory operand of its shape. -/
def operandOp (c : CoreId) (w : Fields) (f : BitVec 512 → Core → Core) (x : Core) (s : State) : IsaRes :=
  withOperand c x w s fun b extra s => .done (setCore c (f b) s) none (1 + extra)

/-- Flags of bytes that a store writes: under m, those of lanes whose bit is 1 (R363). -/
def storeEnables (w : Fields) (x : Core) : List Bool :=
  w.lanes.flatMap fun j => List.replicate (w.width / 8) (!w.m || x.mask.getLsbD j)

/-- The bytes of A in a shape. -/
def shapeData (w : Fields) (a : BitVec 512) : List Byte := leBytes (shapeBytes w.shape w.width) (a.toNat >>> shapeShift w.shape)

/-- A product in flight is read early: event 0x0A (R587). -/
def earlyRead (c : CoreId) (x : Core) (s : State) : State := onlyIf (!x.products.isEmpty) (pmcEvent c 0x0A) s

/-- The sum of the lanes of the shape, modulo 2^64 (R375). -/
def laneSum (w : Fields) (a : BitVec 512) : Nat := toLane 64 (w.lanes.foldl (fun acc j => acc + laneVal w.width w.s (laneAt a w.width j)) 0)

/-- The number of 1 bits of a mask. -/
def maskCount (m : BitVec 64) : Nat := ((upTo 64).filter fun j => m.getLsbD j).length

/-- The lowest lane below a count whose mask bit is set, else the count. -/
def maskFirst (m : BitVec 64) (n : Nat) : Nat := ((upTo n).find? fun j => m.getLsbD j).getD n

/-! ## Meanings -/

/-- ILL, opcode 0x00: always the invalid-instruction fault (R366). -/
def execOpIll (c : CoreId) (w : Fields) (s : State) : Host.Outcome State Fault Refusal :=
  .next (runInstr c 0x00 {} w (fun _ s => .fault 0x01 0 s) s)

/-- LD: A := M. -/
def execOpLd (c : CoreId) (w : Fields) (s : State) : Host.Outcome State Fault Refusal :=
  .next (runInstr c 0x01 { sz := true, base := true, sh := true, m := true } w
    (operandOp c w fun b => putLanes w (laneAt b w.width)) s)

/-- ST: M := A. -/
def execOpSt (c : CoreId) (w : Fields) (s : State) : Host.Outcome State Fault Refusal :=
  .next (runInstr c 0x02 { sz := true, base := true, sh := true, m := true } w (fun x s =>
    thenStore (coreStore c (effAddr c x w) (shapeBytes w.shape w.width) (shapeData w x.a) (storeEnables w x) s) fun s => .done s none 1) s)

/-- LDI: A := imm (R373). -/
def execOpLdi (c : CoreId) (w : Fields) (s : State) : Host.Outcome State Fault Refusal :=
  .next (runInstr c 0x03 { sz := true, sh := true, s := true, m := true } w
    (fun _ => coreOnly c 1 (putLanes w fun _ => immLane w.width w.s w.disp)) s)

/-- ADD: A := A + M. -/
def execOpAdd (c : CoreId) (w : Fields) (s : State) : Host.Outcome State Fault Refusal :=
  .next (runInstr c 0x04 { sz := true, base := true, sh := true, s := true, m := true, f := true, sat := true } w
    (operandOp c w fun b => alu {} w b (addLane w.width w.s w.sat)) s)

/-- SUB: A := A − M. -/
def execOpSub (c : CoreId) (w : Fields) (s : State) : Host.Outcome State Fault Refusal :=
  .next (runInstr c 0x05 { sz := true, base := true, sh := true, s := true, m := true, f := true, sat := true } w
    (operandOp c w fun b => alu {} w b (subLane w.width w.s w.sat)) s)

/-- RSB: A := M − A. -/
def execOpRsb (c : CoreId) (w : Fields) (s : State) : Host.Outcome State Fault Refusal :=
  .next (runInstr c 0x06 { sz := true, base := true, sh := true, s := true, m := true, f := true, sat := true } w
    (operandOp c w fun b => alu {} w b fun p q => subLane w.width w.s w.sat q p) s)

/-- ADDI: A := A + imm (R373). -/
def execOpAddi (c : CoreId) (w : Fields) (s : State) : Host.Outcome State Fault Refusal :=
  .next (runInstr c 0x07 { sz := true, sh := true, s := true, m := true, f := true, sat := true } w
    (fun _ => coreOnly c 1 (alu {} w 0 fun p _ => addLane w.width w.s w.sat p (immLane w.width w.s w.disp))) s)

/-- AND: A := A and M. -/
def execOpAnd (c : CoreId) (w : Fields) (s : State) : Host.Outcome State Fault Refusal :=
  .next (runInstr c 0x08 { sz := true, base := true, sh := true, m := true, f := true } w
    (operandOp c w fun b => alu { c := false, v := false } w b fun p q => plainLane (p &&& q)) s)

/-- OR: A := A or M. -/
def execOpOr (c : CoreId) (w : Fields) (s : State) : Host.Outcome State Fault Refusal :=
  .next (runInstr c 0x09 { sz := true, base := true, sh := true, m := true, f := true } w
    (operandOp c w fun b => alu { c := false, v := false } w b fun p q => plainLane (p ||| q)) s)

/-- XOR: A := A xor M. -/
def execOpXor (c : CoreId) (w : Fields) (s : State) : Host.Outcome State Fault Refusal :=
  .next (runInstr c 0x0A { sz := true, base := true, sh := true, m := true, f := true } w
    (operandOp c w fun b => alu { c := false, v := false } w b fun p q => plainLane (p ^^^ q)) s)

/-- MIN: A := lesser of A and M. -/
def execOpMin (c : CoreId) (w : Fields) (s : State) : Host.Outcome State Fault Refusal :=
  .next (runInstr c 0x0B { sz := true, base := true, sh := true, s := true, m := true, f := true } w
    (operandOp c w fun b => alu { c := false, v := false } w b fun p q =>
      plainLane (if laneVal w.width w.s q < laneVal w.width w.s p then q else p)) s)

/-- MAX: A := greater of A and M. -/
def execOpMax (c : CoreId) (w : Fields) (s : State) : Host.Outcome State Fault Refusal :=
  .next (runInstr c 0x0C { sz := true, base := true, sh := true, s := true, m := true, f := true } w
    (operandOp c w fun b => alu { c := false, v := false } w b fun p q =>
      plainLane (if laneVal w.width w.s p < laneVal w.width w.s q then q else p)) s)

/-- CMPEQ: mask := (A = M). -/
def execOpCmpeq (c : CoreId) (w : Fields) (s : State) : Host.Outcome State Fault Refusal :=
  .next (runInstr c 0x0D { sz := true, base := true, sh := true, m := true } w
    (operandOp c w fun b => compare w b fun p q => p == q) s)

/-- CMPGT: mask := (A > M). -/
def execOpCmpgt (c : CoreId) (w : Fields) (s : State) : Host.Outcome State Fault Refusal :=
  .next (runInstr c 0x0E { sz := true, base := true, sh := true, s := true, m := true } w
    (operandOp c w fun b => compare w b fun p q => decide (laneVal w.width w.s q < laneVal w.width w.s p)) s)

/-- CMPLT: mask := (A < M). -/
def execOpCmplt (c : CoreId) (w : Fields) (s : State) : Host.Outcome State Fault Refusal :=
  .next (runInstr c 0x0F { sz := true, base := true, sh := true, s := true, m := true } w
    (operandOp c w fun b => compare w b fun p q => decide (laneVal w.width w.s p < laneVal w.width w.s q)) s)

/-- TST: mask := (A and M) ≠ 0. -/
def execOpTst (c : CoreId) (w : Fields) (s : State) : Host.Outcome State Fault Refusal :=
  .next (runInstr c 0x10 { sz := true, base := true, sh := true, m := true } w
    (operandOp c w fun b => compare w b fun p q => p &&& q != 0) s)

/-- SHL (R374). -/
def execOpShl (c : CoreId) (w : Fields) (s : State) : Host.Outcome State Fault Refusal :=
  .next (runInstr c 0x11 { sz := true, sh := true, m := true, f := true } w
    (fun _ => coreOnly c 1 (alu { v := false } w 0 fun p _ => shlLane w.width w.disp.toNat p)) s)

/-- SHR (R374). -/
def execOpShr (c : CoreId) (w : Fields) (s : State) : Host.Outcome State Fault Refusal :=
  .next (runInstr c 0x12 { sz := true, sh := true, s := true, m := true, f := true } w
    (fun _ => coreOnly c 1 (alu { v := false } w 0 fun p _ => shrLane w.width w.s w.disp.toNat p)) s)

/-- SLD: lanes move down by imm (R374). -/
def execOpSld (c : CoreId) (w : Fields) (s : State) : Host.Outcome State Fault Refusal :=
  .next (runInstr c 0x13 { sz := true } w (fun _ => coreOnly c 1 fun x => { x with a := x.a >>> (w.width * w.disp.toNat) }) s)

/-- SLU: lanes move up by imm (R374). -/
def execOpSlu (c : CoreId) (w : Fields) (s : State) : Host.Outcome State Fault Refusal :=
  .next (runInstr c 0x14 { sz := true } w (fun _ => coreOnly c 1 fun x => { x with a := x.a <<< (w.width * w.disp.toNat) }) s)

/-- SEL: lane j := A if mask bit j is 1, else M. -/
def execOpSel (c : CoreId) (w : Fields) (s : State) : Host.Outcome State Fault Refusal :=
  .next (runInstr c 0x15 { sz := true, base := true, sh := true } w
    (operandOp c w fun b x => putLanes w (fun j => if x.mask.getLsbD j then laneAt x.a w.width j else laneAt b w.width j) x) s)

/-- HSUM (R375). -/
def execOpHsum (c : CoreId) (w : Fields) (s : State) : Host.Outcome State Fault Refusal :=
  .next (runInstr c 0x16 { sz := true, sh := true, s := true } w (fun _ => coreOnly c 2 fun x => putA (laneSum w x.a) x) s)

/-- ABS. -/
def execOpAbs (c : CoreId) (w : Fields) (s : State) : Host.Outcome State Fault Refusal :=
  .next (runInstr c 0x17 { sz := true, sh := true, m := true, f := true, sat := true } w
    (fun _ => coreOnly c 1 (alu { c := false } w 0 fun p _ => absLane w.width w.sat p)) s)

/-- MCNT. -/
def execOpMcnt (c : CoreId) (w : Fields) (s : State) : Host.Outcome State Fault Refusal :=
  .next (runInstr c 0x18 {} w (fun _ => coreOnly c 1 fun x => putA (maskCount x.mask) x) s)

/-- MFST. -/
def execOpMfst (c : CoreId) (w : Fields) (s : State) : Host.Outcome State Fault Refusal :=
  .next (runInstr c 0x19 { sz := true } w (fun _ => coreOnly c 1 fun x => putA (maskFirst x.mask (laneCount w.width)) x) s)

/-- MLD: mask := M. -/
def execOpMld (c : CoreId) (w : Fields) (s : State) : Host.Outcome State Fault Refusal :=
  .next (runInstr c 0x1A { base := true } w (fun x s =>
    thenLoad (coreLoad c (effAddr c x w) 8 8 s) fun bs extra s =>
      .done (setCore c (fun x => { x with mask := BitVec.ofNat 64 (ofLe bs) }) s) none (1 + extra)) s)

/-- MST: M := mask. -/
def execOpMst (c : CoreId) (w : Fields) (s : State) : Host.Outcome State Fault Refusal :=
  .next (runInstr c 0x1B { base := true } w (fun x s =>
    thenStore (coreStore c (effAddr c x w) 8 (leBytes 8 x.mask.toNat) (List.replicate 8 true) s) fun s => .done s none 1) s)

/-- MNOT: mask := not mask, within the lane count. -/
def execOpMnot (c : CoreId) (w : Fields) (s : State) : Host.Outcome State Fault Refusal :=
  .next (runInstr c 0x1C { sz := true } w (fun _ =>
    coreOnly c 1 fun x => { x with mask := laneMask (upTo (laneCount w.width)) fun j => !x.mask.getLsbD j }) s)

/-- XADD (R384): the old element goes to lane 0. -/
def execOpXadd (c : CoreId) (w : Fields) (s : State) : Host.Outcome State Fault Refusal :=
  .next (runInstr c 0x1D { sz := true, base := true, sh := true, onlyS := true } w (fun x s =>
    let a := effAddr c x w
    let len := w.width / 8
    if a % len ≠ 0 then .fault 0x03 0 s
    else
      match xaddPlace c a len with
      | none => .fault 0x04 0 s
      | some extra =>
        thenLoad (coreLoad c a len len s) fun bs _ s =>
          thenStore (coreStore c a len (leBytes len ((ofLe bs + laneAt x.a w.width 0) % 2 ^ w.width)) (List.replicate len true) s) fun s =>
            .done (setCore c (fun x => { x with a := setLane x.a w.width 0 (ofLe bs) }) s) none (2 + extra)) s)

/-- MUL: issues A × M (R379). -/
def execOpMul (c : CoreId) (w : Fields) (s : State) : Host.Outcome State Fault Refusal :=
  .next (runInstr c 0x1E { sz := true, base := true, sh := true, s := true } w (fun x s =>
    withOperand c x w s fun b extra s =>
      let p := multiply w.width w.s w.lanes x.a b
      .done (pmcEvent c 0x09 (setCore c (Core.issueProduct p.1 p.2) s)) none (1 + extra)) s)

/-- MULA: issues A × A (R379). -/
def execOpMula (c : CoreId) (w : Fields) (s : State) : Host.Outcome State Fault Refusal :=
  .next (runInstr c 0x1F { sz := true, sh := true, s := true } w (fun x s =>
    let p := multiply w.width w.s w.lanes x.a x.a
    .done (pmcEvent c 0x09 (setCore c (Core.issueProduct p.1 p.2) s)) none 1) s)

/-- PRODUCT_LAND: the oldest product of a core lands at its cycle (R380). -/
def execProductLand (c : CoreId) (s : State) : Host.Outcome State Fault Refusal :=
  .next (setCore c (fun x =>
    match x.products with
    | [] => x
    | p :: _ => ({ x with cycle := max x.cycle p.lands }).landOne) s)

/-- LDLO: A := MLO. -/
def execOpLdlo (c : CoreId) (w : Fields) (s : State) : Host.Outcome State Fault Refusal :=
  .next (runInstr c 0x20 { sz := true, sh := true, m := true } w (fun x s =>
    coreOnly c 1 (putLanes w (laneAt x.mlo w.width)) (earlyRead c x s)) s)

/-- LDHI: A := MHI. -/
def execOpLdhi (c : CoreId) (w : Fields) (s : State) : Host.Outcome State Fault Refusal :=
  .next (runInstr c 0x21 { sz := true, sh := true, m := true } w (fun x s =>
    coreOnly c 1 (putLanes w (laneAt x.mhi w.width)) (earlyRead c x s)) s)

/-- ADLO: A := A + MLO. -/
def execOpAdlo (c : CoreId) (w : Fields) (s : State) : Host.Outcome State Fault Refusal :=
  .next (runInstr c 0x22 { sz := true, sh := true, s := true, m := true, f := true, sat := true } w (fun x s =>
    coreOnly c 1 (alu {} w x.mlo (addLane w.width w.s w.sat)) (earlyRead c x s)) s)

end Sys2Proof.Machine
end

