-- ==== Sys2Proof/Machine/IsaControl.lean ====
section
/-! DEFINITION. Index, transfer, branch and ticket instructions: their meanings (R367, R368, R372, R376 to R378, R393, R394, R403). -/

namespace Sys2Proof.Machine

/-! ## Shared operations -/

/-- An index load brings an index register's value: memory bits [63:48] are ignored in keeper mode (R368). -/
def indexLoad (c : CoreId) (w : Fields) (f : BitVec 48 → Core → Core) (x : Core) (s : State) : IsaRes :=
  thenLoad (coreLoad c (effAddr c x w) c.indexBytes c.indexBytes s) fun bs extra s =>
    .done (setCore c (f (c.addr (ofLe bs % 2 ^ 48))) s) none (1 + extra)

/-- An index store writes an index register; 0 to bits [63:48] in keeper mode (R368). -/
def indexStore (c : CoreId) (w : Fields) (v : BitVec 48) (x : Core) (s : State) : IsaRes :=
  let n := c.indexBytes
  thenStore (coreStore c (effAddr c x w) n (leBytes n v.toNat) (List.replicate n true) s) fun s => .done s none 1

/-- Flags from a comparison P − Q at the width of X (R364). -/
def putIndexFlags (c : CoreId) (p q : Nat) (x : Core) : Core :=
  let r := subLane c.addrBits false false p q
  { x with z := r.val == 0, n := r.val.testBit (c.addrBits - 1), c := r.c, v := r.v }

/-- An index comparison. -/
def indexCompare (c : CoreId) (w : Fields) (v : Core → BitVec 48) (x : Core) (s : State) : IsaRes :=
  indexLoad c w (fun q y => putIndexFlags c (v x).toNat q.toNat y) x s

/-- An index register advances; under m only while the mask is not 0. -/
def advance (c : CoreId) (w : Fields) (mask : BitVec 64) (v : BitVec 48) : BitVec 48 := if w.m && mask == 0 then v else c.offset v w.disp.toInt

/-- The counter permission of a core (R377, R588): keeper mode always, gallery mode by the context of its ticket. -/
def counterAllowed (s : State) (c : CoreId) : Bool :=
  match c with
  | .keeper _ => true
  | .docent g k =>
    match (getCore s (.docent g k)).serving with
    | none => false
    | some n =>
      match Tab.get? s.rgs.tickets n with
      | none => false
      | some t => ctxPermPmc s t.ctx

/-- A := a value, of 64 bits (R376). -/
def giveA (c : CoreId) (v : Nat) (s : State) : IsaRes := .done (setCore c (putA v) s) none 1

/-- XFR (R377). -/
def transfer (c : CoreId) (sel : Nat) (x : Core) (s : State) : IsaRes :=
  match sel with
  | 0 => coreOnly c 1 (fun x => { x with x := c.addr x.a.toNat }) s
  | 1 => coreOnly c 1 (fun x => { x with y := c.addr x.a.toNat }) s
  | 2 => giveA c x.x.toNat s
  | 3 => giveA c x.y.toNat s
  | 4 => giveA c x.g.toNat s
  | 5 => giveA c x.lk.toNat s
  | 6 => coreOnly c 1 (fun x => { x with lk := c.addr x.a.toNat }) s
  | 7 =>
    let (t, s) := replicaTsc s
    giveA c t s
  | 8 => giveA c (flagsWord x).toNat s
  | 9 => giveA c x.mask.toNat s
  | 10 => coreOnly c 1 (fun x => x.putFlags (x.a.setWidth 4)) s
  | 11 => coreOnly c 1 (fun x => { x with mask := x.a.setWidth 64 }) s
  | n =>
    if 20 < n then .fault 0x01 0 s
    else if !counterAllowed s c then .fault 0x02 0 s
    else if n = 12 then
      let (v, s) := readCycles c s
      giveA c v s
    else
      let s := settleCounter c (n - 13) s
      giveA c (Tab.getD (getCore s c).pmc (n - 13) 0) s

/-- A descriptor reaches the Registrar (R393): held while its island sleeps, refused with not-ready while it is serviced. -/
def sendDesc (c : CoreId) (desc : List Byte) (s : State) : IsaRes :=
  if islandAsleep s .registrar then .stall (setIsl .registrar (fun h => { h with wakePending := true }) s)
  else if registrarRefuses s then .fault 0x08 2 (capture 232 2 (pageAddr 232 0) s)
  else
    let (ok, s) := submitDesc c desc s
    .done (pmcEvent c (if ok then 0x0F else 0x10) (setCore c (fun x => { x with z := ok }) s)) none 1

/-! ## Meanings -/

/-- IXL: X := M. -/
def execOpIxl (c : CoreId) (w : Fields) (s : State) : Host.Outcome State Fault Refusal :=
  .next (runInstr c 0x23 { base := true } w (indexLoad c w fun v x => { x with x := v }) s)

/-- IXS: M := X. -/
def execOpIxs (c : CoreId) (w : Fields) (s : State) : Host.Outcome State Fault Refusal :=
  .next (runInstr c 0x24 { base := true } w (fun x => indexStore c w x.x x) s)

/-- IYL: Y := M. -/
def execOpIyl (c : CoreId) (w : Fields) (s : State) : Host.Outcome State Fault Refusal :=
  .next (runInstr c 0x25 { base := true } w (indexLoad c w fun v x => { x with y := v }) s)

/-- IYS: M := Y. -/
def execOpIys (c : CoreId) (w : Fields) (s : State) : Host.Outcome State Fault Refusal :=
  .next (runInstr c 0x26 { base := true } w (fun x => indexStore c w x.y x) s)

/-- IXA: X := X + imm. -/
def execOpIxa (c : CoreId) (w : Fields) (s : State) : Host.Outcome State Fault Refusal :=
  .next (runInstr c 0x27 { m := true } w (fun _ => coreOnly c 1 fun x => { x with x := advance c w x.mask x.x }) s)

/-- IYA: Y := Y + imm. -/
def execOpIya (c : CoreId) (w : Fields) (s : State) : Host.Outcome State Fault Refusal :=
  .next (runInstr c 0x28 { m := true } w (fun _ => coreOnly c 1 fun x => { x with y := advance c w x.mask x.y }) s)

/-- IXC: flags from X − M. -/
def execOpIxc (c : CoreId) (w : Fields) (s : State) : Host.Outcome State Fault Refusal :=
  .next (runInstr c 0x29 { base := true } w (indexCompare c w (·.x)) s)

/-- IYC: flags from Y − M. -/
def execOpIyc (c : CoreId) (w : Fields) (s : State) : Host.Outcome State Fault Refusal :=
  .next (runInstr c 0x2A { base := true } w (indexCompare c w (·.y)) s)

/-- XFR (R377). -/
def execOpXfr (c : CoreId) (w : Fields) (s : State) : Host.Outcome State Fault Refusal :=
  .next (runInstr c 0x2B {} w (transfer c w.disp.toNat) s)

/-- BR (R378): bits [21:18] are the condition, bits [17:16] must be 0 (R365). -/
def execOpBr (c : CoreId) (w : Fields) (s : State) : Host.Outcome State Fault Refusal :=
  .next (runInstr c 0x2C { sh := true, s := true, m := true } w (fun x s =>
    if condHolds x w.cond then .done (pmcEvent c 0x08 s) (some (branchTarget c x w)) 2 else .done s none 1) s)

/-- CALL: LK := PC + 4; PC := PC + 4 × imm. -/
def execOpCall (c : CoreId) (w : Fields) (s : State) : Host.Outcome State Fault Refusal :=
  .next (runInstr c 0x2D {} w (fun x s =>
    .done (setCore c (fun y => { y with lk := nextPc c x }) s) (some (branchTarget c x w)) 2) s)

/-- RET: PC := LK. -/
def execOpRet (c : CoreId) (w : Fields) (s : State) : Host.Outcome State Fault Refusal :=
  .next (runInstr c 0x2E {} w (fun x s => .done s (some x.lk) 2) s)

/-- END (R394): every product lands, then the ticket is complete with status imm[7:0]. -/
def execOpEnd (c : CoreId) (w : Fields) (s : State) : Host.Outcome State Fault Refusal :=
  .next (runInstr c 0x2F {} w (fun _ s =>
    match c with
    | .keeper _ => .fault 0x01 0 s
    | .docent g k =>
      if 256 ≤ w.disp.toNat then .fault 0x01 0 s else .done (endTicket g k w.disp.toNat (setCore c Core.drain s)) none 1) s)

/-- TKT (R393): Z tells whether the Registrar accepted the descriptor at M. -/
def execOpTkt (c : CoreId) (w : Fields) (s : State) : Host.Outcome State Fault Refusal :=
  .next (runInstr c 0x30 { base := true } w (fun x s =>
    thenLoad (coreLoad c (effAddr c x w) 64 64 s) fun bs _ s => sendDesc c bs s) s)

/-- NOP. -/
def execOpNop (c : CoreId) (w : Fields) (s : State) : Host.Outcome State Fault Refusal := .next (runInstr c 0x31 {} w (fun _ => coreOnly c 1 id) s)

/-- FENCE (R403): a store is accepted as it is made, so no wait is left. -/
def execOpFence (c : CoreId) (w : Fields) (s : State) : Host.Outcome State Fault Refusal := .next (runInstr c 0x32 {} w (fun _ s => .done s none 1) s)

end Sys2Proof.Machine
end

