-- ==== Sys2Proof/Machine/IsaKeeper.lean ====
section
/-! DEFINITION. Keeper-mode instructions, interrupt entry, and the start and stop of keeper cores: their meanings (R399 to R414). -/

namespace Sys2Proof.Machine

/-! ## Shared operations -/

/-- The island that answers a far access (R22). -/
def farIsland (s : State) (a : Nat) : Option Island :=
  match placeOf a with
  | .dram => some (.dram (dramChannelOf s a))
  | .docentLocal g _ _ => some (.gallery g)
  | .galleryShared g _ => some (.gallery g)
  | .keeperLocal _ _ => some .keeper
  | .keeperShared _ => some .keeper
  | .bootRom _ => none
  | .page _ _ => none
  | .nowhere => none

/-- An access waits while the island it goes to sleeps, and wakes it (R24); else it comes after what the core's island sent there before (R23). -/
def whenAwake (c : CoreId) (i : Option Island) (s : State) (k : State → IsaRes) : IsaRes :=
  match i with
  | some i =>
    if islandPresent s i && islandAsleep s i then .stall (setIsl i (fun h => { h with wakePending := true }) s)
    else k (serveEarlier c.requester.island i s)
  | none => k s

/-- A far access goes out, aligned and below page space (R400). -/
def farAccess (c : CoreId) (x : Core) (w : Fields) (len : Nat) (s : State) (k : Nat → State → IsaRes) : IsaRes :=
  let a := effAddr c x w
  if a % len ≠ 0 then .fault 0x03 0 s
  else if pageBase ≤ a then .fault 0x04 0 s
  else whenAwake c (farIsland s a) s fun s => k a (pmcEvent c 0x16 s)

/-- A page access goes out, aligned and below the end of page 263 (R401). -/
def pageAccess (c : CoreId) (x : Core) (w : Fields) (s : State) (k : Nat → Nat → State → IsaRes) : IsaRes :=
  let a := effAddr c x w
  if a % 4 ≠ 0 then .fault 0x03 0 s
  else if 0x108000 ≤ a then .fault 0x04 0 s
  else whenAwake c (servingIsland (a / 0x1000) (a % 0x1000)) s fun s => k (a / 0x1000) (a % 0x1000) (pmcEvent c 0x17 s)

/-- The requester a core is on a page. -/
def pageWho (c : CoreId) : Requester := c.requester

/-- Bytes of the context area (R409). -/
def contextBytes (c : CoreId) (x : Core) : List Byte :=
  leBytes 64 x.a.toNat ++ leBytes 64 x.mlo.toNat ++ leBytes 64 x.mhi.toNat ++ leBytes 8 x.x.toNat ++ leBytes 8 x.y.toNat ++ leBytes 8 x.g.toNat
    ++ leBytes 8 x.lk.toNat ++ leBytes 8 (nextPc c x).toNat ++ leBytes 8 x.mask.toNat ++ leBytes 4 (flagsWord x).toNat ++ zeros 12

/-- A core with every field of a context area but PC. -/
def contextLoad (c : CoreId) (bs : List Byte) (x : Core) : Core :=
  Core.putFlags (BitVec.ofNat 4 (leAt bs 0xF0 4)) { x with
    a := BitVec.ofNat 512 (leAt bs 0x00 64), mlo := BitVec.ofNat 512 (leAt bs 0x40 64), mhi := BitVec.ofNat 512 (leAt bs 0x80 64),
    x := c.addr (leAt bs 0xC0 8), y := c.addr (leAt bs 0xC8 8), g := c.addr (leAt bs 0xD0 8), lk := c.addr (leAt bs 0xD8 8),
    mask := BitVec.ofNat 64 (leAt bs 0xE8 8) }

/-- The whole of an area lies in the memories of R399. -/
def areaMapped (a len : Nat) : Bool :=
  let held (b : Nat) : Bool := match placeOf b with
    | .keeperLocal _ _ => true
    | .keeperShared _ => true
    | .bootRom _ => true
    | .dram | .docentLocal _ _ _ | .galleryShared _ _ | .page _ _ | .nowhere => false
  held a && held (a + len - 1)

/-- A special register (R404). -/
def specialRead (c : CoreId) (n : Nat) (x : Core) : Option Nat :=
  match n with
  | 0 => some x.epc.toNat
  | 1 => some x.efl.toNat
  | 2 => some x.emask.toNat
  | 3 => some x.ecause.toNat
  | 4 => some x.eaddr.toNat
  | 5 => some (flag x.ien)
  | 6 => some x.vbase.toNat
  | 7 => match c with
    | .keeper k => some k
    | .docent _ _ => none
  | _ => none

/-- A special register written with A (R404); none: it does not exist or is read-only. -/
def specialWrite (n : Nat) : Option (Core → Core) :=
  match n with
  | 0 => some fun x => { x with epc := x.a.setWidth 48 }
  | 1 => some fun x => { x with efl := x.a.setWidth 4 }
  | 2 => some fun x => { x with emask := x.a.setWidth 64 }
  | 5 => some fun x => { x with ien := x.a.getLsbD 0 }
  | 6 => some fun x => { x with vbase := x.a.setWidth 48 &&& ~~~0x7F }
  | _ => none

/-! ## Meanings -/

/-- FLD: A := far M (R400). -/
def execOpFld (c : CoreId) (w : Fields) (s : State) : Host.Outcome State Fault Refusal :=
  .next (runInstr c 0x33 { sz := true, base := true, sh := true } w (fun x s =>
    farAccess c x w (shapeBytes w.shape w.width) s fun a s =>
      let (ans, s) := busRead a (shapeBytes w.shape w.width) s
      if ans.code ≠ 0 then .fault 0x08 ans.code s
      else coreOnly c 1 (putLanes w (laneAt (BitVec.ofNat 512 (ofLe ans.bytes <<< shapeShift w.shape)) w.width)) s) s)

/-- FST: far M := A (R400). -/
def execOpFst (c : CoreId) (w : Fields) (s : State) : Host.Outcome State Fault Refusal :=
  .next (runInstr c 0x34 { sz := true, base := true, sh := true } w (fun x s =>
    farAccess c x w (shapeBytes w.shape w.width) s fun a s =>
      let (code, s) := busWrite a (shapeData w x.a) s
      if code ≠ 0 then .fault 0x08 code s else .done s none 1) s)

/-- PRD: A[31:0] := page register (R401). -/
def execOpPrd (c : CoreId) (w : Fields) (s : State) : Host.Outcome State Fault Refusal :=
  .next (runInstr c 0x35 { base := true } w (fun x s =>
    pageAccess c x w s fun page off s =>
      let (code, v, s) := pageRead .served (pageWho c) page off 32 s
      if code ≠ 0 then .fault 0x08 code s else coreOnly c 1 (putA v.toNat) s) s)

/-- PWR: page register := A[31:0] (R401). -/
def execOpPwr (c : CoreId) (w : Fields) (s : State) : Host.Outcome State Fault Refusal :=
  .next (runInstr c 0x36 { base := true } w (fun x s =>
    pageAccess c x w s fun page off s =>
      let (code, s) := pageWrite .served (pageWho c) page off 32 (x.a.setWidth 32) s
      if code ≠ 0 then .fault 0x08 code s else .done s none 1) s)

/-- MBP: posts A[31:0]; Z tells whether the channel took it (R402). -/
def execOpMbp (c : CoreId) (w : Fields) (s : State) : Host.Outcome State Fault Refusal :=
  .next (runInstr c 0x37 { base := true } w (fun x s =>
    let n := effAddr c x w
    if 512 ≤ n then .fault 0x04 0 s
    else .done (setCore c (fun y => { y with z := !Tab.has s.mbx n }) (corePost c n (x.a.setWidth 32) s)) none 1) s)

/-- MBT: A := the channel's read value; Z tells whether a word was taken (R402). -/
def execOpMbt (c : CoreId) (w : Fields) (s : State) : Host.Outcome State Fault Refusal :=
  .next (runInstr c 0x38 { base := true } w (fun x s =>
    let n := effAddr c x w
    if 512 ≤ n then .fault 0x04 0 s
    else
      let (v, t) := coreTake c n s
      .done (setCore c (fun y => { putA v y with z := Tab.has s.mbx n }) t) none 1) s)

/-- CSAVE (R381, R409). -/
def execOpCsave (c : CoreId) (w : Fields) (s : State) : Host.Outcome State Fault Refusal :=
  .next (runInstr c 0x39 { base := true } w (fun x s =>
    let a := effAddr c x w
    if a % 64 ≠ 0 then .fault 0x03 0 s
    else if !areaMapped a 256 then .fault 0x04 0 s
    else thenStore (coreStore c a 64 (contextBytes c x.drain) (List.replicate 256 true) s) fun s => .done (setCore c Core.drain s) none 8) s)

/-- CREST (R409). -/
def execOpCrest (c : CoreId) (w : Fields) (s : State) : Host.Outcome State Fault Refusal :=
  .next (runInstr c 0x3A { base := true } w (fun x s =>
    let a := effAddr c x w
    if a % 64 ≠ 0 then .fault 0x03 0 s
    else if !areaMapped a 256 then .fault 0x04 0 s
    else thenLoad (coreLoad c a 256 64 s) fun bs _ s => coreOnly c 8 (contextLoad c bs) s) s)

/-- SETG: G := A[47:0]. -/
def execOpSetg (c : CoreId) (w : Fields) (s : State) : Host.Outcome State Fault Refusal :=
  .next (runInstr c 0x3B {} w (fun _ => coreOnly c 1 fun x => { x with g := x.a.setWidth 48 }) s)

/-- MFS: A := special register (R404). -/
def execOpMfs (c : CoreId) (w : Fields) (s : State) : Host.Outcome State Fault Refusal :=
  .next (runInstr c 0x3C {} w (fun x s =>
    match specialRead c w.disp.toNat x with
    | some v => coreOnly c 1 (putA v) s
    | none => .fault 0x01 0 s) s)

/-- MTS: special register := A (R404). -/
def execOpMts (c : CoreId) (w : Fields) (s : State) : Host.Outcome State Fault Refusal :=
  .next (runInstr c 0x3D {} w (fun _ s =>
    match specialWrite w.disp.toNat with
    | some f => coreOnly c 1 f s
    | none => .fault 0x01 0 s) s)

/-- IRET (R407). -/
def execOpIret (c : CoreId) (w : Fields) (s : State) : Host.Outcome State Fault Refusal :=
  .next (runInstr c 0x3E {} w (fun x s =>
    .done (setCore c (fun y => { Core.putFlags x.efl y with mask := x.emask, ien := true, ecause := x.ecause &&& 0x7FFFFFFF }) s) (some x.epc) 2) s)

/-- WAIT (R408). -/
def execOpWait (c : CoreId) (w : Fields) (s : State) : Host.Outcome State Fault Refusal :=
  .next (runInstr c 0x3F {} w (fun _ s =>
    match c with
    | .keeper k => if keeperEvent s k then .done s none 1 else .sleep s
    | .docent _ _ => .done s none 1) s)

/-- The cause of an interrupt: 0x80 page event, 0x81 mailbox event; free when both are pending (R404, R405). -/
def interruptCause (k : Nat) (s : State) : Nat × State :=
  if !mailboxPending s k then (0x80, s)
  else if !pageEvent s k then (0x81, s)
  else
    let (n, s) := draw s
    (0x80 + n % 2, s)

/-- KEEPER_INTERRUPT_ENTRY (R405, R414): between two instructions, with IEN 1 and an event pending. -/
def execKeeperInterruptEntry (k : Nat) (s : State) : Host.Outcome State Fault Refusal :=
  let x := getCore s (.keeper k)
  if !x.running || x.halted || x.stalled || !x.ien || !keeperEvent s k || islandRefuses s .keeper then .next s
  else
    let (cause, s) := interruptCause k s
    .next (setCore (.keeper k) (fun x => { x.drain with
      epc := x.pc, efl := flagsWord x, emask := x.mask, ecause := BitVec.ofNat 32 (2 ^ 31 + cause), ien := false, pc := x.vbase, waiting := false }) s)

/-- KEEPER_CORE_START (R413): a run bit set starts the core. -/
def execKeeperCoreStart (who : Requester) (k : Nat) (s : State) : Host.Outcome State Fault Refusal :=
  .next (keeperWrite who 224 0x40 (putBit (getReg s 224 0x40) k true) (fun s => if regBit s 224 0x40 k then s else keeperOn k s) s)

/-- KEEPER_CORE_STOP (R381, R413, R538): a run bit cleared stops the core. -/
def execKeeperCoreStop (who : Requester) (k : Nat) (s : State) : Host.Outcome State Fault Refusal :=
  .next (keeperWrite who 224 0x40 (putBit (getReg s 224 0x40) k false) (keeperOff k) s)

end Sys2Proof.Machine
end

