-- ==== Sys2Proof/Machine/Link.lean ====
section
/-! DEFINITION. The meanings of the host-link and queueing commands (chapter 03). -/

namespace Sys2Proof.Machine

/-! ## The link (R72 to R80, R87, R643) -/

/-- CONFIG_REQUEST (R75, R76, R81 to R84, R599, R641). -/
def execConfigRequest (ctl : Nat) (reg : CfgReg) (write : Option Nat) (s : State) : Host.Outcome State Fault Refusal :=
  .next (configRequest ctl reg write s)

/-- LINK_TRAINING_DONE (R72 to R74, R86). -/
def execLinkTrainingDone (port sub : Nat) (partner : LinkPartner) (s : State) : Host.Outcome State Fault Refusal :=
  .next (trainLink port sub partner s)

/-- SURPRISE_DOWN (R80). -/
def execSurpriseDown (port sub : Nat) (s : State) : Host.Outcome State Fault Refusal := .next (surpriseDown port sub s)

/-- LINK_RETRAIN (R87): a write of 1 to HIF_LINK_CTRL.retrain; the bit reads 0. -/
def execLinkRetrain (who : Requester) (port sub : Nat) (s : State) : Host.Outcome State Fault Refusal :=
  .next (keeperWrite who (hifPage port sub) 0x84 (putBit (getReg s (hifPage port sub) 0x84) 0 true) (setLink (4 * port + sub) fun l => { l with training := true }) s)

/-- LINK_ERROR (R87): the lanes' bits are set and the sub-link retrains. -/
def execLinkError (port sub lanes : Nat) (s : State) : Host.Outcome State Fault Refusal :=
  if subExists s port sub && decide ((linkOf s (4 * port + sub)).rate ≠ 0) then
    let page := hifPage port sub
    .next (setLink (4 * port + sub) (fun l => { l with training := true }) (putReg page 0x88 (getReg s page 0x88 ||| word (lanes % 65536)) s))
  else .next s

/-- ASPM_L1_ENTRY (R75, R86). -/
def execAspmL1Entry (port sub : Nat) (l12 : Bool) (s : State) : Host.Outcome State Fault Refusal :=
  if (linkOf s (4 * port + sub)).rate = 0 then .next s
  else .next (setLink (4 * port + sub) (fun l => { l with pm := if l12 then 2 else 1 }) s)

/-- ASPM_L1_EXIT (R75, R86). -/
def execAspmL1Exit (port sub : Nat) (s : State) : Host.Outcome State Fault Refusal :=
  .next (setLink (4 * port + sub) (fun l => { l with pm := 0 }) s)

/-- COMPLETION_TIMEOUT (R77, R78, R643). -/
def execCompletionTimeout (port sub tag : Nat) (s : State) : Host.Outcome State Fault Refusal := .next (completionTimeout port sub tag s)

/-- HOST_COMPLETION_TLP (R88, R643). -/
def execHostCompletionTlp (port sub tag : Nat) (poisoned : Bool) (s : State) : Host.Outcome State Fault Refusal :=
  .next (completionTlp port sub tag poisoned s)

/-- A submission queue tail doorbell (R94, R95): new entries are a command that arrives (R125, R126); a write that is ignored is none. -/
def sqBell (ctl q v : Nat) (s : State) : State :=
  if bellRings s ctl q v then commandArrives (setCtl ctl (fun x => { x with apstState := none }) (sqDoorbell ctl q v s)) else sqDoorbell ctl q v s

/-- A write of NSSR (R96). -/
def nssrWrite (ctl : Nat) (v : Word) (s : State) : State := if isPf s ctl && v == 0x4E564D65 then deviceReset .nssr s else s

/-- A write of BAR0: a doorbell, NSSR or another controller register (R89 to R96). -/
def bar0Write (ctl off width v : Nat) (s : State) : State :=
  if !bar0Takes off width then bar0Bad off width true s
  else if off ≥ 0x1000 then
    if off % 8 = 0 then sqBell ctl ((off - 0x1000) / 8) (v % 2 ^ 32) s else cqDoorbell ctl ((off - 0x1000) / 8) (v % 2 ^ 32) s
  else if off = 0x20 then nssrWrite ctl (word v) s
  else controllerWrite ctl off width v s

/-- A memory request that matches an enabled BAR of a function (R60, R81, R641). -/
def barAccess (ctl bar off width : Nat) (write : Option Nat) (s : State) : State :=
  match bar, write with
  | 0, none => bar0Read ctl off width s
  | 0, some v => bar0Write ctl off width v s
  | 2, none => readRegister (.host (ctl / 64)) (off / 0x1000) (off % 0x1000) width s
  | 2, some v => writeRegister (.host (ctl / 64)) (off / 0x1000) (off % 0x1000) width (word v) s
  | _, none => bar4Read ctl off width s
  | _, some v => bar4Set ctl off width v s

/-- BAR_UNSUPPORTED_REQUEST (R641): a memory request of the host. One that matches no enabled BAR is an Unsupported Request; one that
matches is answered by its BAR. -/
def execBarUnsupportedRequest (ctl bar off width : Nat) (write : Option Nat) (s : State) : Host.Outcome State Fault Refusal :=
  if bar0Open s ctl && decide (off < barSize s ctl bar) then .next (barAccess ctl bar off width write s)
  else .next (unsupportedRequest ctl bar off write.isSome s)

/-- BAR0_BAD_ACCESS (R94). -/
def execBar0BadAccess (ctl off width : Nat) (write : Bool) (s : State) : Host.Outcome State Fault Refusal :=
  if bar0Open s ctl && !bar0Takes off width then .next (bar0Bad off width write s) else .next s

/-! ## Controllers (R89 to R96, R120 to R122, R607) -/

/-- CONTROLLER_REGISTER_WRITE (R89 to R94, R96). -/
def execControllerRegisterWrite (ctl off width v : Nat) (s : State) : Host.Outcome State Fault Refusal :=
  if bar0Open s ctl then .next (bar0Write ctl off width v s) else .next s

/-- VF_ENABLE (R82). -/
def execVfEnable (port sub : Nat) (enable : Bool) (s : State) : Host.Outcome State Fault Refusal :=
  if s.link.firmwareRuns && subExists s port sub then .next (vfEnable port sub enable s) else .next s

/-- SQ_DOORBELL (R94, R95, R125, R126). -/
def execSqDoorbell (ctl q v : Nat) (s : State) : Host.Outcome State Fault Refusal :=
  if bar0Open s ctl then .next (sqBell ctl q v s) else .next s

/-- CQ_DOORBELL (R94, R95, R112). -/
def execCqDoorbell (ctl q v : Nat) (s : State) : Host.Outcome State Fault Refusal :=
  if bar0Open s ctl then .next (cqDoorbell ctl q v s) else .next s

/-- NSSR_WRITE (R96). -/
def execNssrWrite (ctl : Nat) (v : Word) (s : State) : Host.Outcome State Fault Refusal :=
  if bar0Open s ctl then .next (nssrWrite ctl v s) else .next s

/-- CONTROLLER_ENABLE (R90, R91, R93): CC.EN goes from 0 to 1. -/
def execControllerEnable (ctl : Nat) (cc : Word) (s : State) : Host.Outcome State Fault Refusal :=
  if bar0Open s ctl && bit cc 0 && !(ctlOf s ctl).enabled then .next (setPwr (fun p => { p with safeOff := false }) (writeCc ctl cc s)) else .next s

/-- CONTROLLER_READY (R92). -/
def execControllerReady (ctl : Nat) (s : State) : Host.Outcome State Fault Refusal := .next (readyCtl ctl s)

/-- CONTROLLER_RESET (R120, R122): CC.EN goes from 1 to 0. -/
def execControllerReset (ctl : Nat) (s : State) : Host.Outcome State Fault Refusal :=
  if (ctlOf s ctl).enabled then .next (resetCtl ctl (putBit (ctlOf s ctl).cc 0 false) s) else .next s

/-- FUNCTION_LEVEL_RESET (R121, R122, R643). -/
def execFunctionLevelReset (ctl : Nat) (s : State) : Host.Outcome State Fault Refusal :=
  if functionThere s ctl then .next (flr ctl s) else .next s

/-- SHUTDOWN_NOTIFICATION (R607). -/
def execShutdownNotification (ctl shn : Nat) (s : State) : Host.Outcome State Fault Refusal :=
  if (ctlOf s ctl).enabled then .next (shutdownCtl ctl (shn % 4) s) else .next s

/-- SHUTDOWN_COMPLETE (R607). -/
def execShutdownComplete (ctl : Nat) (s : State) : Host.Outcome State Fault Refusal := .next (shutdownComplete ctl s)

/-! ## Fetching, starting and completing (R102 to R119, R128 to R131) -/

/-- SQE_FETCH (R102 to R106). -/
def execSqeFetch (s : State) : Host.Outcome State Fault Refusal := .next (fetchSqe s)

/-- SQE_ARRIVE (R113, R114, R125, R126): of a fetch that is under way. -/
def execSqeArrive (ctl sq : Nat) (h : SqeHeader) (s : State) : Host.Outcome State Fault Refusal :=
  if s.acc.cmds.any (Cmd.fetchingOn ctl sq) then .next (commandArrives (sqeArrive ctl sq h s)) else .next (sqeArrive ctl sq h s)

/-- COMMAND_START (R107, R110, R135, R136). -/
def execCommandStart (ref : CmdRef) (s : State) : Host.Outcome State Fault Refusal := .next (startCmd ref s)

/-- CQE_POST (R108, R112, R119, R128). -/
def execCqePost (ctl cq : Nat) (s : State) : Host.Outcome State Fault Refusal := .next (postCq ctl cq s)

/-- COALESCE_TIMER_EXPIRY (R129): the aggregation time of a vector has passed. -/
def execCoalesceTimerExpiry (ctl vec : Nat) (s : State) : Host.Outcome State Fault Refusal :=
  if Tab.getD (ctlOf s ctl).coalesce vec 0 = 0 then .next s
  else .next (sendVector ctl vec (setCtl ctl (fun x => { x with coalesce := Tab.del x.coalesce vec }) s))

/-- MSIX_UNMASK (R131). -/
def execMsixUnmask (ctl vec : Nat) (s : State) : Host.Outcome State Fault Refusal :=
  .next (unmaskVector ctl vec s)

/-- DELETE_IO_SQ (R119). -/
def execDeleteIoSq (ref : CmdRef) (qid : Nat) (s : State) : Host.Outcome State Fault Refusal :=
  .next (onCmd ref true [0x00] (fun c s => deleteSq c qid s) s)

/-- CREATE_IO_SQ (R99, R100). -/
def execCreateIoSq (ref : CmdRef) (qid qsize : Nat) (contiguous : Bool) (cqid prio : Nat) (s : State) : Host.Outcome State Fault Refusal :=
  .next (onCmd ref true [0x01] (fun c s => createSq c qid qsize contiguous cqid prio s) s)

/-- DELETE_IO_CQ (R101). -/
def execDeleteIoCq (ref : CmdRef) (qid : Nat) (s : State) : Host.Outcome State Fault Refusal :=
  .next (onCmd ref true [0x04] (fun c s => deleteCq c qid s) s)

/-- CREATE_IO_CQ (R99, R100). -/
def execCreateIoCq (ref : CmdRef) (qid qsize : Nat) (contiguous interrupts : Bool) (vec : Nat) (s : State) : Host.Outcome State Fault Refusal :=
  .next (onCmd ref true [0x05] (fun c s => createCq c qid qsize contiguous interrupts vec s) s)

/-- ABORT (R116 to R118). -/
def execAbort (ref : CmdRef) (sqid cid : Nat) (s : State) : Host.Outcome State Fault Refusal :=
  .next (onCmd ref true [0x08] (fun c s => abortCmd c sqid cid s) s)

end Sys2Proof.Machine
end

