-- ==== Sys2Proof/Machine/Mailboxes.lean ====
section
/-! DEFINITION. The meanings of the mailbox and performance-counter commands (chapter 14). -/

namespace Sys2Proof.Machine

/-- MAILBOX_POST (R572). -/
def execMailboxPost (c : CoreId) (chan : Nat) (v : Word) (s : State) : Host.Outcome State Fault Refusal := .next (corePost c chan v s)

/-- MAILBOX_TAKE (R573): the 64-bit read value answers the core. -/
def execMailboxTake (c : CoreId) (chan : Nat) (s : State) : Host.Outcome State Fault Refusal :=
  match c with
  | .docent g _ =>
    if coreFenced s c then .next (gateDrop g s)
    else
      let (v, s) := coreTake c chan s
      .next (emit (.coreRead v) s)
  | .keeper _ =>
    let (v, s) := coreTake c chan s
    .next (emit (.coreRead v) s)

/-- MAILBOX_TIMEOUT (R575). -/
def execMailboxTimeout (chan : Nat) (s : State) : Host.Outcome State Fault Refusal := .next (mbxTimeout chan s)

/-- MAILBOX_RECALL (R576). -/
def execMailboxRecall (c : CoreId) (chan : Nat) (s : State) : Host.Outcome State Fault Refusal :=
  match c with
  | .docent g _ => .next (if coreFenced s c then gateDrop g s else mbxRecall c chan s)
  | .keeper _ => .next (mbxRecall c chan s)

/-- POST_RESULT_READ (R582). -/
def execPostResultRead (g k : Nat) (s : State) : Host.Outcome State Fault Refusal :=
  .next (if coreFenced s (.docent g k) then gateDrop g s else emit (.coreRead (getCore s (.docent g k)).postResult.toNat) s)

/-- MAILBOX_CONFIG_WRITE (R592). -/
def execMailboxConfigWrite (who : Requester) (chan : Nat) (v : Word) (s : State) : Host.Outcome State Fault Refusal :=
  .next (keeperWrite who (mbxPage chan) (mbxBase chan) v (mbxConfig chan v) s)

/-- PMC_SELECT (R595). -/
def execPmcSelect (who : Requester) (v : Word) (s : State) : Host.Outcome State Fault Refusal :=
  .next (keeperWrite who 256 0x40 v (pmcSelWrite v) s)

/-- PMC_EVENT_SELECT (R587). -/
def execPmcEventSelect (who : Requester) (high : Bool) (v : Word) (s : State) : Host.Outcome State Fault Refusal :=
  .next (keeperWrite who 256 (if high then 0x4C else 0x48) v (pmcEvselWrite high v) s)

/-- PMC_CLEAR (R594). -/
def execPmcClear (who : Requester) (v : Word) (s : State) : Host.Outcome State Fault Refusal :=
  .next (keeperWrite who 256 0x9C v (pmcClrWrite v) s)

/-- PMC_COUNTER_WRAP (R586): a counter at its last value counts once more. -/
def execPmcCounterWrap (c : CoreId) (i : Nat) (s : State) : Host.Outcome State Fault Refusal :=
  .next (onlyIf (decide (Tab.getD (getCore s c).pmc i 0 + 1 = 2 ^ 48)) (pmcCount c i) s)

/-- PMC_SAMPLE (R590). -/
def execPmcSample (g k instr latency : Nat) (faulted : Bool) (s : State) : Host.Outcome State Fault Refusal :=
  .next (takeSample g k instr latency faulted s)

end Sys2Proof.Machine
end

