-- ==== Sys2Proof/Machine/Pages.lean ====
section
/-! DEFINITION. The meanings of the commands on islands, crossings and register pages (chapters 01, 02). -/

namespace Sys2Proof.Machine

/-! ## Crossings -/

/-- CROSSING_REQUEST (R22 to R25). -/
def execCrossingRequest (id : Nat) (src dst : Island) (op : CrossOp) (place : CrossPlace) (s : State) : Host.Outcome State Fault Refusal :=
  .next (crossRequest id src dst op place s)

/-- CROSSING_RESPONSE (R22, R640). -/
def execCrossingResponse (id : Nat) (s : State) : Host.Outcome State Fault Refusal := .next (crossResponse id s)

/-- STALE_RESPONSE_DROP (R28). -/
def execStaleResponseDrop (id : Nat) (s : State) : Host.Outcome State Fault Refusal := .next (staleDrop id s)

/-- ISLAND_WAKE (R24, R577): the island runs again and serves what its crossings hold. In PS4 the wake event ends the state. -/
def execIslandWake (dst : Island) (s : State) : Host.Outcome State Fault Refusal :=
  let t := islandWake dst (if s.pwr.ps = 4 ∧ (isl s dst).wakePending then serveWoken s (ps4Exit s) else s)
  .next (if islandAsleep t dst || islandRefuses t dst then t else serveIsland dst t)

/-! ## Registers -/

/-- REGISTER_WRITE (R8, R43 to R45). -/
def execRegisterWrite (who : Requester) (page off width : Nat) (v : Word) (s : State) : Host.Outcome State Fault Refusal :=
  .next (writeRegister who page off width v s)

/-- A write of PG_CTRL that changes one field: the field is RWK (R48). The header mirror holds no request (R48). -/
def ctrlRow (who : Requester) (page : Nat) (f : State → State) (s : State) : State :=
  sendAccess who page 0x08 (.pageWrite page 0x08 32 0) (fun s =>
    let (code, s) := accessCheck .served who page 0x08 32 true s
    if code ≠ 0 then refuseWrite who code s else if who.isKeeper then f s else s) s

/-- PG_LOCK (R50). -/
def execPgLock (who : Requester) (page : Nat) (s : State) : Host.Outcome State Fault Refusal := .next (ctrlRow who page (lockPage page) s)

/-- PG_ENABLE_WRITE (R48). -/
def execPgEnableWrite (who : Requester) (page : Nat) (enable : Bool) (s : State) : Host.Outcome State Fault Refusal :=
  .next (ctrlRow who page (enablePage page enable) s)

/-- QUIESCE_REQUEST (R26, R51, R52). -/
def execQuiesceRequest (who : Requester) (page : Nat) (s : State) : Host.Outcome State Fault Refusal :=
  .next (ctrlRow who page (quiesceRequest page) s)

/-- QUIESCE_RELEASE (R53). -/
def execQuiesceRelease (who : Requester) (page : Nat) (s : State) : Host.Outcome State Fault Refusal :=
  .next (ctrlRow who page (quiesceRelease page) s)

/-- QUIESCE_DONE (R26, R616): the island first serves every request that it has accepted. -/
def execQuiesceDone (page : Nat) (s : State) : Host.Outcome State Fault Refusal :=
  match pageIsland page with
  | none => .next s
  | some i =>
    let h := hdr s page
    if !h.quiesceReq || h.quiesced then .next s
    else .next (quiesceDone page (if i.primary = page then serveHeld i (fun r => r.place != .sendSide) s else s))

/-- ISLAND_REINIT (R51, R53, R616). -/
def execIslandReinit (who : Requester) (page : Nat) (s : State) : Host.Outcome State Fault Refusal :=
  .next (ctrlRow who page (reinitWrite page) s)

/-- ISLAND_READY (R55, R616, R617): the island serves again, what it had accepted first. -/
def execIslandReady (dst : Island) (s : State) : Host.Outcome State Fault Refusal :=
  if !(hdr s dst.primary).busy then .next s
  else
    let t := islandReady dst s
    .next (if islandRefuses t dst then t else serveIsland dst t)

/-- IRQ_STATUS_CLEAR (R56, R57). -/
def execIrqStatusClear (who : Requester) (page : Nat) (v : Word) (s : State) : Host.Outcome State Fault Refusal :=
  .next (writeRegister who page 0x10 32 v s)

/-- IRQ_SET (R56). -/
def execIrqSet (who : Requester) (page : Nat) (v : Word) (s : State) : Host.Outcome State Fault Refusal :=
  .next (writeRegister who page 0x18 32 v s)

/-- ERR_ADDR_LO_READ (R58). -/
def execErrAddrLoRead (who : Requester) (page : Nat) (s : State) : Host.Outcome State Fault Refusal := .next (readRegister who page 0x20 32 s)

/-- TOP_UID_LO_READ (R65). -/
def execTopUidLoRead (who : Requester) (s : State) : Host.Outcome State Fault Refusal := .next (readRegister who 0 0x48 32 s)

/-- TSC_LO_READ (R622). -/
def execTscLoRead (who : Requester) (s : State) : Host.Outcome State Fault Refusal := .next (readRegister who 3 0x40 32 s)

/-- COUNTER_LO_READ (R288, R353, R463, R560, R568, R589): a read of a _LO register that latches. -/
def execCounterLoRead (who : Requester) (page off : Nat) (s : State) : Host.Outcome State Fault Refusal :=
  if (pairValue s page off).isSome then .next (readRegister who page off 32 s) else .next s

/-- MON_COUNT_LO_READ (R311). -/
def execMonCountLoRead (who : Requester) (j : Nat) (s : State) : Host.Outcome State Fault Refusal :=
  if j < 128 then .next (readRegister who (monPage j) (monBase j + 0x10) 32 s) else .next s

/-! ## The maintenance window (R60 to R64) -/

/-- A physical function of a port whose BAR2 answers (R60, R641). -/
def bar2Function (s : State) (port : Nat) : Option Nat :=
  ((upTo (subLinks s port)).map (pfOf s port)).find? (bar0Open s)

/-- HOST_BAR2_READ (R44, R60 to R62, R640, R641). -/
def execHostBar2Read (port off width : Nat) (s : State) : Host.Outcome State Fault Refusal :=
  match bar2Function s port with
  | none => .next s
  | some pf =>
    if off ≥ 0x200000 then .next (unsupportedRequest pf 2 off false s)
    else .next (readRegister (.host port) (off / 0x1000) (off % 0x1000) width s)

/-- HOST_BAR2_WRITE (R60 to R63, R641). -/
def execHostBar2Write (port off width : Nat) (v : Word) (s : State) : Host.Outcome State Fault Refusal :=
  match bar2Function s port with
  | none => .next s
  | some pf =>
    if off ≥ 0x200000 then .next (unsupportedRequest pf 2 off true s)
    else .next (writeRegister (.host port) (off / 0x1000) (off % 0x1000) width v s)

end Sys2Proof.Machine
end

