-- ==== Sys2Proof/Machine/Power.lean ====
section
/-! DEFINITION. The meanings of the power, reset and boundary-scan commands (chapters 15, 16). -/

namespace Sys2Proof.Machine

/-- POWER_ON (R608). -/
def execPowerOn (s : State) : Host.Outcome State Fault Refusal := .next (powerOn s)

/-- PERST_ASSERT (R79, R626). -/
def execPerstAssert (lowNs : Nat) (s : State) : Host.Outcome State Fault Refusal := .next (perstLow lowNs s)

/-- PERST_RELEASE (R598). -/
def execPerstRelease (s : State) : Host.Outcome State Fault Refusal := .next (perstHigh s)

/-- KEEPER_FIRMWARE_RUNNING (R599). -/
def execKeeperFirmwareRunning (s : State) : Host.Outcome State Fault Refusal := .next (firmwareRuns s)

/-- DEVICE_RESET (R609): a device reset has the triggers of R608, so power-on is no cause and PERST_N must be low for its own. -/
def execDeviceReset (cause : ResetCause) (s : State) : Host.Outcome State Fault Refusal :=
  .next (if cause = .powerOn ∨ (cause = .perst ∧ s.pwr.perstN) then s else deviceReset cause s)

/-- RESET_DUMP_END (R609). -/
def execResetDumpEnd (s : State) : Host.Outcome State Fault Refusal := .next (resetDumpEnds s)

/-- PFAIL_DEASSERT (R277, R630). -/
def execPfailDeassert (s : State) : Host.Outcome State Fault Refusal := .next (pfailRises s)

/-- ISLAND_POWER_OFF (R597, R621). -/
def execIslandPowerOff (who : Requester) (n : Nat) (s : State) : Host.Outcome State Fault Refusal :=
  .next (keeperWrite who 1 (0x100 + 4 * n) 1 (islandPowerWrite n true) s)

/-- ISLAND_POWER_ON (R597, R621). -/
def execIslandPowerOn (who : Requester) (n : Nat) (s : State) : Host.Outcome State Fault Refusal :=
  .next (keeperWrite who 1 (0x100 + 4 * n) 0 (islandPowerWrite n false) s)

/-- PS_ENTRY (R601 to R603). -/
def execPsEntry (target : Nat) (s : State) : Host.Outcome State Fault Refusal := .next (psEntry target s)

/-- OPERATIONAL_STATE_CHANGE (R600). -/
def execOperationalStateChange (target : Nat) (s : State) : Host.Outcome State Fault Refusal := .next (operationalChange target s)

/-- PS_EXIT (R125, R602): requests that the state held are served (R24). -/
def execPsExit (s : State) : Host.Outcome State Fault Refusal := .next (serveWoken s (ps3Exit s))

/-- PS4_EXIT (R605): requests that the state held are served (R24). -/
def execPs4Exit (s : State) : Host.Outcome State Fault Refusal := .next (serveWoken s (ps4Exit s))

/-- APST_TRANSITION (R124). -/
def execApstTransition (ctl : Nat) (s : State) : Host.Outcome State Fault Refusal := .next (apstTransition ctl s)

/-- PWR_DEV_RESET (R620). -/
def execPwrDevReset (who : Requester) (v : Word) (s : State) : Host.Outcome State Fault Refusal :=
  .next (keeperWrite who 1 0x48 v (devResetWrite v) s)

/-- KWDOG_KICK (R620). -/
def execKwdogKick (who : Requester) (s : State) : Host.Outcome State Fault Refusal :=
  .next (keeperWrite who 1 0x4C (putBit (getReg s 1 0x4C) 31 true) (fun s => kwdogWrite (putBit (getReg s 1 0x4C) 31 true) s) s)

/-- The watchdog's period has passed without a kick (R614). -/
def kwdogExpires (s : State) : State :=
  let ms := regField s 1 0x4C 15 0
  if ms = 0 ∨ !s.pwr.started ∨ s.pwr.ps ≥ 3 then s
  else
    let s := raiseIrq 1 0x200 (advanceTo (s.pwr.kicked + ms * 1000000) s)
    let recent := s.pwr.expiries.filter fun t => decide (s.tsc < t + 3600 * 10 ^ 9)
    let s := setPwr (fun p => { p with kicked := s.tsc, expiries := recent ++ [s.tsc] }) s
    if recent.length ≥ 2 then deviceReset .kwdog (setPwr (fun p => { p with expiries := [] }) s)
    else islandReinit .keeper (capture 1 0x24 (pageAddr 1 0x4C) s)

/-- KWDOG_EXPIRY (R614). -/
def execKwdogExpiry (s : State) : Host.Outcome State Fault Refusal := .next (kwdogExpires s)

/-- KEEPER_AUTO_REINIT (R613). -/
def execKeeperAutoReinit (n : Nat) (s : State) : Host.Outcome State Fault Refusal := .next (autoReinit n s)

/-- RAIL_OUT_OF_TOLERANCE (R631). -/
def execRailOutOfTolerance (_rail : Nat) (s : State) : Host.Outcome State Fault Refusal := .next (railFails s)

/-- POWER_OFF (R627, R631). -/
def execPowerOff (s : State) : Host.Outcome State Fault Refusal := .next (powerOff s)

/-- SUPPLY_SETPOINT_RAISE (R619): at most 30 mV over the life of the device. -/
def execSupplySetpointRaise (n mv : Nat) (s : State) : Host.Outcome State Fault Refusal :=
  match islandOfSensor n with
  | none => .next s
  | some i => .next (if islandPresent s i then setIsl i (fun h => { h with ageMv := min 30 (h.ageMv + mv) }) s else s)

/-! ## Boundary scan (R636; register lengths and the behaviour of the standard's instructions: log 34) -/

/-- The identification code (R636). -/
def idcode (s : State) : Nat := 2 * 2 ^ 28 + (0x9600 + s.fuses.variant) % 65536 * 4096 + Config.identity 16 % 2048 * 2 + 1

/-- The bits of a number, least significant first. -/
def bitsLsb (n w : Nat) : List Bool := (upTo w).map fun i => n.testBit i

/-- An instruction takes effect: the register it selects captures, and its bits leave at TDO. Without supplies there is no effect. -/
def tapSelect (i : TapInstr) (shift : List Bool) (cells : Option (List Bool)) (driving floating : Bool) (s : State) : State :=
  if !s.pwr.on then s
  else emit (.tdo shift) { s with tap := { instr := i, shift := shift, cells := cells.getD s.tap.cells, driving := driving, floating := floating } }

/-- TAP_RESET (R636): TRST_N is low. -/
def execTapReset (s : State) : Host.Outcome State Fault Refusal := .next { s with tap := {} }

/-- TAP_IDCODE (R636). -/
def execTapIdcode (s : State) : Host.Outcome State Fault Refusal :=
  .next (tapSelect .idcode (bitsLsb (idcode s) 32) none false false s)

/-- TAP_BYPASS (R636): one bit that captures 0. -/
def execTapBypass (s : State) : Host.Outcome State Fault Refusal := .next (tapSelect .bypass [false] none false false s)

/-- TAP_SAMPLE_PRELOAD (R636): the pins are sampled and the cells are loaded. -/
def execTapSamplePreload (pins cells : List Bool) (s : State) : Host.Outcome State Fault Refusal :=
  .next (tapSelect .samplePreload pins (some cells) false false s)

/-- TAP_EXTEST (R636): the cells drive the pins. -/
def execTapExtest (pins cells : List Bool) (s : State) : Host.Outcome State Fault Refusal :=
  .next (tapSelect .extest pins (some cells) true false s)

/-- TAP_HIGHZ (R636): every output is in high impedance, with the bypass register selected. -/
def execTapHighz (s : State) : Host.Outcome State Fault Refusal := .next (tapSelect .highz [false] none false true s)

/-- TAP_CLAMP (R636): the cells go on driving the pins, with the bypass register selected. -/
def execTapClamp (s : State) : Host.Outcome State Fault Refusal := .next (tapSelect .clamp [false] none true false s)

/-- An instruction of IEEE 1149.6: the lanes send what the cells hold; what their receivers capture is free (log 34). -/
def tapLanes (i : TapInstr) (cells : List Bool) (s : State) : State :=
  let (n, s) := draw s
  tapSelect i (bitsLsb n cells.length) (some cells) true false s

/-- TAP_EXTEST_PULSE (R636): the PCIe lanes send a pulse of the cells' levels. -/
def execTapExtestPulse (cells : List Bool) (s : State) : Host.Outcome State Fault Refusal := .next (tapLanes .extestPulse cells s)

/-- TAP_EXTEST_TRAIN (R636): the PCIe lanes send a train of pulses of the cells' levels. -/
def execTapExtestTrain (cells : List Bool) (s : State) : Host.Outcome State Fault Refusal :=
  .next (tapLanes .extestTrain cells s)

end Sys2Proof.Machine
end

