-- ==== Sys2Proof/Machine/Programs.lean ====
section
/-! DEFINITION. The meanings of the computational commands and of the executions they start (chapter 10). -/

namespace Sys2Proof.Machine

/-- LOAD_PROGRAM (R421, R422). -/
def execLoadProgram (ref : CmdRef) (index : Nat) (image : List Byte) (s : State) : Host.Outcome State Fault Refusal :=
  .next (onCmd ref false [0x22] (fun c => onCompute c (loadProgram c index image)) s)

/-- PROGRAM_ACTIVATE (R423). -/
def execProgramActivate (ref : CmdRef) (index ctx : Nat) (record : List Byte) (s : State) : Host.Outcome State Fault Refusal :=
  .next (onCmd ref false [0x23] (fun c => onCompute c (activateProgram c index ctx record)) s)

/-- PROGRAM_DEACTIVATE (R417). -/
def execProgramDeactivate (ref : CmdRef) (index : Nat) (s : State) : Host.Outcome State Fault Refusal :=
  .next (onCmd ref false [0x23] (fun c => onCompute c (deactivateProgram c index)) s)

/-- MEMORY_RANGE_SET_MANAGEMENT (R420). -/
def execMemoryRangeSetManagement (ref : CmdRef) (create : Bool) (rsid : Nat) (ranges : List (Nat × Nat × Nat)) (s : State) :
    Host.Outcome State Fault Refusal :=
  .next (onCmd ref false [0x21] (fun c => onCompute c (rangeSetManage c create rsid ranges)) s)

/-- EXECUTE_PROGRAM (R450): a fetched command that has not started. -/
def execExecuteProgram (ref : CmdRef) (index rsid : Nat) (params : List Byte) (s : State) : Host.Outcome State Fault Refusal :=
  match cmdOf s ref with
  | none => .next s
  | some c =>
    if executes s c && c.phase == .fetched && c.cpl.isNone && s.rgs.waiting.all (fun w => w.ref != ref) then
      .next (onCompute c (executeProgram c index rsid params) s)
    else .next s

/-- EXECUTION_START (R450). -/
def execExecutionStart (ref : CmdRef) (s : State) : Host.Outcome State Fault Refusal := .next (startExecution ref s)

/-- EXECUTION_END (R451, R454). -/
def execExecutionEnd (exec : Nat) (s : State) : Host.Outcome State Fault Refusal := .next (endExecution exec s)

/-- READ_MEMORY (R417, R419). -/
def execReadMemory (ref : CmdRef) (off len : Nat) (s : State) : Host.Outcome State Fault Refusal :=
  .next (onCmd ref false [0x02] (fun c => if nsSet s c.nsid = 3 then readSlm c off len else id) s)

/-- WRITE_MEMORY (R417, R419). -/
def execWriteMemory (ref : CmdRef) (off : Nat) (data : List Byte) (s : State) : Host.Outcome State Fault Refusal :=
  .next (onCmd ref false [0x01] (fun c => if nsSet s c.nsid = 3 then writeSlm c off data else id) s)

/-- STREAM_HALF_FILLED (R447). -/
def execStreamHalfFilled (g w : Nat) (s : State) : Host.Outcome State Fault Refusal :=
  .next (fillHalf g w s)

end Sys2Proof.Machine
end

