-- ==== Sys2Proof/Machine/Security.lean ====
section
/-! DEFINITION. The meanings of the key, cipher, digest and fuse commands (chapter 13). -/

namespace Sys2Proof.Machine

/-- KEY_GENERATE (R532): a random key into a slot, its wrapped record into KEY_WRAP. -/
def execKeyGenerate (who : Requester) (cls kind len slot : Nat) (s : State) : Host.Outcome State Fault Refusal :=
  .next (keeperWrite who 250 0x40 (keyWord 1 cls kind len slot) (fun s => sendDue (keyCommand (keyWord 1 cls kind len slot) s)) s)

/-- KEY_UNWRAP (R532): the record in KEY_WRAP into a slot. -/
def execKeyUnwrap (who : Requester) (cls slot : Nat) (s : State) : Host.Outcome State Fault Refusal :=
  .next (keeperWrite who 250 0x40 (keyWord 2 cls 0 0 slot) (fun s => sendDue (keyCommand (keyWord 2 cls 0 0 slot) s)) s)

/-- KEY_CLEAR (R532): a slot is zeroed and empty. -/
def execKeyClear (who : Requester) (cls slot : Nat) (s : State) : Host.Outcome State Fault Refusal :=
  .next (keeperWrite who 250 0x40 (keyWord 3 cls 0 0 slot) (fun s => sendDue (keyCommand (keyWord 3 cls 0 0 slot) s)) s)

/-- KEY_STATUS (R532): the slot's information registers are loaded. -/
def execKeyStatus (who : Requester) (cls slot : Nat) (s : State) : Host.Outcome State Fault Refusal :=
  .next (keeperWrite who 250 0x40 (keyWord 4 cls 0 0 slot) (fun s => sendDue (keyCommand (keyWord 4 cls 0 0 slot) s)) s)

/-- SCE_ACQUIRE (R536): the lock goes to the first writer while it is free. -/
def execSceAcquire (k : Nat) (s : State) : Host.Outcome State Fault Refusal :=
  .next (keeperWrite (.keeper k) 248 0x40 0x80000000 (sceLockWrite k 0x80000000) s)

/-- SCE_RELEASE (R538): the owner frees the lock; a message in service ends with 0x15. -/
def execSceRelease (k : Nat) (s : State) : Host.Outcome State Fault Refusal :=
  .next (keeperWrite (.keeper k) 248 0x40 0x40000000 (sceLockWrite k 0x40000000) s)

/-- SCE_FORCE (R538): any keeper core frees the lock with the key 0xF0CE. -/
def execSceForce (who : Requester) (v : Word) (s : State) : Host.Outcome State Fault Refusal :=
  .next (keeperWrite who 248 0x54 v (sceForceWrite v) s)

/-- SCE_MESSAGE_START (R539): the owner writes SCE_CTRL with go. -/
def execSceMessageStart (k : Nat) (v : Word) (s : State) : Host.Outcome State Fault Refusal :=
  .next (keeperWrite (.keeper k) 248 0x44 (putBit v 31 true) (sceCtrlWrite k (putBit v 31 true)) s)

/-- SCE_MESSAGE_END (R544, R546): the message in service ends. -/
def execSceMessageEnd (s : State) : Host.Outcome State Fault Refusal := .next (sceEnd s)

/-- DGE_HASH_PART (R549): a part starts in a digest engine. -/
def execDgeHashPart (who : Requester) (e : Nat) (v : Word) (s : State) : Host.Outcome State Fault Refusal :=
  .next (keeperWrite who 249 (dgeBase e) (putBits (putBit v 31 true) 30 28 1) (dgeCtrlWrite e (putBits (putBit v 31 true) 30 28 1)) s)

/-- The word of DGE_CTRL that starts an operation (R555). -/
def dgeOpWord (s : State) (e op : Nat) : Word := putBits (putBit (getReg s 249 (dgeBase e)) 31 true) 30 28 op

/-- DGE_SAVE (R553): the engine's state is written as a record. -/
def execDgeSave (who : Requester) (e : Nat) (s : State) : Host.Outcome State Fault Refusal :=
  .next (keeperWrite who 249 (dgeBase e) (dgeOpWord s e 2) (dgeSave e) s)

/-- DGE_RESTORE (R553): a record is loaded into the engine. -/
def execDgeRestore (who : Requester) (e : Nat) (s : State) : Host.Outcome State Fault Refusal :=
  .next (keeperWrite who 249 (dgeBase e) (dgeOpWord s e 3) (dgeRestore e) s)

/-- DGE_PART_END (R549): a part read by DMA ends. -/
def execDgePartEnd (e : Nat) (s : State) : Host.Outcome State Fault Refusal := .next (dgePartEnd e s)

/-- DGE_DATA (R550): four bytes of a word-mode part. -/
def execDgeData (who : Requester) (e : Nat) (v : Word) (s : State) : Host.Outcome State Fault Refusal :=
  .next (keeperWrite who 249 (dgeBase e + 0x20) v (dgeData e v) s)

/-- DGE_LAST (R550): the last word of a word-mode part. -/
def execDgeLast (who : Requester) (e : Nat) (v : Word) (s : State) : Host.Outcome State Fault Refusal :=
  .next (keeperWrite who 249 (dgeBase e + 0x28) v (dgeLast e v) s)

/-- KEY_PK_REVOKE (R559): key indices are revoked for good, but never all. -/
def execKeyPkRevoke (who : Requester) (v : Word) (s : State) : Host.Outcome State Fault Refusal :=
  .next (keeperWrite who 251 0xD0 v (revokeWrite v) s)

/-- KEY_ROLLBACK (R559): the rollback floor rises. -/
def execKeyRollback (who : Requester) (v : Word) (s : State) : Host.Outcome State Fault Refusal :=
  .next (keeperWrite who 250 0x58 v (rollbackWrite v) s)

/-- The vendor event of an alarm reaches every controller that has enabled it (R565). Which bit of feature 0x0B enables it is not stated:
free where the feature is not 0 (log 42). -/
def alarmEvent (s : State) : State :=
  doAll (fun c s =>
    if ctlFeat s c 0x0B 0 0 = 0 then s
    else
      let (n, s) := draw s
      if n % 2 = 1 then asyncEvent c { type := 7, info := 0, lid := 0xC8 } s else s) (s.acc.ctls.keys.filter fun c => (ctlOf s c).enabled) s

/-- The message in the SCE ends with 0x16, and its state is wiped (R563, R564). -/
def sceAlarm (s : State) : State :=
  let s := if s.sec.msg.isSome then raiseIrq 248 0x100 (sceAbort 0x16 s) else s
  putRegBlock 248 0x80 (zeros 16) (putRegBlock 248 0x90 (zeros 16) (setSec (fun x => { x with owner := 0xFF, sceInvoc := 0 }) s))

/-- Both digest engines are cleared; a part in one ends with 0x14 (R552, R564). -/
def dgeAlarm (s : State) : State :=
  let done := (upTo 2).filter fun e => (dge s e).busy
  doAll (fun e s => raiseIrq 249 (word (0x100 * 2 ^ e)) s) done (dgeClearBoth 0x14 s)

/-- SECURITY_ALARM (R562 to R565, R567): keys and engine states are zeroed and the device is unarmed. -/
def execSecurityAlarm (ev : AlarmEvent) (s : State) : Host.Outcome State Fault Refusal :=
  let owner := s.sec.owner
  let s := dgeAlarm (sceAlarm s)
  let s := putKeyWrap (zeros 88) (setSec (fun x => { x with slots := [], armed := false }) s)
  let s := setSec (fun x => { x with
    latched := if x.latched.contains ev.source then x.latched else ev.source :: x.latched
    live := if x.live.contains ev.source then x.live else ev.source :: x.live
    count := satAdd 255 x.count 1, lastSource := ev.source, lastDetector := ev.detector, lastTsc := s.tsc
    log := ({ tsc := s.tsc, source := ev.source, detector := ev.detector, outcome := 0, owner := owner, tscRearm := 0 } :: x.log).take 64
    total := satAdd 0xFFFFFFFF x.total 1 }) s
  let s := capture 2 0x20 (pageAddr 2 0x40) (raiseIrq 2 0x100 s)
  .next (alarmEvent (xtsClear s))

/-- ALM_REARM (R566): a keeper re-arms the device. -/
def execAlmRearm (who : Requester) (s : State) : Host.Outcome State Fault Refusal :=
  .next (keeperWrite who 2 0x48 0x80000000 rearmWrite s)

end Sys2Proof.Machine
end

