-- ==== Sys2Proof/Machine/Tickets.lean ====
section
/-! DEFINITION. The meanings of the Registrar's commands: submissions, posts, ends, dispatch, delay lists, budgets, fences, cancels and context commands (chapter 10). -/

namespace Sys2Proof.Machine

/-- A descriptor reaches the Registrar from a core: dropped at a closed gate (R458), answered not-ready while the island takes
no work (R25, R462), else accepted or refused (R429). -/
def submission (c : CoreId) (desc : List Byte) (s : State) : State :=
  match c with
  | .docent g _ =>
    if coreFenced s c then gateDrop g s
    else if registrarRefuses s then emit (.errorResponse 2) (capture 232 2 (pageAddr 232 0) s)
    else (submitDesc c desc s).2
  | .keeper _ =>
    if registrarRefuses s then emit (.errorResponse 2) (capture 232 2 (pageAddr 232 0) s)
    else (submitDesc c desc s).2

/-- TICKET_SUBMIT (R429). -/
def execTicketSubmit (c : CoreId) (desc : List Byte) (s : State) : Host.Outcome State Fault Refusal :=
  .next (submission c desc s)

/-- MOVE_SUBMIT (R446). -/
def execMoveSubmit (c : CoreId) (desc : List Byte) (s : State) : Host.Outcome State Fault Refusal :=
  .next (submission c desc s)

/-- STREAM_END (R448). -/
def execStreamEnd (g w : Nat) (s : State) : Host.Outcome State Fault Refusal := .next (unbindIfDone g w s)

/-- OUT_MOVE_COMPLETE (R449): the buffer of a move that runs is read as it runs, DRAM holds every byte before the post. The status of a move
whose DRAM access fails is a free value (log 23). -/
def execOutMoveComplete (slot : Nat) (s : State) : Host.Outcome State Fault Refusal :=
  match Tab.get? s.rgs.moves slot with
  | none => .next s
  | some m =>
    if m.kind ≠ 2 ∨ !m.started then .next s
    else
      let bytes := readMem s (galleryShareBase m.gallery + (m.src - 0x100000)) m.length
      let (code, s) := dramWrite 0 (addrMask (ctxSlmBase s m.ctx + m.dst)) bytes s
      let (v, s) := if code = 0 then (0, s) else draw s
      .next (endMove slot (v % 256) m.length s)

/-- TICKET_POST (R432). -/
def execTicketPost (slot : Nat) (v : BitVec 64) (s : State) : Host.Outcome State Fault Refusal := .next (postSlot slot v.toNat s)

/-- TICKET_END (R432). -/
def execTicketEnd (g k status : Nat) (s : State) : Host.Outcome State Fault Refusal := .next (endTicket g k status s)

/-- TICKET_DISPATCH (R438). -/
def execTicketDispatch (s : State) : Host.Outcome State Fault Refusal := .next (dispatchOne s)

/-- DELAY_LIST_TICK (R442): the tick of an enabled list comes. -/
def execDelayListTick (i : Nat) (s : State) : Host.Outcome State Fault Refusal :=
  let period := regField s 235 (0x40 + 4 * i) 19 0
  if period = 0 then .next s
  else
    let d := Tab.getD s.rgs.delays i {}
    .next (advanceTo (d.base + (d.total + 1) * period)
      (setRgs (fun r => { r with delays := Tab.set r.delays i { d with ticks := (d.ticks + 1) % 2 ^ 32, total := d.total + 1 } }) s))

/-- DELAYED_TICKET_EXPIRY (R443). -/
def execDelayedTicketExpiry (i : Nat) (s : State) : Host.Outcome State Fault Refusal := .next (doAll becomeReady (expiredOn s i) s)

/-- TICKET_BUDGET_EXPIRY (R455): the core gets a stop. -/
def execTicketBudgetExpiry (slot : Nat) (s : State) : Host.Outcome State Fault Refusal :=
  match Tab.get? s.rgs.tickets slot with
  | none => .next s
  | some t =>
    match t.state with
    | .inService g k => .next (stopCore g k (advanceTo (t.dispatched + ctxBudget s t.ctx * 1000) s))
    | .held _ => .next s
    | .delayed _ _ => .next s
    | .flowWaiting => .next s
    | .ready _ => .next s
    | .moving => .next s

/-- STOP_TIMEOUT_FENCE (R456). -/
def execStopTimeoutFence (g k : Nat) (s : State) : Host.Outcome State Fault Refusal :=
  match (getCore s (.docent g k)).stopAt with
  | none => .next s
  | some t => .next (fenceCore g k (advanceTo (t + 2000) s))

/-- FENCED_CORE_REQUEST (R458). -/
def execFencedCoreRequest (g k : Nat) (s : State) : Host.Outcome State Fault Refusal :=
  .next (onlyIf (coreFenced s (.docent g k)) (gateDrop g) s)

/-- RUN_LIMIT_EXPIRY (R453). -/
def execRunLimitExpiry (exec : Nat) (s : State) : Host.Outcome State Fault Refusal :=
  match Tab.get? s.rgs.execs exec with
  | none => .next s
  | some x =>
    if ctxRunLimit s x.ctx = 0 then .next s
    else .next (cancelExecution exec .runLimit (advanceTo (x.start + ctxRunLimit s x.ctx * 1000000) s))

/-- RGS_EXEC_CANCEL (R463). -/
def execRgsExecCancel (who : Requester) (v : Word) (s : State) : Host.Outcome State Fault Refusal :=
  .next (keeperWrite who 232 0x64 v (execCancelWrite v) s)

/-- RGS_SLOT_CANCEL (R463). -/
def execRgsSlotCancel (who : Requester) (v : Word) (s : State) : Host.Outcome State Fault Refusal :=
  .next (keeperWrite who 232 0x68 v (slotCancelWrite v) s)

/-- CONTEXT_WRITE (R425): RGS_CTX_CMD takes 1. -/
def execContextWrite (who : Requester) (s : State) : Host.Outcome State Fault Refusal :=
  .next (keeperWrite who 233 0x44 1 (ctxCommand 1) s)

/-- CONTEXT_READ (R463): RGS_CTX_CMD takes 2. -/
def execContextRead (who : Requester) (s : State) : Host.Outcome State Fault Refusal :=
  .next (keeperWrite who 233 0x44 2 (ctxCommand 2) s)

/-- DELAY_LIST_PERIOD_WRITE (R444). -/
def execDelayListPeriodWrite (who : Requester) (i : Nat) (v : Word) (s : State) : Host.Outcome State Fault Refusal :=
  .next (keeperWrite who 235 (0x40 + 4 * i) v (delayPeriodWrite i v) s)

/-- GALLERY_SELF_TEST_DONE (R459). -/
def execGallerySelfTestDone (g : Nat) (failed : List Nat) (s : State) : Host.Outcome State Fault Refusal :=
  .next (selfTestCores g failed s)

end Sys2Proof.Machine
end

