-- ==== Sys2Proof/Machine/Dispatch.lean ====
section
/-! DEFINITION. One arm for every command: the call of its meaning. -/

namespace Sys2Proof.Machine

/-- The effect of a command on everything but the queue. -/
def exec (i : Instr) (s : State) : Host.Outcome State Fault Refusal :=
  match i with
  | .crossingRequest id src dst op place => Sys2Proof.Machine.execCrossingRequest id src dst op place s
  | .islandWake dst => Sys2Proof.Machine.execIslandWake dst s
  | .crossingResponse id => Sys2Proof.Machine.execCrossingResponse id s
  | .staleResponseDrop id => Sys2Proof.Machine.execStaleResponseDrop id s
  | .registerWrite who page off width v => Sys2Proof.Machine.execRegisterWrite who page off width v s
  | .pgLock who page => Sys2Proof.Machine.execPgLock who page s
  | .pgEnableWrite who page enable => Sys2Proof.Machine.execPgEnableWrite who page enable s
  | .quiesceRequest who page => Sys2Proof.Machine.execQuiesceRequest who page s
  | .quiesceRelease who page => Sys2Proof.Machine.execQuiesceRelease who page s
  | .quiesceDone page => Sys2Proof.Machine.execQuiesceDone page s
  | .islandReinit who page => Sys2Proof.Machine.execIslandReinit who page s
  | .islandReady dst => Sys2Proof.Machine.execIslandReady dst s
  | .irqStatusClear who page v => Sys2Proof.Machine.execIrqStatusClear who page v s
  | .irqSet who page v => Sys2Proof.Machine.execIrqSet who page v s
  | .errAddrLoRead who page => Sys2Proof.Machine.execErrAddrLoRead who page s
  | .topUidLoRead who => Sys2Proof.Machine.execTopUidLoRead who s
  | .tscLoRead who => Sys2Proof.Machine.execTscLoRead who s
  | .counterLoRead who page off => Sys2Proof.Machine.execCounterLoRead who page off s
  | .hostBar2Read port off width => Sys2Proof.Machine.execHostBar2Read port off width s
  | .hostBar2Write port off width v => Sys2Proof.Machine.execHostBar2Write port off width v s
  | .powerOn => Sys2Proof.Machine.execPowerOn s
  | .perstAssert lowNs => Sys2Proof.Machine.execPerstAssert lowNs s
  | .perstRelease => Sys2Proof.Machine.execPerstRelease s
  | .keeperFirmwareRunning => Sys2Proof.Machine.execKeeperFirmwareRunning s
  | .configRequest ctl reg write => Sys2Proof.Machine.execConfigRequest ctl reg write s
  | .deviceReset cause => Sys2Proof.Machine.execDeviceReset cause s
  | .resetDumpEnd => Sys2Proof.Machine.execResetDumpEnd s
  | .linkTrainingDone port sub partner => Sys2Proof.Machine.execLinkTrainingDone port sub partner s
  | .surpriseDown port sub => Sys2Proof.Machine.execSurpriseDown port sub s
  | .linkRetrain who port sub => Sys2Proof.Machine.execLinkRetrain who port sub s
  | .completionTimeout port sub tag => Sys2Proof.Machine.execCompletionTimeout port sub tag s
  | .hostCompletionTlp port sub tag poisoned => Sys2Proof.Machine.execHostCompletionTlp port sub tag poisoned s
  | .barUnsupportedRequest ctl bar off width write => Sys2Proof.Machine.execBarUnsupportedRequest ctl bar off width write s
  | .bar0BadAccess ctl off width write => Sys2Proof.Machine.execBar0BadAccess ctl off width write s
  | .controllerRegisterWrite ctl off width v => Sys2Proof.Machine.execControllerRegisterWrite ctl off width v s
  | .vfEnable port sub enable => Sys2Proof.Machine.execVfEnable port sub enable s
  | .sqDoorbell ctl q v => Sys2Proof.Machine.execSqDoorbell ctl q v s
  | .cqDoorbell ctl q v => Sys2Proof.Machine.execCqDoorbell ctl q v s
  | .nssrWrite ctl v => Sys2Proof.Machine.execNssrWrite ctl v s
  | .controllerEnable ctl cc => Sys2Proof.Machine.execControllerEnable ctl cc s
  | .controllerReady ctl => Sys2Proof.Machine.execControllerReady ctl s
  | .controllerReset ctl => Sys2Proof.Machine.execControllerReset ctl s
  | .functionLevelReset ctl => Sys2Proof.Machine.execFunctionLevelReset ctl s
  | .shutdownNotification ctl shn => Sys2Proof.Machine.execShutdownNotification ctl shn s
  | .shutdownComplete ctl => Sys2Proof.Machine.execShutdownComplete ctl s
  | .sqeFetch => Sys2Proof.Machine.execSqeFetch s
  | .sqeArrive ctl sq h => Sys2Proof.Machine.execSqeArrive ctl sq h s
  | .commandStart ref => Sys2Proof.Machine.execCommandStart ref s
  | .commandComplete ref => Sys2Proof.Machine.execCommandComplete ref s
  | .cqePost ctl cq => Sys2Proof.Machine.execCqePost ctl cq s
  | .coalesceTimerExpiry ctl vec => Sys2Proof.Machine.execCoalesceTimerExpiry ctl vec s
  | .msixUnmask ctl vec => Sys2Proof.Machine.execMsixUnmask ctl vec s
  | .deleteIoSq ref qid => Sys2Proof.Machine.execDeleteIoSq ref qid s
  | .createIoSq ref qid qsize contiguous cqid prio => Sys2Proof.Machine.execCreateIoSq ref qid qsize contiguous cqid prio s
  | .deleteIoCq ref qid => Sys2Proof.Machine.execDeleteIoCq ref qid s
  | .createIoCq ref qid qsize contiguous interrupts vec => Sys2Proof.Machine.execCreateIoCq ref qid qsize contiguous interrupts vec s
  | .getLogPage ref lid numd lpo rae => Sys2Proof.Machine.execGetLogPage ref lid numd lpo rae s
  | .identify ref cns cntid csi => Sys2Proof.Machine.execIdentify ref cns cntid csi s
  | .abort ref sqid cid => Sys2Proof.Machine.execAbort ref sqid cid s
  | .setFeatures ref fid save dw11 dw12 data => Sys2Proof.Machine.execSetFeatures ref fid save dw11 dw12 data s
  | .getFeatures ref fid sel dw11 => Sys2Proof.Machine.execGetFeatures ref fid sel dw11 s
  | .asyncEventRequest ref => Sys2Proof.Machine.execAsyncEventRequest ref s
  | .nsMgmtCreate ref attrs => Sys2Proof.Machine.execNsMgmtCreate ref attrs s
  | .nsMgmtDelete ref => Sys2Proof.Machine.execNsMgmtDelete ref s
  | .nsAttach ref ctls => Sys2Proof.Machine.execNsAttach ref ctls s
  | .nsDetach ref ctls => Sys2Proof.Machine.execNsDetach ref ctls s
  | .firmwareImageDownload ref numd ofst data => Sys2Proof.Machine.execFirmwareImageDownload ref numd ofst data s
  | .firmwareCommitReplace ref action slot => Sys2Proof.Machine.execFirmwareCommitReplace ref action slot s
  | .firmwareCommitAtReset ref slot => Sys2Proof.Machine.execFirmwareCommitAtReset ref slot s
  | .firmwareCommitSlotSelect ref slot => Sys2Proof.Machine.execFirmwareCommitSlotSelect ref slot s
  | .firmwareCommitImmediate ref slot => Sys2Proof.Machine.execFirmwareCommitImmediate ref slot s
  | .fwActivationStart => Sys2Proof.Machine.execFwActivationStart s
  | .fwActivationTimeout => Sys2Proof.Machine.execFwActivationTimeout s
  | .fwActivationComplete => Sys2Proof.Machine.execFwActivationComplete s
  | .selfTestShort ref => Sys2Proof.Machine.execSelfTestShort ref s
  | .selfTestExtended ref => Sys2Proof.Machine.execSelfTestExtended ref s
  | .selfTestAbort ref => Sys2Proof.Machine.execSelfTestAbort ref s
  | .selfTestComplete found => Sys2Proof.Machine.execSelfTestComplete found s
  | .virtualizationManagement ref act rt cntlid nr => Sys2Proof.Machine.execVirtualizationManagement ref act rt cntlid nr s
  | .formatNvm ref lbaf ses => Sys2Proof.Machine.execFormatNvm ref lbaf ses s
  | .formatComplete => Sys2Proof.Machine.execFormatComplete s
  | .sanitizeBlockErase ref act => Sys2Proof.Machine.execSanitizeBlockErase ref act s
  | .sanitizeCryptoErase ref => Sys2Proof.Machine.execSanitizeCryptoErase ref s
  | .sanitizeExitFailure ref => Sys2Proof.Machine.execSanitizeExitFailure ref s
  | .sanitizeComplete ok => Sys2Proof.Machine.execSanitizeComplete ok s
  | .smbusMiRead code len => Sys2Proof.Machine.execSmbusMiRead code len s
  | .sidebandRefresh => Sys2Proof.Machine.execSidebandRefresh s
  | .wingDiscovery who wing answers => Sys2Proof.Machine.execWingDiscovery who wing answers s
  | .referenceGeometryFound => Sys2Proof.Machine.execReferenceGeometryFound s
  | .channelTrainingDone ch ok => Sys2Proof.Machine.execChannelTrainingDone ch ok s
  | .channelRetrain who ch => Sys2Proof.Machine.execChannelRetrain who ch s
  | .channelOperationSubmit ch d data oob => Sys2Proof.Machine.execChannelOperationSubmit ch d data oob s
  | .channelOperationStart ch => Sys2Proof.Machine.execChannelOperationStart ch s
  | .flashRead ch die codewords => Sys2Proof.Machine.execFlashRead ch die codewords s
  | .flashVerify ch die codewords => Sys2Proof.Machine.execFlashVerify ch die codewords s
  | .flashProgram ch die ok ns => Sys2Proof.Machine.execFlashProgram ch die ok ns s
  | .flashErase ch die ok ns => Sys2Proof.Machine.execFlashErase ch die ok ns s
  | .flashReadStatus ch die statusByte => Sys2Proof.Machine.execFlashReadStatus ch die statusByte s
  | .dieOperationEnd ch die => Sys2Proof.Machine.execDieOperationEnd ch die s
  | .bufferSlotRelease ch tag => Sys2Proof.Machine.execBufferSlotRelease ch tag s
  | .operationResume ch die => Sys2Proof.Machine.execOperationResume ch die s
  | .dieBusyTimeout ch die => Sys2Proof.Machine.execDieBusyTimeout ch die s
  | .dieResetTimeout ch die => Sys2Proof.Machine.execDieResetTimeout ch die s
  | .keeperDieCheck ch die readable failedPages => Sys2Proof.Machine.execKeeperDieCheck ch die readable failedPages s
  | .fenceRecordDurable ch die => Sys2Proof.Machine.execFenceRecordDurable ch die s
  | .fencedDieResponse ch die => Sys2Proof.Machine.execFencedDieResponse ch die s
  | .dieFence who ch die => Sys2Proof.Machine.execDieFence who ch die s
  | .dieQualify who ch die => Sys2Proof.Machine.execDieQualify who ch die s
  | .dieQualifyEnd ch test => Sys2Proof.Machine.execDieQualifyEnd ch test s
  | .channelQualify who ch => Sys2Proof.Machine.execChannelQualify who ch s
  | .dieRestoreFence who ch die reason => Sys2Proof.Machine.execDieRestoreFence who ch die reason s
  | .pfailAssert lowNs => Sys2Proof.Machine.execPfailAssert lowNs s
  | .dumpDieCutoff notReady => Sys2Proof.Machine.execDumpDieCutoff notReady s
  | .dumpEnd => Sys2Proof.Machine.execDumpEnd s
  | .pfailDeassert => Sys2Proof.Machine.execPfailDeassert s
  | .holdupMeasure => Sys2Proof.Machine.execHoldupMeasure s
  | .holdupMeasureEnd before after => Sys2Proof.Machine.execHoldupMeasureEnd before after s
  | .bankCharged => Sys2Proof.Machine.execBankCharged s
  | .bankChargeTimeout => Sys2Proof.Machine.execBankChargeTimeout s
  | .read ref lba nlb => Sys2Proof.Machine.execRead ref lba nlb s
  | .write ref lba data => Sys2Proof.Machine.execWrite ref lba data s
  | .writeChargeAdmit ref => Sys2Proof.Machine.execWriteChargeAdmit ref s
  | .writeZeroes ref lba nlb => Sys2Proof.Machine.execWriteZeroes ref lba nlb s
  | .datasetManagement ref deallocate ranges => Sys2Proof.Machine.execDatasetManagement ref deallocate ranges s
  | .compare ref lba data => Sys2Proof.Machine.execCompare ref lba data s
  | .verify ref lba nlb => Sys2Proof.Machine.execVerify ref lba nlb s
  | .flush ref => Sys2Proof.Machine.execFlush ref s
  | .mapEntryRestore gmu bad => Sys2Proof.Machine.execMapEntryRestore gmu bad s
  | .partialMuFill entry => Sys2Proof.Machine.execPartialMuFill entry s
  | .inlineCompressRequest entry => Sys2Proof.Machine.execInlineCompressRequest entry s
  | .inlineCompressDone entry => Sys2Proof.Machine.execInlineCompressDone entry s
  | .inlineDecompressRequest ref mu => Sys2Proof.Machine.execInlineDecompressRequest ref mu s
  | .pageFillTimeout page => Sys2Proof.Machine.execPageFillTimeout page s
  | .pageProgrammed page => Sys2Proof.Machine.execPageProgrammed page s
  | .parityProgrammed set row => Sys2Proof.Machine.execParityProgrammed set row s
  | .stripeSetOpen wing stream => Sys2Proof.Machine.execStripeSetOpen wing stream s
  | .parityRelease set => Sys2Proof.Machine.execParityRelease set s
  | .garbageCollectionStart wing => Sys2Proof.Machine.execGarbageCollectionStart wing s
  | .relocation gmu => Sys2Proof.Machine.execRelocation gmu s
  | .stripeSetFree set => Sys2Proof.Machine.execStripeSetFree set s
  | .blockDeaccession psa reason => Sys2Proof.Machine.execBlockDeaccession psa reason s
  | .journalPageDurable => Sys2Proof.Machine.execJournalPageDurable s
  | .journalAdvance => Sys2Proof.Machine.execJournalAdvance s
  | .rootRecordWrite => Sys2Proof.Machine.execRootRecordWrite s
  | .recovery bad => Sys2Proof.Machine.execRecovery bad s
  | .dumpConsumed => Sys2Proof.Machine.execDumpConsumed s
  | .latencyWindowEnd => Sys2Proof.Machine.execLatencyWindowEnd s
  | .patrolVerify => Sys2Proof.Machine.execPatrolVerify s
  | .thresholdRewrite set => Sys2Proof.Machine.execThresholdRewrite set s
  | .effectiveAgeTick dieTemps => Sys2Proof.Machine.execEffectiveAgeTick dieTemps s
  | .blockGroupCalibration ch die group => Sys2Proof.Machine.execBlockGroupCalibration ch die group s
  | .retrainTrigger dram n => Sys2Proof.Machine.execRetrainTrigger dram n s
  | .scheduleRecordWrite => Sys2Proof.Machine.execScheduleRecordWrite s
  | .sensorInvalid n reading => Sys2Proof.Machine.execSensorInvalid n reading s
  | .sensorRevalid n reading => Sys2Proof.Machine.execSensorRevalid n reading s
  | .thermalLoopTick readings => Sys2Proof.Machine.execThermalLoopTick readings s
  | .utilisationDvfsEval busy => Sys2Proof.Machine.execUtilisationDvfsEval busy s
  | .monitorEventSample source inst value => Sys2Proof.Machine.execMonitorEventSample source inst value s
  | .monitorLevelSample j => Sys2Proof.Machine.execMonitorLevelSample j s
  | .monCountLoRead who j => Sys2Proof.Machine.execMonCountLoRead who j s
  | .monClr who j => Sys2Proof.Machine.execMonClr who j s
  | .monitorConfigWrite who j which v => Sys2Proof.Machine.execMonitorConfigWrite who j which v s
  | .cmpRingTailWrite who island ring v => Sys2Proof.Machine.execCmpRingTailWrite who island ring v s
  | .cmpRingEnable who island ring v => Sys2Proof.Machine.execCmpRingEnable who island ring v s
  | .cmpJobFetch island => Sys2Proof.Machine.execCmpJobFetch island s
  | .cmpJobCompress job => Sys2Proof.Machine.execCmpJobCompress job s
  | .cmpJobDecompress job => Sys2Proof.Machine.execCmpJobDecompress job s
  | .cmpJobComplete job => Sys2Proof.Machine.execCmpJobComplete job s
  | .opIll c w => Sys2Proof.Machine.execOpIll c w s
  | .opLd c w => Sys2Proof.Machine.execOpLd c w s
  | .opSt c w => Sys2Proof.Machine.execOpSt c w s
  | .opLdi c w => Sys2Proof.Machine.execOpLdi c w s
  | .opAdd c w => Sys2Proof.Machine.execOpAdd c w s
  | .opSub c w => Sys2Proof.Machine.execOpSub c w s
  | .opRsb c w => Sys2Proof.Machine.execOpRsb c w s
  | .opAddi c w => Sys2Proof.Machine.execOpAddi c w s
  | .opAnd c w => Sys2Proof.Machine.execOpAnd c w s
  | .opOr c w => Sys2Proof.Machine.execOpOr c w s
  | .opXor c w => Sys2Proof.Machine.execOpXor c w s
  | .opMin c w => Sys2Proof.Machine.execOpMin c w s
  | .opMax c w => Sys2Proof.Machine.execOpMax c w s
  | .opCmpeq c w => Sys2Proof.Machine.execOpCmpeq c w s
  | .opCmpgt c w => Sys2Proof.Machine.execOpCmpgt c w s
  | .opCmplt c w => Sys2Proof.Machine.execOpCmplt c w s
  | .opTst c w => Sys2Proof.Machine.execOpTst c w s
  | .opShl c w => Sys2Proof.Machine.execOpShl c w s
  | .opShr c w => Sys2Proof.Machine.execOpShr c w s
  | .opSld c w => Sys2Proof.Machine.execOpSld c w s
  | .opSlu c w => Sys2Proof.Machine.execOpSlu c w s
  | .opSel c w => Sys2Proof.Machine.execOpSel c w s
  | .opHsum c w => Sys2Proof.Machine.execOpHsum c w s
  | .opAbs c w => Sys2Proof.Machine.execOpAbs c w s
  | .opMcnt c w => Sys2Proof.Machine.execOpMcnt c w s
  | .opMfst c w => Sys2Proof.Machine.execOpMfst c w s
  | .opMld c w => Sys2Proof.Machine.execOpMld c w s
  | .opMst c w => Sys2Proof.Machine.execOpMst c w s
  | .opMnot c w => Sys2Proof.Machine.execOpMnot c w s
  | .opXadd c w => Sys2Proof.Machine.execOpXadd c w s
  | .opMul c w => Sys2Proof.Machine.execOpMul c w s
  | .opMula c w => Sys2Proof.Machine.execOpMula c w s
  | .productLand c => Sys2Proof.Machine.execProductLand c s
  | .opLdlo c w => Sys2Proof.Machine.execOpLdlo c w s
  | .opLdhi c w => Sys2Proof.Machine.execOpLdhi c w s
  | .opAdlo c w => Sys2Proof.Machine.execOpAdlo c w s
  | .opIxl c w => Sys2Proof.Machine.execOpIxl c w s
  | .opIxs c w => Sys2Proof.Machine.execOpIxs c w s
  | .opIyl c w => Sys2Proof.Machine.execOpIyl c w s
  | .opIys c w => Sys2Proof.Machine.execOpIys c w s
  | .opIxa c w => Sys2Proof.Machine.execOpIxa c w s
  | .opIya c w => Sys2Proof.Machine.execOpIya c w s
  | .opIxc c w => Sys2Proof.Machine.execOpIxc c w s
  | .opIyc c w => Sys2Proof.Machine.execOpIyc c w s
  | .opXfr c w => Sys2Proof.Machine.execOpXfr c w s
  | .opBr c w => Sys2Proof.Machine.execOpBr c w s
  | .opCall c w => Sys2Proof.Machine.execOpCall c w s
  | .opRet c w => Sys2Proof.Machine.execOpRet c w s
  | .opEnd c w => Sys2Proof.Machine.execOpEnd c w s
  | .opTkt c w => Sys2Proof.Machine.execOpTkt c w s
  | .opNop c w => Sys2Proof.Machine.execOpNop c w s
  | .opFence c w => Sys2Proof.Machine.execOpFence c w s
  | .opFld c w => Sys2Proof.Machine.execOpFld c w s
  | .opFst c w => Sys2Proof.Machine.execOpFst c w s
  | .opPrd c w => Sys2Proof.Machine.execOpPrd c w s
  | .opPwr c w => Sys2Proof.Machine.execOpPwr c w s
  | .opMbp c w => Sys2Proof.Machine.execOpMbp c w s
  | .opMbt c w => Sys2Proof.Machine.execOpMbt c w s
  | .opCsave c w => Sys2Proof.Machine.execOpCsave c w s
  | .opCrest c w => Sys2Proof.Machine.execOpCrest c w s
  | .opSetg c w => Sys2Proof.Machine.execOpSetg c w s
  | .opMfs c w => Sys2Proof.Machine.execOpMfs c w s
  | .opMts c w => Sys2Proof.Machine.execOpMts c w s
  | .opIret c w => Sys2Proof.Machine.execOpIret c w s
  | .opWait c w => Sys2Proof.Machine.execOpWait c w s
  | .keeperInterruptEntry k => Sys2Proof.Machine.execKeeperInterruptEntry k s
  | .winClaimRead g k w => Sys2Proof.Machine.execWinClaimRead g k w s
  | .winReleaseWrite g k w v => Sys2Proof.Machine.execWinReleaseWrite g k w v s
  | .catalogueKeyStore g k off bytes => Sys2Proof.Machine.execCatalogueKeyStore g k off bytes s
  | .search g k v => Sys2Proof.Machine.execSearch g k v s
  | .searchResult g k => Sys2Proof.Machine.execSearchResult g k s
  | .resultRead g k => Sys2Proof.Machine.execResultRead g k s
  | .docIcacheInv who g v => Sys2Proof.Machine.execDocIcacheInv who g v s
  | .keeperCoreStart who k => Sys2Proof.Machine.execKeeperCoreStart who k s
  | .keeperCoreStop who k => Sys2Proof.Machine.execKeeperCoreStop who k s
  | .loadProgram ref index image => Sys2Proof.Machine.execLoadProgram ref index image s
  | .programActivate ref index ctx record => Sys2Proof.Machine.execProgramActivate ref index ctx record s
  | .programDeactivate ref index => Sys2Proof.Machine.execProgramDeactivate ref index s
  | .memoryRangeSetManagement ref create rsid ranges => Sys2Proof.Machine.execMemoryRangeSetManagement ref create rsid ranges s
  | .executeProgram ref index rsid params => Sys2Proof.Machine.execExecuteProgram ref index rsid params s
  | .executionStart ref => Sys2Proof.Machine.execExecutionStart ref s
  | .executionEnd exec => Sys2Proof.Machine.execExecutionEnd exec s
  | .readMemory ref off len => Sys2Proof.Machine.execReadMemory ref off len s
  | .writeMemory ref off data => Sys2Proof.Machine.execWriteMemory ref off data s
  | .ticketSubmit c desc => Sys2Proof.Machine.execTicketSubmit c desc s
  | .moveSubmit c desc => Sys2Proof.Machine.execMoveSubmit c desc s
  | .streamHalfFilled g w => Sys2Proof.Machine.execStreamHalfFilled g w s
  | .streamEnd g w => Sys2Proof.Machine.execStreamEnd g w s
  | .outMoveComplete slot => Sys2Proof.Machine.execOutMoveComplete slot s
  | .ticketPost slot v => Sys2Proof.Machine.execTicketPost slot v s
  | .ticketEnd g k status => Sys2Proof.Machine.execTicketEnd g k status s
  | .ticketDispatch => Sys2Proof.Machine.execTicketDispatch s
  | .delayListTick n => Sys2Proof.Machine.execDelayListTick n s
  | .delayedTicketExpiry n => Sys2Proof.Machine.execDelayedTicketExpiry n s
  | .ticketBudgetExpiry slot => Sys2Proof.Machine.execTicketBudgetExpiry slot s
  | .stopTimeoutFence g k => Sys2Proof.Machine.execStopTimeoutFence g k s
  | .fencedCoreRequest g k => Sys2Proof.Machine.execFencedCoreRequest g k s
  | .runLimitExpiry exec => Sys2Proof.Machine.execRunLimitExpiry exec s
  | .rgsExecCancel who v => Sys2Proof.Machine.execRgsExecCancel who v s
  | .rgsSlotCancel who v => Sys2Proof.Machine.execRgsSlotCancel who v s
  | .contextWrite who => Sys2Proof.Machine.execContextWrite who s
  | .contextRead who => Sys2Proof.Machine.execContextRead who s
  | .delayListPeriodWrite who n v => Sys2Proof.Machine.execDelayListPeriodWrite who n v s
  | .gallerySelfTestDone g failed => Sys2Proof.Machine.execGallerySelfTestDone g failed s
  | .catChainWrite who chain v => Sys2Proof.Machine.execCatChainWrite who chain v s
  | .catWrite who chain => Sys2Proof.Machine.execCatWrite who chain s
  | .catInvalidate who chain => Sys2Proof.Machine.execCatInvalidate who chain s
  | .catMove who chain => Sys2Proof.Machine.execCatMove who chain s
  | .catRead who chain failing => Sys2Proof.Machine.execCatRead who chain failing s
  | .catKeeperSearch who chain => Sys2Proof.Machine.execCatKeeperSearch who chain s
  | .catInvalidateTag who chain => Sys2Proof.Machine.execCatInvalidateTag who chain s
  | .catInvalidateTagEnd => Sys2Proof.Machine.execCatInvalidateTagEnd s
  | .catUndefinedOp who op chain => Sys2Proof.Machine.execCatUndefinedOp who op chain s
  | .catScrubTick failing => Sys2Proof.Machine.execCatScrubTick failing s
  | .dramAccess client addr op symbols => Sys2Proof.Machine.execDramAccess client addr op symbols s
  | .refreshDue n rank => Sys2Proof.Machine.execRefreshDue n rank s
  | .refreshRatePoll n rank ind => Sys2Proof.Machine.execRefreshRatePoll n rank ind s
  | .caParityAlert n => Sys2Proof.Machine.execCaParityAlert n s
  | .caRetrainEnd n ok => Sys2Proof.Machine.execCaRetrainEnd n ok s
  | .dramScrubRead n symbols => Sys2Proof.Machine.execDramScrubRead n symbols s
  | .dramTrainingEnd n found => Sys2Proof.Machine.execDramTrainingEnd n found s
  | .drcRetrain who n => Sys2Proof.Machine.execDrcRetrain who n s
  | .retrainStep n ok => Sys2Proof.Machine.execRetrainStep n ok s
  | .drcInitSkip who n v => Sys2Proof.Machine.execDrcInitSkip who n v s
  | .dramInitDone n => Sys2Proof.Machine.execDramInitDone n s
  | .keyGenerate who cls kind len slot => Sys2Proof.Machine.execKeyGenerate who cls kind len slot s
  | .keyUnwrap who cls slot => Sys2Proof.Machine.execKeyUnwrap who cls slot s
  | .keyClear who cls slot => Sys2Proof.Machine.execKeyClear who cls slot s
  | .keyStatus who cls slot => Sys2Proof.Machine.execKeyStatus who cls slot s
  | .sceAcquire k => Sys2Proof.Machine.execSceAcquire k s
  | .sceRelease k => Sys2Proof.Machine.execSceRelease k s
  | .sceForce who v => Sys2Proof.Machine.execSceForce who v s
  | .sceMessageStart k v => Sys2Proof.Machine.execSceMessageStart k v s
  | .sceMessageEnd => Sys2Proof.Machine.execSceMessageEnd s
  | .dgeHashPart who e v => Sys2Proof.Machine.execDgeHashPart who e v s
  | .dgeSave who e => Sys2Proof.Machine.execDgeSave who e s
  | .dgeRestore who e => Sys2Proof.Machine.execDgeRestore who e s
  | .dgePartEnd e => Sys2Proof.Machine.execDgePartEnd e s
  | .dgeData who e v => Sys2Proof.Machine.execDgeData who e v s
  | .dgeLast who e v => Sys2Proof.Machine.execDgeLast who e v s
  | .keyPkRevoke who v => Sys2Proof.Machine.execKeyPkRevoke who v s
  | .keyRollback who v => Sys2Proof.Machine.execKeyRollback who v s
  | .securityAlarm ev => Sys2Proof.Machine.execSecurityAlarm ev s
  | .almRearm who => Sys2Proof.Machine.execAlmRearm who s
  | .mailboxPost c chan v => Sys2Proof.Machine.execMailboxPost c chan v s
  | .mailboxTake c chan => Sys2Proof.Machine.execMailboxTake c chan s
  | .mailboxTimeout chan => Sys2Proof.Machine.execMailboxTimeout chan s
  | .mailboxRecall c chan => Sys2Proof.Machine.execMailboxRecall c chan s
  | .postResultRead g k => Sys2Proof.Machine.execPostResultRead g k s
  | .mailboxConfigWrite who chan v => Sys2Proof.Machine.execMailboxConfigWrite who chan v s
  | .pmcSelect who v => Sys2Proof.Machine.execPmcSelect who v s
  | .pmcEventSelect who high v => Sys2Proof.Machine.execPmcEventSelect who high v s
  | .pmcClear who v => Sys2Proof.Machine.execPmcClear who v s
  | .pmcCounterWrap c n => Sys2Proof.Machine.execPmcCounterWrap c n s
  | .pmcSample g k instr latency faulted => Sys2Proof.Machine.execPmcSample g k instr latency faulted s
  | .islandPowerOff who n => Sys2Proof.Machine.execIslandPowerOff who n s
  | .islandPowerOn who n => Sys2Proof.Machine.execIslandPowerOn who n s
  | .psEntry target => Sys2Proof.Machine.execPsEntry target s
  | .operationalStateChange target => Sys2Proof.Machine.execOperationalStateChange target s
  | .psExit => Sys2Proof.Machine.execPsExit s
  | .ps4Exit => Sys2Proof.Machine.execPs4Exit s
  | .apstTransition ctl => Sys2Proof.Machine.execApstTransition ctl s
  | .pwrDevReset who v => Sys2Proof.Machine.execPwrDevReset who v s
  | .kwdogKick who => Sys2Proof.Machine.execKwdogKick who s
  | .kwdogExpiry => Sys2Proof.Machine.execKwdogExpiry s
  | .keeperAutoReinit n => Sys2Proof.Machine.execKeeperAutoReinit n s
  | .rankpwrEnable k => Sys2Proof.Machine.execRankpwrEnable k s
  | .railOutOfTolerance rail => Sys2Proof.Machine.execRailOutOfTolerance rail s
  | .tapReset => Sys2Proof.Machine.execTapReset s
  | .tapIdcode => Sys2Proof.Machine.execTapIdcode s
  | .tapBypass => Sys2Proof.Machine.execTapBypass s
  | .tapSamplePreload pins cells => Sys2Proof.Machine.execTapSamplePreload pins cells s
  | .tapExtest pins cells => Sys2Proof.Machine.execTapExtest pins cells s
  | .tapHighz => Sys2Proof.Machine.execTapHighz s
  | .tapClamp => Sys2Proof.Machine.execTapClamp s
  | .tapExtestPulse cells => Sys2Proof.Machine.execTapExtestPulse cells s
  | .tapExtestTrain cells => Sys2Proof.Machine.execTapExtestTrain cells s
  | .resetLunComplete ch die => Sys2Proof.Machine.execResetLunComplete ch die s
  | .powerOff => Sys2Proof.Machine.execPowerOff s
  | .aspmL1Entry port sub l12 => Sys2Proof.Machine.execAspmL1Entry port sub l12 s
  | .aspmL1Exit port sub => Sys2Proof.Machine.execAspmL1Exit port sub s
  | .linkError port sub lanes => Sys2Proof.Machine.execLinkError port sub lanes s
  | .supplySetpointRaise n mv => Sys2Proof.Machine.execSupplySetpointRaise n mv s
  | .lifetimeValuesUpdate => Sys2Proof.Machine.execLifetimeValuesUpdate s

end Sys2Proof.Machine
end

