-- ==== Sys2Proof/Machine/IsaWord.lean ====
section
/-! DEFINITION. The instruction words of the cores (R365, R366, R372): which command of the table a word stands for, the word of an instruction, and the word a core fetches. -/

namespace Sys2Proof.Machine

/-- The opcode of a word, bits [31:26] (R365). -/
def wordOpcode (v : Word) : Nat := (v.extractLsb' 26 6).toNat

/-- The fields of a word below its opcode: sz [25:24], base [23:22], modifiers [21:16], disp [15:0] (R365). -/
def wordFields (v : Word) : Fields :=
  { sz := v.extractLsb' 24 2, base := v.extractLsb' 22 2, mods := v.extractLsb' 16 6, disp := v.extractLsb' 0 16 }

/-- The word with an opcode and fields. -/
def fieldsWord (op : BitVec 6) (w : Fields) : Word := op ++ w.sz ++ w.base ++ w.mods ++ w.disp

/-- The instruction that a word stands for on a core (R372). Every opcode is assigned; 0x00 is the invalid instruction (R366). -/
def coreInstr (c : CoreId) (v : Word) : Instr :=
  match wordOpcode v with
  | 0x00 => .opIll c (wordFields v)
  | 0x01 => .opLd c (wordFields v)
  | 0x02 => .opSt c (wordFields v)
  | 0x03 => .opLdi c (wordFields v)
  | 0x04 => .opAdd c (wordFields v)
  | 0x05 => .opSub c (wordFields v)
  | 0x06 => .opRsb c (wordFields v)
  | 0x07 => .opAddi c (wordFields v)
  | 0x08 => .opAnd c (wordFields v)
  | 0x09 => .opOr c (wordFields v)
  | 0x0A => .opXor c (wordFields v)
  | 0x0B => .opMin c (wordFields v)
  | 0x0C => .opMax c (wordFields v)
  | 0x0D => .opCmpeq c (wordFields v)
  | 0x0E => .opCmpgt c (wordFields v)
  | 0x0F => .opCmplt c (wordFields v)
  | 0x10 => .opTst c (wordFields v)
  | 0x11 => .opShl c (wordFields v)
  | 0x12 => .opShr c (wordFields v)
  | 0x13 => .opSld c (wordFields v)
  | 0x14 => .opSlu c (wordFields v)
  | 0x15 => .opSel c (wordFields v)
  | 0x16 => .opHsum c (wordFields v)
  | 0x17 => .opAbs c (wordFields v)
  | 0x18 => .opMcnt c (wordFields v)
  | 0x19 => .opMfst c (wordFields v)
  | 0x1A => .opMld c (wordFields v)
  | 0x1B => .opMst c (wordFields v)
  | 0x1C => .opMnot c (wordFields v)
  | 0x1D => .opXadd c (wordFields v)
  | 0x1E => .opMul c (wordFields v)
  | 0x1F => .opMula c (wordFields v)
  | 0x20 => .opLdlo c (wordFields v)
  | 0x21 => .opLdhi c (wordFields v)
  | 0x22 => .opAdlo c (wordFields v)
  | 0x23 => .opIxl c (wordFields v)
  | 0x24 => .opIxs c (wordFields v)
  | 0x25 => .opIyl c (wordFields v)
  | 0x26 => .opIys c (wordFields v)
  | 0x27 => .opIxa c (wordFields v)
  | 0x28 => .opIya c (wordFields v)
  | 0x29 => .opIxc c (wordFields v)
  | 0x2A => .opIyc c (wordFields v)
  | 0x2B => .opXfr c (wordFields v)
  | 0x2C => .opBr c (wordFields v)
  | 0x2D => .opCall c (wordFields v)
  | 0x2E => .opRet c (wordFields v)
  | 0x2F => .opEnd c (wordFields v)
  | 0x30 => .opTkt c (wordFields v)
  | 0x31 => .opNop c (wordFields v)
  | 0x32 => .opFence c (wordFields v)
  | 0x33 => .opFld c (wordFields v)
  | 0x34 => .opFst c (wordFields v)
  | 0x35 => .opPrd c (wordFields v)
  | 0x36 => .opPwr c (wordFields v)
  | 0x37 => .opMbp c (wordFields v)
  | 0x38 => .opMbt c (wordFields v)
  | 0x39 => .opCsave c (wordFields v)
  | 0x3A => .opCrest c (wordFields v)
  | 0x3B => .opSetg c (wordFields v)
  | 0x3C => .opMfs c (wordFields v)
  | 0x3D => .opMts c (wordFields v)
  | 0x3E => .opIret c (wordFields v)
  | _ => .opWait c (wordFields v)

/-- The word of an instruction of a core. Other commands have none. -/
def instrEncode (i : Instr) : Option Word :=
  match i with
  | .opIll _ w => some (fieldsWord 0x00 w)
  | .opLd _ w => some (fieldsWord 0x01 w)
  | .opSt _ w => some (fieldsWord 0x02 w)
  | .opLdi _ w => some (fieldsWord 0x03 w)
  | .opAdd _ w => some (fieldsWord 0x04 w)
  | .opSub _ w => some (fieldsWord 0x05 w)
  | .opRsb _ w => some (fieldsWord 0x06 w)
  | .opAddi _ w => some (fieldsWord 0x07 w)
  | .opAnd _ w => some (fieldsWord 0x08 w)
  | .opOr _ w => some (fieldsWord 0x09 w)
  | .opXor _ w => some (fieldsWord 0x0A w)
  | .opMin _ w => some (fieldsWord 0x0B w)
  | .opMax _ w => some (fieldsWord 0x0C w)
  | .opCmpeq _ w => some (fieldsWord 0x0D w)
  | .opCmpgt _ w => some (fieldsWord 0x0E w)
  | .opCmplt _ w => some (fieldsWord 0x0F w)
  | .opTst _ w => some (fieldsWord 0x10 w)
  | .opShl _ w => some (fieldsWord 0x11 w)
  | .opShr _ w => some (fieldsWord 0x12 w)
  | .opSld _ w => some (fieldsWord 0x13 w)
  | .opSlu _ w => some (fieldsWord 0x14 w)
  | .opSel _ w => some (fieldsWord 0x15 w)
  | .opHsum _ w => some (fieldsWord 0x16 w)
  | .opAbs _ w => some (fieldsWord 0x17 w)
  | .opMcnt _ w => some (fieldsWord 0x18 w)
  | .opMfst _ w => some (fieldsWord 0x19 w)
  | .opMld _ w => some (fieldsWord 0x1A w)
  | .opMst _ w => some (fieldsWord 0x1B w)
  | .opMnot _ w => some (fieldsWord 0x1C w)
  | .opXadd _ w => some (fieldsWord 0x1D w)
  | .opMul _ w => some (fieldsWord 0x1E w)
  | .opMula _ w => some (fieldsWord 0x1F w)
  | .opLdlo _ w => some (fieldsWord 0x20 w)
  | .opLdhi _ w => some (fieldsWord 0x21 w)
  | .opAdlo _ w => some (fieldsWord 0x22 w)
  | .opIxl _ w => some (fieldsWord 0x23 w)
  | .opIxs _ w => some (fieldsWord 0x24 w)
  | .opIyl _ w => some (fieldsWord 0x25 w)
  | .opIys _ w => some (fieldsWord 0x26 w)
  | .opIxa _ w => some (fieldsWord 0x27 w)
  | .opIya _ w => some (fieldsWord 0x28 w)
  | .opIxc _ w => some (fieldsWord 0x29 w)
  | .opIyc _ w => some (fieldsWord 0x2A w)
  | .opXfr _ w => some (fieldsWord 0x2B w)
  | .opBr _ w => some (fieldsWord 0x2C w)
  | .opCall _ w => some (fieldsWord 0x2D w)
  | .opRet _ w => some (fieldsWord 0x2E w)
  | .opEnd _ w => some (fieldsWord 0x2F w)
  | .opTkt _ w => some (fieldsWord 0x30 w)
  | .opNop _ w => some (fieldsWord 0x31 w)
  | .opFence _ w => some (fieldsWord 0x32 w)
  | .opFld _ w => some (fieldsWord 0x33 w)
  | .opFst _ w => some (fieldsWord 0x34 w)
  | .opPrd _ w => some (fieldsWord 0x35 w)
  | .opPwr _ w => some (fieldsWord 0x36 w)
  | .opMbp _ w => some (fieldsWord 0x37 w)
  | .opMbt _ w => some (fieldsWord 0x38 w)
  | .opCsave _ w => some (fieldsWord 0x39 w)
  | .opCrest _ w => some (fieldsWord 0x3A w)
  | .opSetg _ w => some (fieldsWord 0x3B w)
  | .opMfs _ w => some (fieldsWord 0x3C w)
  | .opMts _ w => some (fieldsWord 0x3D w)
  | .opIret _ w => some (fieldsWord 0x3E w)
  | .opWait _ w => some (fieldsWord 0x3F w)
  | .crossingRequest _ _ _ _ _ => none
  | .islandWake _ => none
  | .crossingResponse _ => none
  | .staleResponseDrop _ => none
  | .registerWrite _ _ _ _ _ => none
  | .pgLock _ _ => none
  | .pgEnableWrite _ _ _ => none
  | .quiesceRequest _ _ => none
  | .quiesceRelease _ _ => none
  | .quiesceDone _ => none
  | .islandReinit _ _ => none
  | .islandReady _ => none
  | .irqStatusClear _ _ _ => none
  | .irqSet _ _ _ => none
  | .errAddrLoRead _ _ => none
  | .topUidLoRead _ => none
  | .tscLoRead _ => none
  | .counterLoRead _ _ _ => none
  | .hostBar2Read _ _ _ => none
  | .hostBar2Write _ _ _ _ => none
  | .powerOn => none
  | .perstAssert _ => none
  | .perstRelease => none
  | .keeperFirmwareRunning => none
  | .configRequest _ _ _ => none
  | .deviceReset _ => none
  | .resetDumpEnd => none
  | .linkTrainingDone _ _ _ => none
  | .surpriseDown _ _ => none
  | .linkRetrain _ _ _ => none
  | .completionTimeout _ _ _ => none
  | .hostCompletionTlp _ _ _ _ => none
  | .barUnsupportedRequest _ _ _ _ _ => none
  | .bar0BadAccess _ _ _ _ => none
  | .controllerRegisterWrite _ _ _ _ => none
  | .vfEnable _ _ _ => none
  | .sqDoorbell _ _ _ => none
  | .cqDoorbell _ _ _ => none
  | .nssrWrite _ _ => none
  | .controllerEnable _ _ => none
  | .controllerReady _ => none
  | .controllerReset _ => none
  | .functionLevelReset _ => none
  | .shutdownNotification _ _ => none
  | .shutdownComplete _ => none
  | .sqeFetch => none
  | .sqeArrive _ _ _ => none
  | .commandStart _ => none
  | .commandComplete _ => none
  | .cqePost _ _ => none
  | .coalesceTimerExpiry _ _ => none
  | .msixUnmask _ _ => none
  | .deleteIoSq _ _ => none
  | .createIoSq _ _ _ _ _ _ => none
  | .deleteIoCq _ _ => none
  | .createIoCq _ _ _ _ _ _ => none
  | .getLogPage _ _ _ _ _ => none
  | .identify _ _ _ _ => none
  | .abort _ _ _ => none
  | .setFeatures _ _ _ _ _ _ => none
  | .getFeatures _ _ _ _ => none
  | .asyncEventRequest _ => none
  | .nsMgmtCreate _ _ => none
  | .nsMgmtDelete _ => none
  | .nsAttach _ _ => none
  | .nsDetach _ _ => none
  | .firmwareImageDownload _ _ _ _ => none
  | .firmwareCommitReplace _ _ _ => none
  | .firmwareCommitAtReset _ _ => none
  | .firmwareCommitSlotSelect _ _ => none
  | .firmwareCommitImmediate _ _ => none
  | .fwActivationStart => none
  | .fwActivationTimeout => none
  | .fwActivationComplete => none
  | .selfTestShort _ => none
  | .selfTestExtended _ => none
  | .selfTestAbort _ => none
  | .selfTestComplete _ => none
  | .virtualizationManagement _ _ _ _ _ => none
  | .formatNvm _ _ _ => none
  | .formatComplete => none
  | .sanitizeBlockErase _ _ => none
  | .sanitizeCryptoErase _ => none
  | .sanitizeExitFailure _ => none
  | .sanitizeComplete _ => none
  | .smbusMiRead _ _ => none
  | .sidebandRefresh => none
  | .wingDiscovery _ _ _ => none
  | .referenceGeometryFound => none
  | .channelTrainingDone _ _ => none
  | .channelRetrain _ _ => none
  | .channelOperationSubmit _ _ _ _ => none
  | .channelOperationStart _ => none
  | .flashRead _ _ _ => none
  | .flashVerify _ _ _ => none
  | .flashProgram _ _ _ _ => none
  | .flashErase _ _ _ _ => none
  | .flashReadStatus _ _ _ => none
  | .dieOperationEnd _ _ => none
  | .bufferSlotRelease _ _ => none
  | .operationResume _ _ => none
  | .dieBusyTimeout _ _ => none
  | .dieResetTimeout _ _ => none
  | .keeperDieCheck _ _ _ _ => none
  | .fenceRecordDurable _ _ => none
  | .fencedDieResponse _ _ => none
  | .dieFence _ _ _ => none
  | .dieQualify _ _ _ => none
  | .dieQualifyEnd _ _ => none
  | .channelQualify _ _ => none
  | .dieRestoreFence _ _ _ _ => none
  | .pfailAssert _ => none
  | .dumpDieCutoff _ => none
  | .dumpEnd => none
  | .pfailDeassert => none
  | .holdupMeasure => none
  | .holdupMeasureEnd _ _ => none
  | .bankCharged => none
  | .bankChargeTimeout => none
  | .read _ _ _ => none
  | .write _ _ _ => none
  | .writeChargeAdmit _ => none
  | .writeZeroes _ _ _ => none
  | .datasetManagement _ _ _ => none
  | .compare _ _ _ => none
  | .verify _ _ _ => none
  | .flush _ => none
  | .mapEntryRestore _ _ => none
  | .partialMuFill _ => none
  | .inlineCompressRequest _ => none
  | .inlineCompressDone _ => none
  | .inlineDecompressRequest _ _ => none
  | .pageFillTimeout _ => none
  | .pageProgrammed _ => none
  | .parityProgrammed _ _ => none
  | .stripeSetOpen _ _ => none
  | .parityRelease _ => none
  | .garbageCollectionStart _ => none
  | .relocation _ => none
  | .stripeSetFree _ => none
  | .blockDeaccession _ _ => none
  | .journalPageDurable => none
  | .journalAdvance => none
  | .rootRecordWrite => none
  | .recovery _ => none
  | .dumpConsumed => none
  | .latencyWindowEnd => none
  | .patrolVerify => none
  | .thresholdRewrite _ => none
  | .effectiveAgeTick _ => none
  | .blockGroupCalibration _ _ _ => none
  | .retrainTrigger _ _ => none
  | .scheduleRecordWrite => none
  | .sensorInvalid _ _ => none
  | .sensorRevalid _ _ => none
  | .thermalLoopTick _ => none
  | .utilisationDvfsEval _ => none
  | .monitorEventSample _ _ _ => none
  | .monitorLevelSample _ => none
  | .monCountLoRead _ _ => none
  | .monClr _ _ => none
  | .monitorConfigWrite _ _ _ _ => none
  | .cmpRingTailWrite _ _ _ _ => none
  | .cmpRingEnable _ _ _ _ => none
  | .cmpJobFetch _ => none
  | .cmpJobCompress _ => none
  | .cmpJobDecompress _ => none
  | .cmpJobComplete _ => none
  | .productLand _ => none
  | .keeperInterruptEntry _ => none
  | .winClaimRead _ _ _ => none
  | .winReleaseWrite _ _ _ _ => none
  | .catalogueKeyStore _ _ _ _ => none
  | .search _ _ _ => none
  | .searchResult _ _ => none
  | .resultRead _ _ => none
  | .docIcacheInv _ _ _ => none
  | .keeperCoreStart _ _ => none
  | .keeperCoreStop _ _ => none
  | .loadProgram _ _ _ => none
  | .programActivate _ _ _ _ => none
  | .programDeactivate _ _ => none
  | .memoryRangeSetManagement _ _ _ _ => none
  | .executeProgram _ _ _ _ => none
  | .executionStart _ => none
  | .executionEnd _ => none
  | .readMemory _ _ _ => none
  | .writeMemory _ _ _ => none
  | .ticketSubmit _ _ => none
  | .moveSubmit _ _ => none
  | .streamHalfFilled _ _ => none
  | .streamEnd _ _ => none
  | .outMoveComplete _ => none
  | .ticketPost _ _ => none
  | .ticketEnd _ _ _ => none
  | .ticketDispatch => none
  | .delayListTick _ => none
  | .delayedTicketExpiry _ => none
  | .ticketBudgetExpiry _ => none
  | .stopTimeoutFence _ _ => none
  | .fencedCoreRequest _ _ => none
  | .runLimitExpiry _ => none
  | .rgsExecCancel _ _ => none
  | .rgsSlotCancel _ _ => none
  | .contextWrite _ => none
  | .contextRead _ => none
  | .delayListPeriodWrite _ _ _ => none
  | .gallerySelfTestDone _ _ => none
  | .catChainWrite _ _ _ => none
  | .catWrite _ _ => none
  | .catInvalidate _ _ => none
  | .catMove _ _ => none
  | .catRead _ _ _ => none
  | .catKeeperSearch _ _ => none
  | .catInvalidateTag _ _ => none
  | .catInvalidateTagEnd => none
  | .catUndefinedOp _ _ _ => none
  | .catScrubTick _ => none
  | .dramAccess _ _ _ _ => none
  | .refreshDue _ _ => none
  | .refreshRatePoll _ _ _ => none
  | .caParityAlert _ => none
  | .caRetrainEnd _ _ => none
  | .dramScrubRead _ _ => none
  | .dramTrainingEnd _ _ => none
  | .drcRetrain _ _ => none
  | .retrainStep _ _ => none
  | .drcInitSkip _ _ _ => none
  | .dramInitDone _ => none
  | .keyGenerate _ _ _ _ _ => none
  | .keyUnwrap _ _ _ => none
  | .keyClear _ _ _ => none
  | .keyStatus _ _ _ => none
  | .sceAcquire _ => none
  | .sceRelease _ => none
  | .sceForce _ _ => none
  | .sceMessageStart _ _ => none
  | .sceMessageEnd => none
  | .dgeHashPart _ _ _ => none
  | .dgeSave _ _ => none
  | .dgeRestore _ _ => none
  | .dgePartEnd _ => none
  | .dgeData _ _ _ => none
  | .dgeLast _ _ _ => none
  | .keyPkRevoke _ _ => none
  | .keyRollback _ _ => none
  | .securityAlarm _ => none
  | .almRearm _ => none
  | .mailboxPost _ _ _ => none
  | .mailboxTake _ _ => none
  | .mailboxTimeout _ => none
  | .mailboxRecall _ _ => none
  | .postResultRead _ _ => none
  | .mailboxConfigWrite _ _ _ => none
  | .pmcSelect _ _ => none
  | .pmcEventSelect _ _ _ => none
  | .pmcClear _ _ => none
  | .pmcCounterWrap _ _ => none
  | .pmcSample _ _ _ _ _ => none
  | .islandPowerOff _ _ => none
  | .islandPowerOn _ _ => none
  | .psEntry _ => none
  | .operationalStateChange _ => none
  | .psExit => none
  | .ps4Exit => none
  | .apstTransition _ => none
  | .pwrDevReset _ _ => none
  | .kwdogKick _ => none
  | .kwdogExpiry => none
  | .keeperAutoReinit _ => none
  | .rankpwrEnable _ => none
  | .railOutOfTolerance _ => none
  | .tapReset => none
  | .tapIdcode => none
  | .tapBypass => none
  | .tapSamplePreload _ _ => none
  | .tapExtest _ _ => none
  | .tapHighz => none
  | .tapClamp => none
  | .tapExtestPulse _ => none
  | .tapExtestTrain _ => none
  | .resetLunComplete _ _ => none
  | .powerOff => none
  | .aspmL1Entry _ _ _ => none
  | .aspmL1Exit _ _ => none
  | .linkError _ _ _ => none
  | .supplySetpointRaise _ _ => none
  | .lifetimeValuesUpdate => none

/-- The core that an instruction runs on. -/
def instrCore (i : Instr) : Option CoreId :=
  match i with
  | .opIll c _ => some c
  | .opLd c _ => some c
  | .opSt c _ => some c
  | .opLdi c _ => some c
  | .opAdd c _ => some c
  | .opSub c _ => some c
  | .opRsb c _ => some c
  | .opAddi c _ => some c
  | .opAnd c _ => some c
  | .opOr c _ => some c
  | .opXor c _ => some c
  | .opMin c _ => some c
  | .opMax c _ => some c
  | .opCmpeq c _ => some c
  | .opCmpgt c _ => some c
  | .opCmplt c _ => some c
  | .opTst c _ => some c
  | .opShl c _ => some c
  | .opShr c _ => some c
  | .opSld c _ => some c
  | .opSlu c _ => some c
  | .opSel c _ => some c
  | .opHsum c _ => some c
  | .opAbs c _ => some c
  | .opMcnt c _ => some c
  | .opMfst c _ => some c
  | .opMld c _ => some c
  | .opMst c _ => some c
  | .opMnot c _ => some c
  | .opXadd c _ => some c
  | .opMul c _ => some c
  | .opMula c _ => some c
  | .opLdlo c _ => some c
  | .opLdhi c _ => some c
  | .opAdlo c _ => some c
  | .opIxl c _ => some c
  | .opIxs c _ => some c
  | .opIyl c _ => some c
  | .opIys c _ => some c
  | .opIxa c _ => some c
  | .opIya c _ => some c
  | .opIxc c _ => some c
  | .opIyc c _ => some c
  | .opXfr c _ => some c
  | .opBr c _ => some c
  | .opCall c _ => some c
  | .opRet c _ => some c
  | .opEnd c _ => some c
  | .opTkt c _ => some c
  | .opNop c _ => some c
  | .opFence c _ => some c
  | .opFld c _ => some c
  | .opFst c _ => some c
  | .opPrd c _ => some c
  | .opPwr c _ => some c
  | .opMbp c _ => some c
  | .opMbt c _ => some c
  | .opCsave c _ => some c
  | .opCrest c _ => some c
  | .opSetg c _ => some c
  | .opMfs c _ => some c
  | .opMts c _ => some c
  | .opIret c _ => some c
  | .opWait c _ => some c
  | .crossingRequest _ _ _ _ _ => none
  | .islandWake _ => none
  | .crossingResponse _ => none
  | .staleResponseDrop _ => none
  | .registerWrite _ _ _ _ _ => none
  | .pgLock _ _ => none
  | .pgEnableWrite _ _ _ => none
  | .quiesceRequest _ _ => none
  | .quiesceRelease _ _ => none
  | .quiesceDone _ => none
  | .islandReinit _ _ => none
  | .islandReady _ => none
  | .irqStatusClear _ _ _ => none
  | .irqSet _ _ _ => none
  | .errAddrLoRead _ _ => none
  | .topUidLoRead _ => none
  | .tscLoRead _ => none
  | .counterLoRead _ _ _ => none
  | .hostBar2Read _ _ _ => none
  | .hostBar2Write _ _ _ _ => none
  | .powerOn => none
  | .perstAssert _ => none
  | .perstRelease => none
  | .keeperFirmwareRunning => none
  | .configRequest _ _ _ => none
  | .deviceReset _ => none
  | .resetDumpEnd => none
  | .linkTrainingDone _ _ _ => none
  | .surpriseDown _ _ => none
  | .linkRetrain _ _ _ => none
  | .completionTimeout _ _ _ => none
  | .hostCompletionTlp _ _ _ _ => none
  | .barUnsupportedRequest _ _ _ _ _ => none
  | .bar0BadAccess _ _ _ _ => none
  | .controllerRegisterWrite _ _ _ _ => none
  | .vfEnable _ _ _ => none
  | .sqDoorbell _ _ _ => none
  | .cqDoorbell _ _ _ => none
  | .nssrWrite _ _ => none
  | .controllerEnable _ _ => none
  | .controllerReady _ => none
  | .controllerReset _ => none
  | .functionLevelReset _ => none
  | .shutdownNotification _ _ => none
  | .shutdownComplete _ => none
  | .sqeFetch => none
  | .sqeArrive _ _ _ => none
  | .commandStart _ => none
  | .commandComplete _ => none
  | .cqePost _ _ => none
  | .coalesceTimerExpiry _ _ => none
  | .msixUnmask _ _ => none
  | .deleteIoSq _ _ => none
  | .createIoSq _ _ _ _ _ _ => none
  | .deleteIoCq _ _ => none
  | .createIoCq _ _ _ _ _ _ => none
  | .getLogPage _ _ _ _ _ => none
  | .identify _ _ _ _ => none
  | .abort _ _ _ => none
  | .setFeatures _ _ _ _ _ _ => none
  | .getFeatures _ _ _ _ => none
  | .asyncEventRequest _ => none
  | .nsMgmtCreate _ _ => none
  | .nsMgmtDelete _ => none
  | .nsAttach _ _ => none
  | .nsDetach _ _ => none
  | .firmwareImageDownload _ _ _ _ => none
  | .firmwareCommitReplace _ _ _ => none
  | .firmwareCommitAtReset _ _ => none
  | .firmwareCommitSlotSelect _ _ => none
  | .firmwareCommitImmediate _ _ => none
  | .fwActivationStart => none
  | .fwActivationTimeout => none
  | .fwActivationComplete => none
  | .selfTestShort _ => none
  | .selfTestExtended _ => none
  | .selfTestAbort _ => none
  | .selfTestComplete _ => none
  | .virtualizationManagement _ _ _ _ _ => none
  | .formatNvm _ _ _ => none
  | .formatComplete => none
  | .sanitizeBlockErase _ _ => none
  | .sanitizeCryptoErase _ => none
  | .sanitizeExitFailure _ => none
  | .sanitizeComplete _ => none
  | .smbusMiRead _ _ => none
  | .sidebandRefresh => none
  | .wingDiscovery _ _ _ => none
  | .referenceGeometryFound => none
  | .channelTrainingDone _ _ => none
  | .channelRetrain _ _ => none
  | .channelOperationSubmit _ _ _ _ => none
  | .channelOperationStart _ => none
  | .flashRead _ _ _ => none
  | .flashVerify _ _ _ => none
  | .flashProgram _ _ _ _ => none
  | .flashErase _ _ _ _ => none
  | .flashReadStatus _ _ _ => none
  | .dieOperationEnd _ _ => none
  | .bufferSlotRelease _ _ => none
  | .operationResume _ _ => none
  | .dieBusyTimeout _ _ => none
  | .dieResetTimeout _ _ => none
  | .keeperDieCheck _ _ _ _ => none
  | .fenceRecordDurable _ _ => none
  | .fencedDieResponse _ _ => none
  | .dieFence _ _ _ => none
  | .dieQualify _ _ _ => none
  | .dieQualifyEnd _ _ => none
  | .channelQualify _ _ => none
  | .dieRestoreFence _ _ _ _ => none
  | .pfailAssert _ => none
  | .dumpDieCutoff _ => none
  | .dumpEnd => none
  | .pfailDeassert => none
  | .holdupMeasure => none
  | .holdupMeasureEnd _ _ => none
  | .bankCharged => none
  | .bankChargeTimeout => none
  | .read _ _ _ => none
  | .write _ _ _ => none
  | .writeChargeAdmit _ => none
  | .writeZeroes _ _ _ => none
  | .datasetManagement _ _ _ => none
  | .compare _ _ _ => none
  | .verify _ _ _ => none
  | .flush _ => none
  | .mapEntryRestore _ _ => none
  | .partialMuFill _ => none
  | .inlineCompressRequest _ => none
  | .inlineCompressDone _ => none
  | .inlineDecompressRequest _ _ => none
  | .pageFillTimeout _ => none
  | .pageProgrammed _ => none
  | .parityProgrammed _ _ => none
  | .stripeSetOpen _ _ => none
  | .parityRelease _ => none
  | .garbageCollectionStart _ => none
  | .relocation _ => none
  | .stripeSetFree _ => none
  | .blockDeaccession _ _ => none
  | .journalPageDurable => none
  | .journalAdvance => none
  | .rootRecordWrite => none
  | .recovery _ => none
  | .dumpConsumed => none
  | .latencyWindowEnd => none
  | .patrolVerify => none
  | .thresholdRewrite _ => none
  | .effectiveAgeTick _ => none
  | .blockGroupCalibration _ _ _ => none
  | .retrainTrigger _ _ => none
  | .scheduleRecordWrite => none
  | .sensorInvalid _ _ => none
  | .sensorRevalid _ _ => none
  | .thermalLoopTick _ => none
  | .utilisationDvfsEval _ => none
  | .monitorEventSample _ _ _ => none
  | .monitorLevelSample _ => none
  | .monCountLoRead _ _ => none
  | .monClr _ _ => none
  | .monitorConfigWrite _ _ _ _ => none
  | .cmpRingTailWrite _ _ _ _ => none
  | .cmpRingEnable _ _ _ _ => none
  | .cmpJobFetch _ => none
  | .cmpJobCompress _ => none
  | .cmpJobDecompress _ => none
  | .cmpJobComplete _ => none
  | .productLand _ => none
  | .keeperInterruptEntry _ => none
  | .winClaimRead _ _ _ => none
  | .winReleaseWrite _ _ _ _ => none
  | .catalogueKeyStore _ _ _ _ => none
  | .search _ _ _ => none
  | .searchResult _ _ => none
  | .resultRead _ _ => none
  | .docIcacheInv _ _ _ => none
  | .keeperCoreStart _ _ => none
  | .keeperCoreStop _ _ => none
  | .loadProgram _ _ _ => none
  | .programActivate _ _ _ _ => none
  | .programDeactivate _ _ => none
  | .memoryRangeSetManagement _ _ _ _ => none
  | .executeProgram _ _ _ _ => none
  | .executionStart _ => none
  | .executionEnd _ => none
  | .readMemory _ _ _ => none
  | .writeMemory _ _ _ => none
  | .ticketSubmit _ _ => none
  | .moveSubmit _ _ => none
  | .streamHalfFilled _ _ => none
  | .streamEnd _ _ => none
  | .outMoveComplete _ => none
  | .ticketPost _ _ => none
  | .ticketEnd _ _ _ => none
  | .ticketDispatch => none
  | .delayListTick _ => none
  | .delayedTicketExpiry _ => none
  | .ticketBudgetExpiry _ => none
  | .stopTimeoutFence _ _ => none
  | .fencedCoreRequest _ _ => none
  | .runLimitExpiry _ => none
  | .rgsExecCancel _ _ => none
  | .rgsSlotCancel _ _ => none
  | .contextWrite _ => none
  | .contextRead _ => none
  | .delayListPeriodWrite _ _ _ => none
  | .gallerySelfTestDone _ _ => none
  | .catChainWrite _ _ _ => none
  | .catWrite _ _ => none
  | .catInvalidate _ _ => none
  | .catMove _ _ => none
  | .catRead _ _ _ => none
  | .catKeeperSearch _ _ => none
  | .catInvalidateTag _ _ => none
  | .catInvalidateTagEnd => none
  | .catUndefinedOp _ _ _ => none
  | .catScrubTick _ => none
  | .dramAccess _ _ _ _ => none
  | .refreshDue _ _ => none
  | .refreshRatePoll _ _ _ => none
  | .caParityAlert _ => none
  | .caRetrainEnd _ _ => none
  | .dramScrubRead _ _ => none
  | .dramTrainingEnd _ _ => none
  | .drcRetrain _ _ => none
  | .retrainStep _ _ => none
  | .drcInitSkip _ _ _ => none
  | .dramInitDone _ => none
  | .keyGenerate _ _ _ _ _ => none
  | .keyUnwrap _ _ _ => none
  | .keyClear _ _ _ => none
  | .keyStatus _ _ _ => none
  | .sceAcquire _ => none
  | .sceRelease _ => none
  | .sceForce _ _ => none
  | .sceMessageStart _ _ => none
  | .sceMessageEnd => none
  | .dgeHashPart _ _ _ => none
  | .dgeSave _ _ => none
  | .dgeRestore _ _ => none
  | .dgePartEnd _ => none
  | .dgeData _ _ _ => none
  | .dgeLast _ _ _ => none
  | .keyPkRevoke _ _ => none
  | .keyRollback _ _ => none
  | .securityAlarm _ => none
  | .almRearm _ => none
  | .mailboxPost _ _ _ => none
  | .mailboxTake _ _ => none
  | .mailboxTimeout _ => none
  | .mailboxRecall _ _ => none
  | .postResultRead _ _ => none
  | .mailboxConfigWrite _ _ _ => none
  | .pmcSelect _ _ => none
  | .pmcEventSelect _ _ _ => none
  | .pmcClear _ _ => none
  | .pmcCounterWrap _ _ => none
  | .pmcSample _ _ _ _ _ => none
  | .islandPowerOff _ _ => none
  | .islandPowerOn _ _ => none
  | .psEntry _ => none
  | .operationalStateChange _ => none
  | .psExit => none
  | .ps4Exit => none
  | .apstTransition _ => none
  | .pwrDevReset _ _ => none
  | .kwdogKick _ => none
  | .kwdogExpiry => none
  | .keeperAutoReinit _ => none
  | .rankpwrEnable _ => none
  | .railOutOfTolerance _ => none
  | .tapReset => none
  | .tapIdcode => none
  | .tapBypass => none
  | .tapSamplePreload _ _ => none
  | .tapExtest _ _ => none
  | .tapHighz => none
  | .tapClamp => none
  | .tapExtestPulse _ => none
  | .tapExtestTrain _ => none
  | .resetLunComplete _ _ => none
  | .powerOff => none
  | .aspmL1Entry _ _ _ => none
  | .aspmL1Exit _ _ => none
  | .linkError _ _ _ => none
  | .supplySetpointRaise _ _ => none
  | .lifetimeValuesUpdate => none

/-- The word at a core's PC, as its memory holds it now (R365, R371, R399): 4 bytes, little-endian. None where the PC lies in no
executable region. What an instruction cache or the words fetched ahead hold is left to the sender of the instruction (log 58). -/
def fetchWord (c : CoreId) (s : State) : Option Word :=
  let x := getCore s c
  if !fetchable c x.pc then none
  else
    match c with
    | .docent g k =>
      match regionOf x.pc.toNat 4 with
      | .localMem o => some (word (readLe s (docentLocalBase g k + o) 4))
      | .shared o => some (word (readLe s (galleryShareBase g + o) 4))
      | .window _ | .windowCtl _ | .port _ | .mailbox _ | .none => none
    | .keeper _ =>
      match placeOf x.pc.toNat with
      | .bootRom o => some (word (ofLe ((upTo 4).map fun i => Config.bootRom (o + i))))
      | .keeperLocal _ _ => some (word (readLe s x.pc.toNat 4))
      | .keeperShared _ => some (word (readLe s x.pc.toNat 4))
      | .dram | .docentLocal _ _ _ | .galleryShared _ _ | .page _ _ | .nowhere => none

/-- The instruction a core is to execute next. -/
def nextInstr (c : CoreId) (s : State) : Option Instr := (fetchWord c s).map (coreInstr c)

end Sys2Proof.Machine
end

