-- ==== Sys2Proof/Safety.lean ====
section
/-! DEFINITION. What counts as a safe run, and the terms in which claims are stated: sound data, what a core was like before, and what an instruction left alone. -/

namespace Sys2Proof

open Machine

/-- The outcome is a next state. -/
def answersNext (o : Host.Outcome State Fault Refusal) : Prop := ∃ t, o = .next t

/-- The invariant of the data: the memory lists addresses strictly rising and no zero byte. -/
abbrev Sound (s : State) : Prop := Memory.wf s.mem = true

/-! ## Instructions of the cores -/

/-- A core without its performance counters, which count events of their own (R586, R587). -/
def bare (x : Core) : Core := { x with pmc := [], pmcOvf := 0 }

/-- A core executes the instruction with this opcode, accepted fields and word: it runs, its PC lies in an executable region, the
instruction is not privileged or the core is in keeper mode (R357), and the fields not accepted are 0 (R366). -/
abbrev Runs (s : State) (c : CoreId) (op : Nat) (acc : Accepts) (w : Fields) : Prop :=
  coreRuns s c = true ∧ fetchable c (getCore s c).pc = true ∧ (op < 0x33 ∨ c.isKeeper = true) ∧ acc.ok w = true

/-- The core as an instruction finds it: products that are due have landed (R380). -/
def found (s : State) (c : CoreId) : Core := (getCore s c).land

/-- The core after an instruction that leaves it as `y` retires: the next PC, the cycles, no stall, and the sample count (R590). -/
def retired (s : State) (c : CoreId) (pc : Option (BitVec 48)) (cost : Nat) (y : Core) : Core :=
  { y with pc := pc.getD (nextPc c y), cycle := y.cycle + cost, stalled := false, waiting := false, sampleLeft := sampleCount s c y.sampleLeft }

/-- A core with the PC, the counts of time and the performance counters of another. -/
def settled (x y : Core) : Core :=
  { x with pc := y.pc, cycle := y.cycle, sampleLeft := y.sampleLeft, stalled := y.stalled, waiting := y.waiting, pmc := y.pmc, pmcOvf := y.pmcOvf }

/-- Nothing but core c has changed: every other field of the state is as before, every other core, what a gallery holds besides its
cores, and every page header but the one of page 256, which tells that a counter wrapped (R595). -/
def OnlyCore (c : CoreId) (s t : State) : Prop :=
  { t with gals := s.gals, kprs := s.kprs, fab := { t.fab with pages := s.fab.pages } } = s ∧
    (∀ d, d ≠ c → getCore t d = getCore s d) ∧ (∀ g, { gal t g with cores := [] } = { gal s g with cores := [] }) ∧
    ∀ p, p ≠ 256 → hdr t p = hdr s p

/-- The lanes of a shape, under the mask when m, hold `r` and every other lane what it held (R362, R363). -/
def LanesBecome (w : Fields) (mask : BitVec 64) (a b : BitVec 512) (r : Nat → Nat) : Prop :=
  ∀ j, j < laneCount w.width →
    laneAt b w.width j = if j ∈ w.lanes ∧ (w.m = true → mask.getLsbD j = true) then r j % 2 ^ w.width else laneAt a w.width j

/-- The state in which an instruction reads its operands: products that are due have landed (R380). -/
def landed (s : State) (c : CoreId) : State := setCore c Core.land s

/-- The memory operand of the shape can be read: these bytes, these extra cycles, and the state after the read (R361, R369). -/
abbrev Operand (s : State) (c : CoreId) (w : Fields) (bs : List Byte) (extra : Nat) (u : State) : Prop :=
  coreLoad c (effAddr c (found s c) w) (shapeBytes w.shape w.width) (shapeBytes w.shape w.width) (landed s c) = .got bs extra u

/-- The memory operand where it meets A (R361). -/
def operandBits (w : Fields) (bs : List Byte) : BitVec 512 := BitVec.ofNat 512 (ofLe bs <<< shapeShift w.shape)

/-- From `u`, in which the operands have been read, core c went on to the next instruction with the core `y` made of it, and nothing
else has changed. -/
def CoreBecomes (u t : State) (c : CoreId) (pc : Option (BitVec 48)) (cost : Nat) (y : Core) : Prop :=
  bare (getCore t c) = bare (retired u c pc cost y) ∧ OnlyCore c u t

/-- What an instruction on lanes of A does to its core (R362, R363, R364): the lanes of the shape, under the mask when m, hold `r`;
with f the flags follow the result and without f they stay; everything else of the core stays. -/
def LaneResult (x y : Core) (w : Fields) (fl : CarryFlags) (r : Nat → LaneRes) : Prop :=
  { y with a := x.a, z := x.z, n := x.n, c := x.c, v := x.v } = x ∧ LanesBecome w x.mask x.a y.a (fun j => (r j).val) ∧
    (w.f = false → y.z = x.z ∧ y.n = x.n ∧ y.c = x.c ∧ y.v = x.v) ∧
    (w.f = true → (y.z = true ↔ ∀ j ∈ w.lanes, laneAt y.a w.width j = 0) ∧
      y.n = (laneAt y.a w.width (w.lanes.headD 0)).testBit (w.width - 1) ∧
      y.c = (if fl.c = true then (r (w.lanes.headD 0)).c else x.c) ∧ y.v = (if fl.v = true then (r (w.lanes.headD 0)).v else x.v))

/-- An instruction that combines A with its memory operand: for every state in which it runs and its operand can be read, it ends,
after one cycle and the cycles of the access, with its result. -/
def MemoryLanes (i : CoreId → Fields → Instr) (op : Nat) (acc : Accepts) (fl : CarryFlags) (f : Fields → Core → Nat → Nat → Nat → LaneRes) : Prop :=
  ∀ s c w bs extra u, Runs s c op acc w → Operand s c w bs extra u →
    ∃ t y, exec (i c w) s = .next t ∧ CoreBecomes u t c none (1 + extra) y ∧
      LaneResult (getCore u c) y w fl fun j =>
        f w (getCore u c) j (laneAt (getCore u c).a w.width j) (laneAt (operandBits w bs) w.width j)

/-- An instruction on lanes of A without a memory operand. -/
def RegisterLanes (i : CoreId → Fields → Instr) (op : Nat) (acc : Accepts) (fl : CarryFlags) (f : Fields → Core → Nat → Nat → LaneRes) : Prop :=
  ∀ s c w, Runs s c op acc w →
    ∃ t y, exec (i c w) s = .next t ∧ CoreBecomes s t c none 1 y ∧
      LaneResult (found s c) y w fl fun j => f w (found s c) j (laneAt (found s c).a w.width j)

/-- A compare: bit j of the mask for each lane of the shape, ANDed with its old value when m, and every other bit 0 (R363). -/
def CompareLanes (i : CoreId → Fields → Instr) (op : Nat) (acc : Accepts) (p : Fields → Nat → Nat → Bool) : Prop :=
  ∀ s c w bs extra u, Runs s c op acc w → Operand s c w bs extra u →
    ∃ t m, exec (i c w) s = .next t ∧ CoreBecomes u t c none (1 + extra) { getCore u c with mask := m } ∧
      ∀ j, j < 64 → m.getLsbD j =
        (decide (j ∈ w.lanes) && p w (laneAt (getCore u c).a w.width j) (laneAt (operandBits w bs) w.width j) &&
          (!w.m || (getCore u c).mask.getLsbD j))

/-- The product of two lanes, in the low and high halves of which an instruction leaves it (R379). -/
def ProductLanes (w : Fields) (p q lo hi : BitVec 512) : Prop :=
  ∀ j, j < laneCount w.width →
    if j ∈ w.lanes then
      laneAt lo w.width j + 2 ^ w.width * laneAt hi w.width j =
        toLane (2 * w.width) (laneVal w.width w.s (laneAt p w.width j) * laneVal w.width w.s (laneAt q w.width j))
    else laneAt lo w.width j = 0 ∧ laneAt hi w.width j = 0

/-- An index register's operand can be read (R368). -/
abbrev IndexOperand (s : State) (c : CoreId) (w : Fields) (bs : List Byte) (extra : Nat) (u : State) : Prop :=
  coreLoad c (effAddr c (found s c) w) c.indexBytes c.indexBytes (landed s c) = .got bs extra u

/-- Where plain memory of a core lies by internal address: local and shared memory of the mode (R369, R399). None for every other
address: windows, ports, mailboxes and the boot ROM are no plain memory. -/
def plainPlace (c : CoreId) (a len : Nat) : Option Nat :=
  match c with
  | .docent g k =>
    match regionOf a len with
    | .localMem o => some (docentLocalBase g k + o)
    | .shared o => some (galleryShareBase g + o)
    | .window _ | .windowCtl _ | .port _ | .mailbox _ | .none => none
  | .keeper _ =>
    match placeOf a with
    | .keeperLocal _ _ => some a
    | .keeperShared _ => some a
    | .bootRom _ | .dram | .docentLocal _ _ _ | .galleryShared _ _ | .page _ _ | .nowhere => none

/-- Bytes that a store wrote: at `base` on, those that are enabled, and no other byte of memory. -/
def BytesBecome (s t : State) (base : Nat) (bs : List Byte) (en : Nat → Bool) : Prop :=
  ∀ b, memGet t.mem b = if base ≤ b ∧ b < base + bs.length ∧ en (b - base) = true then bs.getD (b - base) 0 else memGet s.mem b

/-- A store of core c to plain memory: the core goes on, and nothing but the stored bytes and the core has changed. -/
def StoreDone (s t : State) (c : CoreId) (base : Nat) (bs : List Byte) (en : Nat → Bool) (cost : Nat) (y : Core) : Prop :=
  bare (getCore t c) = bare (retired s c none cost y) ∧ OnlyCore c s { t with mem := s.mem } ∧ BytesBecome s t base bs en

/-- A store instruction of A, the mask or an index register: its opcode, accepted fields and command, and the alignment, bytes and enabled
bytes of its store (R363, R368, R372). -/
structure StoreRow where
  op : Nat
  acc : Accepts
  make : CoreId → Fields → Instr
  align : CoreId → Fields → Nat
  data : CoreId → Fields → Core → List Byte
  enables : CoreId → Fields → Core → List Bool

/-- The stores: ST, MST, IXS and IYS. -/
def storeRows : List StoreRow := [
  { op := 0x02, acc := { sz := true, base := true, sh := true, m := true }, make := .opSt, align := fun _ w => shapeBytes w.shape w.width,
    data := fun _ w x => shapeData w x.a, enables := fun _ w x => storeEnables w x },
  { op := 0x1B, acc := { base := true }, make := .opMst, align := fun _ _ => 8, data := fun _ _ x => leBytes 8 x.mask.toNat,
    enables := fun _ _ _ => List.replicate 8 true },
  { op := 0x24, acc := { base := true }, make := .opIxs, align := fun c _ => c.indexBytes, data := fun c _ x => leBytes c.indexBytes x.x.toNat,
    enables := fun c _ _ => List.replicate c.indexBytes true },
  { op := 0x26, acc := { base := true }, make := .opIys, align := fun c _ => c.indexBytes, data := fun c _ x => leBytes c.indexBytes x.y.toNat,
    enables := fun c _ _ => List.replicate c.indexBytes true }]

/-- What XFR makes of a core by the selectors that only move registers (R377). -/
def transferred (c : CoreId) (x : Core) (n : Nat) : Option Core :=
  match n with
  | 0 => some { x with x := c.addr x.a.toNat }
  | 1 => some { x with y := c.addr x.a.toNat }
  | 2 => some { x with a := BitVec.ofNat 512 x.x.toNat }
  | 3 => some { x with a := BitVec.ofNat 512 x.y.toNat }
  | 4 => some { x with a := BitVec.ofNat 512 x.g.toNat }
  | 5 => some { x with a := BitVec.ofNat 512 x.lk.toNat }
  | 6 => some { x with lk := c.addr x.a.toNat }
  | 8 => some { x with a := BitVec.ofNat 512 (flag x.z + 2 * flag x.n + 4 * flag x.c + 8 * flag x.v) }
  | 9 => some { x with a := BitVec.ofNat 512 x.mask.toNat }
  | 10 => some { x with z := x.a.getLsbD 0, n := x.a.getLsbD 1, c := x.a.getLsbD 2, v := x.a.getLsbD 3 }
  | 11 => some { x with mask := x.a.setWidth 64 }
  | _ => none

/-- A special register of keeper core k as MFS brings it (R404). -/
def specialOf (k : Nat) (x : Core) (n : Nat) : Option Nat :=
  match n with
  | 0 => some x.epc.toNat
  | 1 => some x.efl.toNat
  | 2 => some x.emask.toNat
  | 3 => some x.ecause.toNat
  | 4 => some x.eaddr.toNat
  | 5 => some (if x.ien then 1 else 0)
  | 6 => some x.vbase.toNat
  | 7 => some k
  | _ => none

/-- What MTS makes of a core by the special registers that may be written (R404). -/
def specialPut (x : Core) (n : Nat) : Option Core :=
  match n with
  | 0 => some { x with epc := x.a.setWidth 48 }
  | 1 => some { x with efl := x.a.setWidth 4 }
  | 2 => some { x with emask := x.a.setWidth 64 }
  | 5 => some { x with ien := x.a.getLsbD 0 }
  | 6 => some { x with vbase := x.a.setWidth 48 &&& ~~~0x7F }
  | _ => none

/-- No access to an island waits for it to wake (R24). -/
abbrev Awake (s : State) (i : Option Island) : Prop := ∀ j ∈ i, (islandPresent s j && islandAsleep s j) = false

/-- Nothing that this requester's island sent to an island before still stands in the crossing (R23). -/
abbrev NothingBefore (s : State) (who : Requester) (i : Option Island) : Prop := ∀ j ∈ i, pairRequests s who.island j = []

/-- A register write of this requester has its effect now: the window is open to it, its island is awake with nothing sent before it still
to serve, the unit takes work, and it may write a field (R8, R23, R24, R25, R62). -/
abbrev MayWrite (s : State) (who : Requester) (page off : Nat) : Prop :=
  shutPort s who page true = none ∧ (∀ i ∈ servingIsland page off, heldBy s i off = false) ∧ NothingBefore s who (servingIsland page off) ∧
    regsRefuse s page = false ∧ quiescing s page = false ∧ (who.isKeeper || openReg page off) = true

/-- Ticket n is served by core k of gallery g, which holds no half of a window and was sent no stop, and no completion goes out for it. -/
abbrev ServesQuietly (s : State) (g k n : Nat) (tk : Ticket) : Prop :=
  (getCore s (.docent g k)).serving = some n ∧ (getCore s (.docent g k)).stopAt = none ∧ Tab.get? s.rgs.tickets n = some tk ∧
    heldHalves s g k = [] ∧ nbits tk.w1 45 44 = 0

/-! ## Register pages, crossings and the host -/

/-- What an error leaves in the header of its page (R57): its code and address where the capture is armed, and its count. -/
def captured (h : PageHdr) (code addr : Nat) : PageHdr :=
  { h with
    errCount := min 0xFFFF (h.errCount + 1), irqStat := h.irqStat ||| 1, errCode := if h.errCode = 0 then code else h.errCode,
    errAddr := if h.errCode = 0 then addr % 2 ^ 48 else h.errAddr }

/-- What a fault of core c at state u does. A keeper core enters its handler at VBASE + 0x80, and one that is in a handler already halts
and captures 0x20 in page 224 (R406, R415). A Docent core ends its ticket with the fault in the fault log, but for an access error of sub-code
2 or 3, after which the ticket may run again (R397, R398, R457). -/
def FaultTaken (u t : State) (c : CoreId) (code sub instr ea : Nat) : Prop :=
  match c with
  | .keeper k =>
    if (getCore u (.keeper k)).ecause.getLsbD 31 = true then
      bare (getCore t (.keeper k)) = bare { (getCore u (.keeper k)).drain with halted := true, running := false, stalled := false } ∧
      hdr t 224 = captured { hdr u 224 with irqStat := (hdr u 224).irqStat ||| 0x100 } 0x20 (getCore u (.keeper k)).pc.toNat ∧
      OnlyCore (.keeper k) u (setHdr 224 (fun _ => hdr u 224) t)
    else
      OnlyCore (.keeper k) u t ∧
      bare (getCore t (.keeper k)) = bare { (getCore u (.keeper k)).drain with
        epc := (getCore u (.keeper k)).pc, eaddr := BitVec.ofNat 48 ea, efl := flagsWord (getCore u (.keeper k)), emask := (getCore u (.keeper k)).mask,
        ecause := BitVec.ofNat 32 (2 ^ 31 + code), ien := false, pc := BitVec.ofNat 48 ((getCore u (.keeper k)).vbase.toNat + 0x80),
        stalled := false, waiting := false }
  | .docent g k =>
    ∀ n tk, ServesQuietly u g k n tk → ¬(code = 8 ∧ (sub = 2 ∨ sub = 3)) →
      (getCore t (.docent g k)).serving = none ∧
      t.rgs.faults.head? = some {
        code := code, sub := sub, gallery := g, core := k, pc := (getCore u (.docent g k)).pc.toNat, instr := instr, ea := ea,
        tsc := u.tsc, slot := n }

/-- A core runs and finds an instruction at its PC, whatever the instruction is (R356, R371, R399). -/
abbrev Fetches (s : State) (c : CoreId) : Prop := coreRuns s c = true ∧ fetchable c (getCore s c).pc = true

/-- The state in which an access of a core to an island is served: what the core's island sent there before has been served (R23). -/
def reachedBy (c : CoreId) (i : Option Island) (s : State) : State :=
  match i with
  | some j => serveEarlier c.requester.island j s
  | none => s

/-- The instructions of the cores: opcode, accepted fields, and the command (R372). -/
def isaRows : List (Nat × Accepts × (CoreId → Fields → Instr)) :=
  [(0x00, {}, .opIll), (0x01, { sz := true, base := true, sh := true, m := true }, .opLd),
    (0x02, { sz := true, base := true, sh := true, m := true }, .opSt), (0x03, { sz := true, sh := true, s := true, m := true }, .opLdi),
    (0x04, { sz := true, base := true, sh := true, s := true, m := true, f := true, sat := true }, .opAdd),
    (0x05, { sz := true, base := true, sh := true, s := true, m := true, f := true, sat := true }, .opSub),
    (0x06, { sz := true, base := true, sh := true, s := true, m := true, f := true, sat := true }, .opRsb),
    (0x07, { sz := true, sh := true, s := true, m := true, f := true, sat := true }, .opAddi),
    (0x08, { sz := true, base := true, sh := true, m := true, f := true }, .opAnd),
    (0x09, { sz := true, base := true, sh := true, m := true, f := true }, .opOr),
    (0x0A, { sz := true, base := true, sh := true, m := true, f := true }, .opXor),
    (0x0B, { sz := true, base := true, sh := true, s := true, m := true, f := true }, .opMin),
    (0x0C, { sz := true, base := true, sh := true, s := true, m := true, f := true }, .opMax),
    (0x0D, { sz := true, base := true, sh := true, m := true }, .opCmpeq),
    (0x0E, { sz := true, base := true, sh := true, s := true, m := true }, .opCmpgt),
    (0x0F, { sz := true, base := true, sh := true, s := true, m := true }, .opCmplt),
    (0x10, { sz := true, base := true, sh := true, m := true }, .opTst), (0x11, { sz := true, sh := true, m := true, f := true }, .opShl),
    (0x12, { sz := true, sh := true, s := true, m := true, f := true }, .opShr), (0x13, { sz := true }, .opSld), (0x14, { sz := true }, .opSlu),
    (0x15, { sz := true, base := true, sh := true }, .opSel), (0x16, { sz := true, sh := true, s := true }, .opHsum),
    (0x17, { sz := true, sh := true, m := true, f := true, sat := true }, .opAbs), (0x18, {}, .opMcnt), (0x19, { sz := true }, .opMfst),
    (0x1A, { base := true }, .opMld), (0x1B, { base := true }, .opMst), (0x1C, { sz := true }, .opMnot),
    (0x1D, { sz := true, base := true, sh := true, onlyS := true }, .opXadd),
    (0x1E, { sz := true, base := true, sh := true, s := true }, .opMul), (0x1F, { sz := true, sh := true, s := true }, .opMula),
    (0x20, { sz := true, sh := true, m := true }, .opLdlo), (0x21, { sz := true, sh := true, m := true }, .opLdhi),
    (0x22, { sz := true, sh := true, s := true, m := true, f := true, sat := true }, .opAdlo), (0x23, { base := true }, .opIxl),
    (0x24, { base := true }, .opIxs), (0x25, { base := true }, .opIyl), (0x26, { base := true }, .opIys), (0x27, { m := true }, .opIxa),
    (0x28, { m := true }, .opIya), (0x29, { base := true }, .opIxc), (0x2A, { base := true }, .opIyc), (0x2B, {}, .opXfr),
    (0x2C, { sh := true, s := true, m := true }, .opBr), (0x2D, {}, .opCall), (0x2E, {}, .opRet), (0x2F, {}, .opEnd),
    (0x30, { base := true }, .opTkt), (0x31, {}, .opNop), (0x32, {}, .opFence), (0x33, { sz := true, base := true, sh := true }, .opFld),
    (0x34, { sz := true, base := true, sh := true }, .opFst), (0x35, { base := true }, .opPrd), (0x36, { base := true }, .opPwr),
    (0x37, { base := true }, .opMbp), (0x38, { base := true }, .opMbt), (0x39, { base := true }, .opCsave), (0x3A, { base := true }, .opCrest),
    (0x3B, {}, .opSetg), (0x3C, {}, .opMfs), (0x3D, {}, .opMts), (0x3E, {}, .opIret), (0x3F, {}, .opWait)]

/-- The value that a read brings its requester (R44). -/
def answered (who : Requester) (v : Nat) : Out :=
  match who with
  | .host _ => .hostRead v
  | .keeper _ | .docent _ _ | .engine _ => .coreRead v

/-- A page serves a requester's access of a block register at once: no window is shut, the unit takes work, its island is awake and has
nothing sent before to serve (R23, R24, R25, R26, R62). -/
abbrev Serves (s : State) (who : Requester) (page : Nat) (write : Bool) : Prop :=
  shutPort s who page write = none ∧ regsRefuse s page = false ∧ quiescing s page = false ∧ Awake s (pageIsland page) ∧
    NothingBefore s who (pageIsland page)

/-- A read of this register finds a count that is free (R586, R587; logs 26 and 129): the cycle counter of the selected core, or a
counter of an event that the model has no clock for. -/
abbrev FreeCount (s : State) (page off : Nat) : Prop :=
  page = 256 ∧ pmcSelected s = true ∧
    (off = 0x50 ∨ (0x58 ≤ off ∧ off < 0x98 ∧ timedEvent (Tab.getD (getCore s (pmcCore s)).pmcSel ((off - 0x58) / 8) 0) = true))

/-- The common header of a page answers a requester: the page is in the index, no window is shut, and nothing sent to the header mirror
before is still to serve (R23, R48, R62). -/
abbrev HeaderServes (s : State) (who : Requester) (page : Nat) (write : Bool) : Prop :=
  (pageIsland page).isSome = true ∧ shutPort s who page write = none ∧ NothingBefore s who (some .alwaysOn)

/-- The high half that the read of a _LO register latches (R58). -/
def highHalf (v : Nat) : Word := BitVec.ofNat 32 (v / 2 ^ 32)

/-- An identifier that no crossing holds. -/
abbrev NewRequest (s : State) (id : Nat) : Prop := s.fab.requests.any (·.id == id) = false ∧ s.fab.responses.any (·.id == id) = false

/-- An island takes a request at once (R24 to R26). -/
abbrev TakesRequest (s : State) (i : Island) : Prop :=
  Awake s (some i) ∧ islandRefuses s i = false ∧ (hdr s i.primary).quiesceReq = false

/-- A command of a queue that has started and runs now (R107). -/
abbrev CmdRuns (s : State) (r : CmdRef) (admin : Bool) (opcode : Nat) (c : Cmd) : Prop :=
  running s r admin [opcode] = some c ∧ c.silent = false

/-- A command has its completion and waits for its place in the completion queue (R108). -/
def Ended (t : State) (r : CmdRef) (cpl : Completion) : Prop := ∃ c, cmdOf t r = some c ∧ c.phase = .executed ∧ c.cpl = some cpl

/-- Status code type 0, status code 0 (R644). -/
def succeeded (dw0 : Nat) : Completion := { dw0 := dw0 }

/-- The controller's registers answer in BAR0 (R641). -/
abbrev BarAnswers (s : State) (c : Nat) : Prop := bar0Open s c = true

/-- A command starts now: it has been fetched, it is its queue's turn and the function supports it (R107, R110, R135). -/
abbrev Starts (s : State) (r : CmdRef) (c : Cmd) : Prop :=
  awaitedOf s r = some c ∧ mayStart s c = true ∧ opcodeOk s c = true ∧ c.fuse = 0 ∧ executes s c = false

/-- A queue of a controller with its oldest command finished, and room in its completion queue (R108, R112). -/
abbrev MayPost (s : State) (c q : Nat) (k : Cmd) (cpl : Completion) (sq : Sq) (cq : Cq) : Prop :=
  (sqCmds s c q).head? = some k ∧ k.cpl = some cpl ∧ Tab.get? (ctlOf s c).sqs q = some sq ∧ Tab.get? (ctlOf s c).cqs sq.cqid = some cq ∧
    cq.room = true ∧ ctlUp s c = true

/-- The completion queue entry of a command (R108, R112, R639). -/
def entryOf (c : Nat) (k : Cmd) (cpl : Completion) (sq : Sq) (cq : Cq) : Out :=
  .cqe c sq.cqid cq.tail k.ref.cid k.ref.sq sq.head (cpl.sc + 256 * cpl.sct + if cpl.dnr then 0x4000 else 0) cpl.dw0 cpl.dw1 cq.phase

/-- The Aborts of a controller that have started before this one and are not over yet (R118). -/
def abortsAhead (s : State) (r : CmdRef) : Nat :=
  (((sqCmds s r.ctl 0).takeWhile fun k => !(k.ref == r && !k.dup)).filter fun k => k.opcode == 8 && k.started).length

/-- Map segments leave the subsystem local memory where it is (R229, R419). -/
abbrev SegmentsFit (s : State) (segs : List Nat) : Prop :=
  ∀ e ∈ s.adm.namespaces, e.2.csi = 3 → (∀ x ∈ segs, (x + 1) * 65536 + 8 * 2 ^ 30 ≤ e.2.slmBase) ∧ 8 * 2 ^ 30 ≤ e.2.slmBase

/-- An image that a Firmware Commit takes: it verifies and its rollback level is not below the floor (R162). -/
abbrev GoodImage (s : State) (x : FwImage) : Prop := imageOk s x = true ∧ s.fuses.rollback ≤ leAt x.bytes 16 4

/-- No command on a namespace is under way (R143). -/
abbrev NoneOn (s : State) (nsid : Nat) : Prop := s.acc.cmds.any (fun c => c.ref.sq != 0 && c.nsid == nsid) = false

/-- A channel may start an operation (R24, R25, R49, R54, R190). -/
abbrev ChannelFree (s : State) (ch : Nat) : Prop :=
  (chan s ch).state = 3 ∧ islandRefuses s (.wing (ch / 12)) = false ∧ (hdr s (32 + ch / 12)).quiesceReq = false ∧
    (hdr s (fchPage ch)).quiesceReq = false ∧ (hdr s (fchPage ch)).quiesced = false ∧ (hdr s (fchPage ch)).enable = true ∧
    (isl s (.wing (ch / 12))).power = 2

/-- The first format of the device is not due: a wing has still to be formatted, or the first directory copy or root record is there (R274, R279). -/
abbrev NotFirstFormat (s : State) : Prop :=
  (wingsOf s).all (fun w => (pool s w).formatted) = false ∨ s.cur.dirs ≠ [] ∨ s.cur.roots ≠ []

/-- The pages of a die check that failed their verify and had been written (R209). -/
def checkFailed (s : State) (ch d : Nat) (failed : List Nat) : List Nat :=
  failed.filter fun p => psaChannel p == ch && psaDie p == d && (mediaAt s p).isSome

/-- No completion record waits for its requester. -/
abbrev NoRecords (s : State) : Prop := freshRecords s = []

/-- There is nothing to settle: no record waits, and no Read waits for an MU that is lost. -/
abbrev Settled (s : State) : Prop := NoRecords s ∧ (s.cur.reads = [] ∨ s.cur.badMus ++ s.cur.lostMus = [])

/-- Nothing is stored yet: no map entry, no stripe set, no record that waits. -/
abbrev Blank (s : State) : Prop := s.mem = [] ∧ s.cur = {} ∧ NoRecords s

/-- Every operation for a die is the keepers' own. -/
abbrev KeeperOnly (s : State) (ch d : Nat) : Prop := ∀ o ∈ (chan s ch).queue, o.desc.dieNo = d → o.origin = .keeper

/-- The queue of a channel when its running operation has this outcome: status, decode level, result bytes, data (R191). -/
def outcomeGiven (s : State) (ch d op : Nat) (x : Nat × Nat × Nat × List Byte) : List ChanOp :=
  updFirst (Running ch d [op]) (fun o => { o with outcome := some x }) (chan s ch).queue

/-- The oldest operation of a kind that runs on a die. -/
abbrev RunsOn (s : State) (ch d op : Nat) (o : ChanOp) : Prop := (chan s ch).queue.find? (Running ch d [op]) = some o

/-- The step at which each codeword of a read decodes, none for one that does not (R195, R196). -/
def readLevels (s : State) (ch d : Nat) (o : ChanOp) (xs : List Decode) : List (Option Nat) :=
  (upTo ((readCodewords o.desc).length * (opPlanes s o.desc).length)).map fun i =>
    decodeLevel s ch d o.desc.hardOnly (xs.getD i { corrected := some 0, level := some 0 })

/-- The completion record that an operation leaves (R191). -/
def recordOf (s : State) (o : ChanOp) (status level result : Nat) (data : List Byte) (slots : Nat) : ChanDone :=
  { tag := o.desc.tag, status := status, level := level, result := result, tsc := s.tsc % 2 ^ 32, origin := o.origin, desc := o.desc,
    data := data, slots := slots }

/-- A die is fenced for a reason, and the fence log says so (R210, R217). -/
def NowFenced (s t : State) (ch d reason : Nat) : Prop :=
  dieFenced t ch d = true ∧
    (s.flash.fences.length < 1536 → (fenceOf t ch d).map (fun e => (e.reason, e.state, e.tscFence, e.durable)) = some (reason, 0, s.tsc, false))

/-- The namespace of an NVM I/O command is there and takes it (R92, R139, R143, R165, R174). -/
abbrev OnNs (s : State) (c : Cmd) (n : Namespace) : Prop := ioNamespace s c 0 = .inr n

/-- No block of a range is written: every MU of it reads as zeros (R226, R247). -/
abbrev Unwritten (s : State) (n : Namespace) (lba count : Nat) : Prop :=
  ∀ p ∈ muPieces n lba count, gmuOf n p.1 ∉ s.cur.badMus ∧ gmuOf n p.1 ∉ s.cur.lostMus ∧ entryWrong s (gmuOf n p.1) = false ∧
    (entryState (mapEntry s (gmuOf n p.1)) = 0 ∨ entryState (mapEntry s (gmuOf n p.1)) = 2)

/-- No completion record and no Read wait for anything. -/
abbrev NothingWaits (s : State) : Prop := NoRecords s ∧ s.cur.reads = []

/-- No burst of DRAM is poisoned (R511, R512). -/
abbrev NoPoison (s : State) : Prop := ∀ c ∈ s.dram.chans, c.2.poisoned = []

/-- Every fence that holds the journal back has its record durable (R212). -/
abbrev FencesDurable (s : State) : Prop := ∀ e ∈ s.flash.fences, e.state = 0 ∨ e.state = 1 → e.durable = true

/-- The bytes of the codeword of a place on media. -/
def codewordBytes (s : State) (psa : Nat) : Option (List Byte) := (mediaAt s psa).map fun m => sliceBytes m.data (4096 * (psaSlot psa / 4)) 4096

/-- Nothing is being packed and no stripe set takes pages. -/
abbrev PackerRests (s : State) : Prop := s.cur.packing = [] ∧ packWaiting s = [] ∧ s.cur.sets = [] ∧ Settled s

/-- A write on a namespace that has room for it, inside its range, while the device takes writes (R139, R234, R265). -/
abbrev WriteTaken (s : State) (n : Namespace) (lba bytes touched : Nat) (moves : Bool) : Prop :=
  readOnly s = false ∧ rangeStatus n lba (bytes / blockSize n) moves = none ∧
    (n.compress = true → compressedUsed s + 16384 * touched + reservations s ≤ userCapacity s)

/-- A block group may be calibrated now: its job is enabled, S is not at the floor, its channel serves and no verify of it is on its way (R292, R299). -/
abbrev CalMay (s : State) (ch d group : Nat) : Prop :=
  jobOn s 3 = true ∧ atFloor s = false ∧ pageRefuses s (fchPage ch) = false ∧ group ≤ 255 ∧
    verifyOut s (· == .calibrate (groupKey ch d group)) = false

/-- The row of a bank of entry `i` of a chain: bank `k` of its group (R466, R467). -/
def entryRow (s : State) (c i k : Nat) : CatRow := catRow s (chainFirst s c + i / 4096 * chainWidth s c + k) (i % 4096)

/-- A command of CAT_CMD is taken: the write may be made, no command runs, the chain is enabled and its entries lie in it (R478, R479). -/
abbrev CatTakes (s : State) (who : Requester) (c : Nat) : Prop :=
  MayWrite s who 200 0x44 ∧ s.cat.running = none ∧ chainEnabled s c = true ∧ regField s 200 0x48 16 0 < chainEntries s c

/-- A command of CAT_CMD has ended well (R478, R489). -/
def CatDone (t : State) : Prop := getReg t 200 0x50 = 0 ∧ (hdr t 200).irqStat &&& 0x200 = 0x200 ∧ t.cat.running = none

/-- A client's access is one burst of DRAM that is installed, serves and is valid, and nothing holds it or waits before it (R491, R497,
R499, R516). -/
abbrev OneBurst (s : State) (client : DramClient) (a : Nat) (op : DramOp) (symbols : Nat) : Prop :=
  dramHolds { client := client, addr := a, op := op, symbols := symbols } s = false ∧ (drc s (dramChannelOf s a)).waiting = [] ∧
    client ≠ .zeroing ∧ a + op.len ≤ installedBytes s ∧ dramRefuses s = false ∧ burstsOf a op.len = [(a, op.len)] ∧ burstAt s a = .valid

/-- The state in which the meaning of a started command runs: its data has been fetched. -/
def taken (s : State) (r : CmdRef) : State :=
  setLink (ctlLink s r.ctl) (fun l => { l with reqs := dropFirst (fun x => x.cause == .data r && !x.ended) l.reqs }) s

/-- The namespace of a command of the computational sets is there and takes it (R417, R419). -/
abbrev OnSet (s : State) (c : Cmd) (csi : Nat) (n : Namespace) : Prop := ioNamespace s c csi = .inr n

/-- No deactivation waits for its executions. -/
abbrev NoStopping (s : State) : Prop := ∀ e ∈ s.rgs.programs, e.2.stopping = none

/-- The first MU, and the length, of the bytes a stream's next half holds (R447). -/
def streamFirst (m : Move) : Nat := (m.src + m.delivered) / 16384
def streamLen (m : Move) : Nat := min (32768 / m.recLen * m.recLen) (m.length - m.delivered)

/-- A stream's next half lies in one MU that can be read, whose entry is `e`, and no read of it has been sent for the window. -/
abbrev StreamNeeds (s : State) (g w : Nat) (m : Move) (ns : Namespace) (e : Nat) : Prop :=
  nsOf s m.nsid = some ns ∧ s.cur.mediaReady = true ∧ 0 < streamLen m ∧ (m.src + m.delivered) % 16384 + streamLen m ≤ 16384 ∧
    streamRecord s g w (gmuOf ns (streamFirst m)) = none ∧ (s.cur.badMus ++ s.cur.lostMus).contains (gmuOf ns (streamFirst m)) = false ∧
    keyThere s ns = true ∧ e = mapEntry s (gmuOf ns (streamFirst m)) ∧ entryWrong s (gmuOf ns (streamFirst m)) = false ∧ entryState e = 1 ∧
    relocating s (gmuOf ns (streamFirst m)) = false ∧
    (∀ c ∈ s.flash.chans, ∀ o ∈ c.2.queue, o.origin ≠ .stream g w (gmuOf ns (streamFirst m))) ∧
    ∀ o ∈ s.flash.aborted, o.2.origin ≠ .stream g w (gmuOf ns (streamFirst m))

/-- The Registrar serves a core's descriptors (R25, R458, R462). -/
abbrev RegistrarServes (s : State) (c : CoreId) : Prop := coreFenced s c = false ∧ registrarRefuses s = false

/-- What a refused submission leaves (R429): its reason, the count, the interrupt and the capture; no slot changes. -/
def SubmissionRefused (s t : State) (ctx reason : Nat) : Prop :=
  t.rgs = s.rgs ∧ t.gals = s.gals ∧ getReg t 232 0x4C = word (ctx * 2 ^ 20 + reason) ∧
    hdr t 232 = captured { hdr s 232 with irqStat := (hdr s 232).irqStat ||| 0x200 } 0x20 (pageAddr 232 0x4C)

/-- A ticket stands at the tail of its ready list, from now on (R431, R434). -/
def NowReady (s t : State) (n : Nat) (tk : Ticket) : Prop :=
  Tab.get? t.rgs.tickets n = some { tk with state := .ready t.tsc } ∧
    Tab.getD t.rgs.lists (listOf s tk) [] = Tab.getD s.rgs.lists (listOf s tk) [] ++ [n]


/-! ## What a command may change -/

/-- The parts of the state. -/
inductive Part where
  | pending | out | tsc | free | fuses | boot | fab | link | acc | adm | flash | cur
  | care | cmp | gals | kprs | rgs | cat | mbx | dram | sec | pwr | tap | mem
deriving DecidableEq, Repr

/-- A part is the same in two states. -/
def Part.same (s t : State) : Part → Prop
  | .pending => t.pending = s.pending
  | .out => t.out = s.out
  | .tsc => t.tsc = s.tsc
  | .free => t.free = s.free
  | .fuses => t.fuses = s.fuses
  | .boot => t.boot = s.boot
  | .fab => t.fab = s.fab
  | .link => t.link = s.link
  | .acc => t.acc = s.acc
  | .adm => t.adm = s.adm
  | .flash => t.flash = s.flash
  | .cur => t.cur = s.cur
  | .care => t.care = s.care
  | .cmp => t.cmp = s.cmp
  | .gals => t.gals = s.gals
  | .kprs => t.kprs = s.kprs
  | .rgs => t.rgs = s.rgs
  | .cat => t.cat = s.cat
  | .mbx => t.mbx = s.mbx
  | .dram => t.dram = s.dram
  | .sec => t.sec = s.sec
  | .pwr => t.pwr = s.pwr
  | .tap => t.tap = s.tap
  | .mem => t.mem = s.mem

/-- The parts that a command may change, besides what the requests it serves change (`servesCrossing`); every
other part stays as it is. -/
def footprint : Instr → List Part
  | .crossingRequest _ _ _ _ _ | .islandWake _ | .crossingResponse _ | .registerWrite _ _ _ _ _ | .quiesceDone _ | .islandReady _
  | .hostBar2Write _ _ _ _ | .barUnsupportedRequest _ _ _ _ _ | .opPwr _ _ | .docIcacheInv _ _ _
      => [.out, .tsc, .free, .fuses, .fab, .link, .acc, .adm, .flash, .cur, .care, .cmp, .gals, .kprs, .rgs, .cat, .mbx, .dram, .sec, .pwr, .mem]
  | .staleResponseDrop _ | .utilisationDvfsEval _ | .supplySetpointRaise _ _ => [.fab]
  | .pgLock _ _ | .irqSet _ _ _ | .bar0BadAccess _ _ _ _ | .cmpRingTailWrite _ _ _ _ | .catChainWrite _ _ _ | .pmcSelect _ _
      => [.out, .fab]
  | .pgEnableWrite _ _ _ | .quiesceRequest _ _ | .sceAcquire _ | .dgeData _ _ _ | .dgeLast _ _ _ => [.out, .fab, .sec]
  | .quiesceRelease _ _ => [.out, .fab, .cmp, .dram, .sec]
  | .islandReinit _ _ | .islandPowerOff _ _ | .islandPowerOn _ _ | .keeperAutoReinit _
      => [.out, .free, .fab, .link, .acc, .adm, .flash, .cur, .care, .cmp, .gals, .kprs, .rgs, .cat, .mbx, .dram, .sec, .mem]
  | .irqStatusClear _ _ _ => [.out, .fab, .flash, .gals, .kprs]
  | .errAddrLoRead _ _ | .topUidLoRead _ | .tscLoRead _ | .counterLoRead _ _ _ | .monCountLoRead _ _
      => [.out, .free, .fab, .care, .gals, .kprs, .sec]
  | .hostBar2Read _ _ _ => [.out, .free, .fab, .care, .gals, .kprs, .rgs, .sec]
  | .powerOn => [.tsc, .fab, .link, .acc, .adm, .flash, .cur, .care, .cmp, .gals, .kprs, .rgs, .cat, .mbx, .dram, .sec, .pwr, .tap, .mem]
  | .perstAssert _ | .deviceReset _ | .nssrWrite _ _ | .controllerEnable _ _ => [.fab, .link, .acc, .cur, .cmp, .gals, .kprs, .rgs, .pwr]
  | .perstRelease => [.fab, .link, .acc, .adm, .gals, .kprs, .dram, .sec, .pwr]
  | .keeperFirmwareRunning => [.fab, .link, .care, .gals, .kprs, .mbx]
  | .configRequest _ _ _ | .cqePost _ _ | .coalesceTimerExpiry _ _ | .msixUnmask _ _ => [.out, .acc]
  | .resetDumpEnd => [.tsc, .fab, .link, .acc, .adm, .flash, .cur, .care, .cmp, .gals, .kprs, .rgs, .cat, .mbx, .dram, .sec, .pwr, .mem]
  | .linkTrainingDone _ _ _ | .hostCompletionTlp _ _ _ _ | .linkError _ _ _ => [.fab, .link]
  | .surpriseDown _ _ | .vfEnable _ _ _ | .controllerReset _ | .functionLevelReset _ | .virtualizationManagement _ _ _ _ _
      => [.fab, .link, .acc, .cur, .cmp, .gals, .kprs, .rgs]
  | .linkRetrain _ _ _ => [.out, .fab, .link]
  | .completionTimeout _ _ _ => [.fab, .link, .acc]
  | .controllerRegisterWrite _ _ _ _ | .pwrDevReset _ _ => [.out, .fab, .link, .acc, .cur, .cmp, .gals, .kprs, .rgs, .pwr]
  | .sqDoorbell _ _ _ => [.fab, .acc, .pwr]
  | .cqDoorbell _ _ _ => [.fab, .acc]
  | .controllerReady _ | .shutdownComplete _ => [.acc]
  | .shutdownNotification _ _ => [.acc, .pwr]
  | .sqeFetch => [.out, .fab, .link, .acc]
  | .sqeArrive _ _ _ => [.link, .acc, .pwr]
  | .commandStart _ | .getFeatures _ _ _ _ => [.out, .link, .acc]
  | .commandComplete _ => [.out, .fab, .acc, .adm, .flash, .cur, .cmp, .rgs, .dram, .sec, .mem]
  | .deleteIoSq _ _ | .abort _ _ _ | .programDeactivate _ _ => [.link, .acc, .cur, .rgs]
  | .createIoSq _ _ _ _ _ _ | .deleteIoCq _ _ | .createIoCq _ _ _ _ _ _ | .asyncEventRequest _ | .nsAttach _ _ | .flush _ => [.link, .acc]
  | .getLogPage _ _ _ _ _ => [.out, .free, .link, .acc, .adm, .care]
  | .identify _ _ _ _ => [.out, .free, .link, .acc]
  | .setFeatures _ _ _ _ _ _ | .firmwareImageDownload _ _ _ _ | .firmwareCommitReplace _ _ _ | .firmwareCommitAtReset _ _
  | .firmwareCommitSlotSelect _ _ | .firmwareCommitImmediate _ _ | .selfTestShort _ | .selfTestExtended _ | .selfTestAbort _
      => [.link, .acc, .adm]
  | .nsMgmtCreate _ _ => [.free, .fab, .link, .acc, .adm, .cur, .dram, .sec, .mem]
  | .nsMgmtDelete _ | .nsDetach _ _ => [.out, .fab, .link, .acc, .adm, .flash, .cur, .cmp, .rgs, .dram, .sec, .mem]
  | .fwActivationStart => [.acc, .adm]
  | .fwActivationTimeout => [.tsc, .acc, .adm]
  | .fwActivationComplete => [.acc, .adm, .gals, .kprs]
  | .selfTestComplete _ | .sidebandRefresh => [.adm]
  | .formatNvm _ _ _ => [.out, .free, .fab, .link, .acc, .adm, .flash, .cur, .care, .cmp, .dram, .sec, .mem]
  | .formatComplete | .sanitizeComplete _ | .recovery _ | .securityAlarm _
      => [.out, .free, .fab, .acc, .adm, .flash, .cur, .care, .cmp, .dram, .sec, .mem]
  | .sanitizeBlockErase _ _ | .sanitizeCryptoErase _ | .sanitizeExitFailure _ => [.fab, .link, .acc, .adm, .cur, .gals, .kprs, .rgs]
  | .smbusMiRead _ _ => [.out, .adm]
  | .wingDiscovery _ _ _ | .referenceGeometryFound | .channelTrainingDone _ _ | .channelOperationStart _ | .dieOperationEnd _ _
  | .keeperDieCheck _ _ _ _ | .dieFence _ _ _ | .dieQualify _ _ _ | .channelQualify _ _ | .dieRestoreFence _ _ _ _ | .mapEntryRestore _ _
  | .partialMuFill _ | .inlineCompressDone _ | .pageProgrammed _ | .parityProgrammed _ _ | .stripeSetOpen _ _ | .parityRelease _
  | .relocation _ | .stripeSetFree _ | .journalPageDurable | .journalAdvance | .rootRecordWrite | .thresholdRewrite _
  | .resetLunComplete _ _ => [.out, .fab, .acc, .adm, .flash, .cur, .care, .cmp, .dram, .mem]
  | .channelRetrain _ _ | .channelOperationSubmit _ _ _ _ => [.out, .fab, .flash]
  | .flashRead _ _ _ => [.free, .fab, .flash, .care]
  | .flashVerify _ _ _ | .flashReadStatus _ _ _ | .bufferSlotRelease _ _ | .operationResume _ _ | .fenceRecordDurable _ _
  | .dumpDieCutoff _ => [.flash]
  | .flashProgram _ _ _ _ => [.fab, .flash, .cur]
  | .flashErase _ _ _ _ | .fencedDieResponse _ _ => [.fab, .flash]
  | .dieBusyTimeout _ _ | .dieResetTimeout _ _ | .pageFillTimeout _
      => [.out, .tsc, .fab, .acc, .adm, .flash, .cur, .care, .cmp, .dram, .mem]
  | .dieQualifyEnd _ _ => [.fab, .acc, .adm, .flash, .cur, .mem]
  | .pfailAssert _ | .dumpEnd => [.out, .fab, .acc, .adm, .flash, .cur, .care, .cmp, .dram, .pwr, .mem]
  | .pfailDeassert => [.out, .tsc, .fab, .link, .acc, .adm, .flash, .cur, .care, .cmp, .gals, .kprs, .dram, .sec, .pwr, .mem]
  | .holdupMeasure => [.tsc, .cur]
  | .holdupMeasureEnd _ _ => [.tsc, .fab, .acc, .cur, .care]
  | .bankCharged | .garbageCollectionStart _ | .dumpConsumed => [.cur]
  | .bankChargeTimeout | .blockDeaccession _ _ => [.fab, .acc, .cur]
  | .read _ _ _ | .compare _ _ _ | .verify _ _ _ => [.out, .fab, .link, .acc, .adm, .flash, .cur, .cmp]
  | .write _ _ _ | .writeZeroes _ _ _ => [.out, .fab, .link, .acc, .adm, .flash, .cur, .cmp, .dram, .mem]
  | .writeChargeAdmit _ => [.out, .fab, .acc, .adm, .flash, .cur, .cmp, .dram, .mem]
  | .datasetManagement _ _ _ => [.out, .fab, .link, .acc, .adm, .flash, .cur, .cmp, .mem]
  | .inlineCompressRequest _ => [.cur, .cmp]
  | .inlineDecompressRequest _ _ => [.out, .fab, .acc, .adm, .cur, .cmp]
  | .latencyWindowEnd => [.fab, .acc, .care]
  | .patrolVerify | .blockGroupCalibration _ _ _ => [.fab, .flash, .care]
  | .effectiveAgeTick _ => [.cur, .pwr]
  | .retrainTrigger _ _ => [.fab, .flash, .care, .dram]
  | .scheduleRecordWrite | .monitorEventSample _ _ _ | .lifetimeValuesUpdate => [.care]
  | .sensorInvalid _ _ => [.fab, .care]
  | .sensorRevalid _ _ => [.tsc, .care]
  | .thermalLoopTick _ => [.fab, .acc, .adm, .care, .pwr]
  | .monitorLevelSample _ => [.free, .care]
  | .monClr _ _ | .monitorConfigWrite _ _ _ _ => [.out, .fab, .care]
  | .cmpRingEnable _ _ _ _ | .mailboxTake _ _ | .mailboxConfigWrite _ _ _ => [.out, .fab, .gals, .kprs, .mbx]
  | .cmpJobFetch _ => [.fab, .cmp, .rgs, .dram, .mem]
  | .cmpJobCompress _ => [.free, .fab, .cmp, .dram, .mem]
  | .cmpJobDecompress _ => [.fab, .cmp, .dram, .mem]
  | .cmpJobComplete _ => [.free, .fab, .cmp, .rgs, .dram, .mem]
  | .opIll _ _ | .opLd _ _ | .opLdi _ _ | .opAdd _ _ | .opSub _ _ | .opRsb _ _ | .opAddi _ _ | .opAnd _ _ | .opOr _ _ | .opXor _ _
  | .opMin _ _ | .opMax _ _ | .opCmpeq _ _ | .opCmpgt _ _ | .opCmplt _ _ | .opTst _ _ | .opShl _ _ | .opShr _ _ | .opSld _ _ | .opSlu _ _
  | .opSel _ _ | .opHsum _ _ | .opAbs _ _ | .opMcnt _ _ | .opMfst _ _ | .opMld _ _ | .opMnot _ _ | .opMul _ _ | .opMula _ _ | .opLdlo _ _
  | .opLdhi _ _ | .opAdlo _ _ | .opIxl _ _ | .opIyl _ _ | .opIxa _ _ | .opIya _ _ | .opIxc _ _ | .opIyc _ _ | .opXfr _ _ | .opBr _ _
  | .opCall _ _ | .opRet _ _ | .opEnd _ _ | .opTkt _ _ | .opNop _ _ | .opFence _ _ | .opMbp _ _ | .opMbt _ _ | .opCrest _ _ | .opSetg _ _
  | .opMfs _ _ | .opMts _ _ | .opIret _ _ | .opWait _ _ | .winReleaseWrite _ _ _ _ | .ticketEnd _ _ _
      => [.free, .fab, .gals, .kprs, .rgs, .mbx]
  | .opSt _ _ | .opMst _ _ | .opXadd _ _ | .opIxs _ _ | .opIys _ _ | .opCsave _ _ => [.free, .fab, .gals, .kprs, .rgs, .cat, .mbx, .mem]
  | .productLand _ | .searchResult _ _ => [.gals, .kprs]
  | .opFld _ _ => [.free, .fab, .gals, .kprs, .rgs, .mbx, .dram]
  | .opFst _ _ => [.free, .fab, .gals, .kprs, .rgs, .mbx, .dram, .mem]
  | .opPrd _ _ => [.free, .fab, .care, .gals, .kprs, .rgs, .mbx, .sec]
  | .keeperInterruptEntry _ => [.free, .gals, .kprs]
  | .winClaimRead _ _ _ | .resultRead _ _ => [.out, .free, .fab, .gals, .kprs, .rgs, .mbx]
  | .catalogueKeyStore _ _ _ _ | .search _ _ _ => [.free, .fab, .gals, .kprs, .rgs, .cat, .mbx]
  | .keeperCoreStart _ _ => [.out, .fab, .gals, .kprs]
  | .keeperCoreStop _ _ => [.out, .free, .fab, .gals, .kprs, .dram, .sec, .mem]
  | .loadProgram _ _ _ => [.link, .acc, .rgs, .mem]
  | .programActivate _ _ _ _ => [.fab, .link, .acc, .rgs, .mem]
  | .memoryRangeSetManagement _ _ _ _ => [.link, .acc, .rgs]
  | .executeProgram _ _ _ _ | .executionEnd _ => [.acc, .rgs]
  | .executionStart _ => [.out, .fab, .link, .acc, .cur, .rgs, .dram, .mem]
  | .readMemory _ _ _ => [.out, .fab, .link, .acc, .dram]
  | .writeMemory _ _ _ => [.fab, .link, .acc, .dram, .mem]
  | .ticketSubmit _ _ | .moveSubmit _ _ => [.out, .fab, .gals, .rgs]
  | .streamHalfFilled _ _ => [.free, .fab, .acc, .adm, .flash, .cur, .cmp, .gals, .rgs, .dram, .mem]
  | .streamEnd _ _ => [.fab, .gals, .rgs]
  | .outMoveComplete _ => [.free, .fab, .rgs, .dram, .mem]
  | .ticketPost _ _ => [.fab, .rgs]
  | .ticketDispatch => [.fab, .gals, .kprs, .rgs, .mem]
  | .delayListTick _ => [.tsc, .rgs]
  | .delayedTicketExpiry _ => [.rgs]
  | .ticketBudgetExpiry _ => [.tsc, .gals, .kprs]
  | .stopTimeoutFence _ _ => [.tsc, .free, .fab, .gals, .kprs, .rgs, .mbx]
  | .fencedCoreRequest _ _ => [.fab, .gals]
  | .runLimitExpiry _ => [.tsc, .fab, .gals, .kprs, .rgs]
  | .rgsExecCancel _ _ => [.out, .fab, .gals, .kprs, .rgs]
  | .rgsSlotCancel _ _ | .contextWrite _ | .contextRead _ | .delayListPeriodWrite _ _ _ => [.out, .fab, .rgs]
  | .gallerySelfTestDone _ _ => [.gals]
  | .catWrite _ _ | .catInvalidate _ _ | .catMove _ _ | .catRead _ _ _ | .catKeeperSearch _ _ | .catInvalidateTag _ _
  | .catUndefinedOp _ _ _ => [.out, .free, .fab, .cat]
  | .catInvalidateTagEnd | .catScrubTick _ => [.fab, .cat]
  | .dramAccess _ _ _ _ | .caRetrainEnd _ _ | .drcInitSkip _ _ _ | .dramInitDone _ => [.out, .tsc, .fab, .dram, .mem]
  | .refreshDue _ _ | .refreshRatePoll _ _ _ | .caParityAlert _ | .dramScrubRead _ _ => [.fab, .dram]
  | .dramTrainingEnd _ _ => [.fab, .care, .dram, .mem]
  | .drcRetrain _ _ => [.out, .fab, .dram]
  | .retrainStep _ _ => [.fab, .care, .dram]
  | .keyGenerate _ _ _ _ _ | .keyUnwrap _ _ _ | .keyClear _ _ _ | .keyStatus _ _ _ => [.out, .free, .fab, .flash, .cur, .sec]
  | .sceRelease _ | .sceForce _ _ | .dgeHashPart _ _ _ | .dgeSave _ _ => [.out, .free, .fab, .dram, .sec, .mem]
  | .sceMessageStart _ _ | .dgeRestore _ _ => [.out, .fab, .dram, .sec]
  | .sceMessageEnd => [.fab, .dram, .sec, .mem]
  | .dgePartEnd _ => [.fab, .sec]
  | .keyPkRevoke _ _ | .keyRollback _ _ => [.out, .fuses, .fab]
  | .almRearm _ => [.out, .free, .fab, .sec]
  | .mailboxPost _ _ _ | .mailboxRecall _ _ => [.fab, .gals, .kprs, .mbx]
  | .mailboxTimeout _ => [.tsc, .fab, .gals, .kprs, .mbx]
  | .postResultRead _ _ => [.out, .fab, .gals]
  | .pmcEventSelect _ _ _ | .pmcClear _ _ => [.out, .free, .fab, .gals, .kprs]
  | .pmcCounterWrap _ _ => [.fab, .gals, .kprs]
  | .pmcSample _ _ _ _ _ => [.free, .fab, .gals, .kprs, .mem]
  | .psEntry _ => [.fab, .cur, .care, .cmp, .gals, .kprs, .cat, .dram, .sec, .pwr, .mem]
  | .operationalStateChange _ => [.fab, .pwr]
  | .psExit => [.out, .tsc, .fab, .cur, .dram, .pwr, .mem]
  | .ps4Exit => [.out, .tsc, .free, .fab, .cur, .gals, .kprs, .dram, .sec, .pwr, .mem]
  | .apstTransition _ => [.tsc, .acc]
  | .kwdogKick _ => [.out, .fab, .pwr]
  | .kwdogExpiry
      => [.out, .tsc, .free, .fab, .link, .acc, .adm, .flash, .cur, .care, .cmp, .gals, .kprs, .rgs, .cat, .mbx, .dram, .sec, .pwr, .mem]
  | .rankpwrEnable _ => [.dram, .pwr]
  | .railOutOfTolerance _ => [.free, .flash, .cur, .pwr]
  | .tapReset => [.tap]
  | .tapIdcode | .tapBypass | .tapSamplePreload _ _ | .tapExtest _ _ | .tapHighz | .tapClamp => [.out, .tap]
  | .tapExtestPulse _ | .tapExtestTrain _ => [.out, .free, .tap]
  | .powerOff => [.tsc, .free, .fab, .link, .acc, .adm, .flash, .cur, .care, .cmp, .gals, .kprs, .rgs, .cat, .mbx, .dram, .sec, .pwr, .mem]
  | .aspmL1Entry _ _ _ | .aspmL1Exit _ _ => [.link]

/-- What a request that is served may change. -/
def servedParts : List Part :=
  [.out, .tsc, .free, .fuses, .fab, .link, .acc, .adm, .flash, .cur, .care, .cmp, .gals, .kprs, .rgs, .cat, .mbx, .dram, .sec, .pwr, .mem]

/-- A command with which requests that stand in a crossing are served: those its island sent earlier (R23), or those a low-power state held
(R24). -/
def servesCrossing : Instr → Bool
  | .pgLock _ _ | .pgEnableWrite _ _ _ | .quiesceRequest _ _ | .quiesceRelease _ _ | .islandReinit _ _ | .irqStatusClear _ _ _
  | .irqSet _ _ _ | .errAddrLoRead _ _ | .topUidLoRead _ | .tscLoRead _ | .counterLoRead _ _ _ | .hostBar2Read _ _ _ | .linkRetrain _ _ _
  | .wingDiscovery _ _ _ | .channelRetrain _ _ | .dieFence _ _ _ | .dieQualify _ _ _ | .channelQualify _ _ | .dieRestoreFence _ _ _ _
  | .monCountLoRead _ _ | .monClr _ _ | .monitorConfigWrite _ _ _ _ | .cmpRingTailWrite _ _ _ _ | .cmpRingEnable _ _ _ _ | .opFld _ _
  | .opFst _ _ | .opPrd _ _ | .keeperCoreStart _ _ | .keeperCoreStop _ _ | .rgsExecCancel _ _ | .rgsSlotCancel _ _ | .contextWrite _
  | .contextRead _ | .delayListPeriodWrite _ _ _ | .catChainWrite _ _ _ | .catWrite _ _ | .catInvalidate _ _ | .catMove _ _
  | .catRead _ _ _ | .catKeeperSearch _ _ | .catInvalidateTag _ _ | .catUndefinedOp _ _ _ | .drcRetrain _ _ | .drcInitSkip _ _ _
  | .keyGenerate _ _ _ _ _ | .keyUnwrap _ _ _ | .keyClear _ _ _ | .keyStatus _ _ _ | .sceAcquire _ | .sceRelease _ | .sceForce _ _
  | .sceMessageStart _ _ | .dgeHashPart _ _ _ | .dgeSave _ _ | .dgeRestore _ _ | .dgeData _ _ _ | .dgeLast _ _ _ | .keyPkRevoke _ _
  | .keyRollback _ _ | .almRearm _ | .mailboxConfigWrite _ _ _ | .pmcSelect _ _ | .pmcEventSelect _ _ _ | .pmcClear _ _
  | .islandPowerOff _ _ | .islandPowerOn _ _ | .psExit | .ps4Exit | .pwrDevReset _ _ | .kwdogKick _ => true
  | .crossingRequest _ _ _ _ _ | .islandWake _ | .crossingResponse _ | .staleResponseDrop _ | .registerWrite _ _ _ _ _ | .quiesceDone _
  | .islandReady _ | .hostBar2Write _ _ _ _ | .powerOn | .perstAssert _ | .perstRelease | .keeperFirmwareRunning | .configRequest _ _ _
  | .deviceReset _ | .resetDumpEnd | .linkTrainingDone _ _ _ | .surpriseDown _ _ | .completionTimeout _ _ _ | .hostCompletionTlp _ _ _ _
  | .barUnsupportedRequest _ _ _ _ _ | .bar0BadAccess _ _ _ _ | .controllerRegisterWrite _ _ _ _ | .vfEnable _ _ _ | .sqDoorbell _ _ _
  | .cqDoorbell _ _ _ | .nssrWrite _ _ | .controllerEnable _ _ | .controllerReady _ | .controllerReset _ | .functionLevelReset _
  | .shutdownNotification _ _ | .shutdownComplete _ | .sqeFetch | .sqeArrive _ _ _ | .commandStart _ | .commandComplete _ | .cqePost _ _
  | .coalesceTimerExpiry _ _ | .msixUnmask _ _ | .deleteIoSq _ _ | .createIoSq _ _ _ _ _ _ | .deleteIoCq _ _ | .createIoCq _ _ _ _ _ _
  | .getLogPage _ _ _ _ _ | .identify _ _ _ _ | .abort _ _ _ | .setFeatures _ _ _ _ _ _ | .getFeatures _ _ _ _ | .asyncEventRequest _
  | .nsMgmtCreate _ _ | .nsMgmtDelete _ | .nsAttach _ _ | .nsDetach _ _ | .firmwareImageDownload _ _ _ _ | .firmwareCommitReplace _ _ _
  | .firmwareCommitAtReset _ _ | .firmwareCommitSlotSelect _ _ | .firmwareCommitImmediate _ _ | .fwActivationStart | .fwActivationTimeout
  | .fwActivationComplete | .selfTestShort _ | .selfTestExtended _ | .selfTestAbort _ | .selfTestComplete _
  | .virtualizationManagement _ _ _ _ _ | .formatNvm _ _ _ | .formatComplete | .sanitizeBlockErase _ _ | .sanitizeCryptoErase _
  | .sanitizeExitFailure _ | .sanitizeComplete _ | .smbusMiRead _ _ | .sidebandRefresh | .referenceGeometryFound
  | .channelTrainingDone _ _ | .channelOperationSubmit _ _ _ _ | .channelOperationStart _ | .flashRead _ _ _ | .flashVerify _ _ _
  | .flashProgram _ _ _ _ | .flashErase _ _ _ _ | .flashReadStatus _ _ _ | .dieOperationEnd _ _ | .bufferSlotRelease _ _
  | .operationResume _ _ | .dieBusyTimeout _ _ | .dieResetTimeout _ _ | .keeperDieCheck _ _ _ _ | .fenceRecordDurable _ _
  | .fencedDieResponse _ _ | .dieQualifyEnd _ _ | .pfailAssert _ | .dumpDieCutoff _ | .dumpEnd | .pfailDeassert | .holdupMeasure
  | .holdupMeasureEnd _ _ | .bankCharged | .bankChargeTimeout | .read _ _ _ | .write _ _ _ | .writeChargeAdmit _ | .writeZeroes _ _ _
  | .datasetManagement _ _ _ | .compare _ _ _ | .verify _ _ _ | .flush _ | .mapEntryRestore _ _ | .partialMuFill _
  | .inlineCompressRequest _ | .inlineCompressDone _ | .inlineDecompressRequest _ _ | .pageFillTimeout _ | .pageProgrammed _
  | .parityProgrammed _ _ | .stripeSetOpen _ _ | .parityRelease _ | .garbageCollectionStart _ | .relocation _ | .stripeSetFree _
  | .blockDeaccession _ _ | .journalPageDurable | .journalAdvance | .rootRecordWrite | .recovery _ | .dumpConsumed | .latencyWindowEnd
  | .patrolVerify | .thresholdRewrite _ | .effectiveAgeTick _ | .blockGroupCalibration _ _ _ | .retrainTrigger _ _
  | .scheduleRecordWrite | .sensorInvalid _ _ | .sensorRevalid _ _ | .thermalLoopTick _ | .utilisationDvfsEval _
  | .monitorEventSample _ _ _ | .monitorLevelSample _ | .cmpJobFetch _ | .cmpJobCompress _ | .cmpJobDecompress _ | .cmpJobComplete _
  | .opIll _ _ | .opLd _ _ | .opSt _ _ | .opLdi _ _ | .opAdd _ _ | .opSub _ _ | .opRsb _ _ | .opAddi _ _ | .opAnd _ _ | .opOr _ _
  | .opXor _ _ | .opMin _ _ | .opMax _ _ | .opCmpeq _ _ | .opCmpgt _ _ | .opCmplt _ _ | .opTst _ _ | .opShl _ _ | .opShr _ _ | .opSld _ _
  | .opSlu _ _ | .opSel _ _ | .opHsum _ _ | .opAbs _ _ | .opMcnt _ _ | .opMfst _ _ | .opMld _ _ | .opMst _ _ | .opMnot _ _ | .opXadd _ _
  | .opMul _ _ | .opMula _ _ | .productLand _ | .opLdlo _ _ | .opLdhi _ _ | .opAdlo _ _ | .opIxl _ _ | .opIxs _ _ | .opIyl _ _
  | .opIys _ _ | .opIxa _ _ | .opIya _ _ | .opIxc _ _ | .opIyc _ _ | .opXfr _ _ | .opBr _ _ | .opCall _ _ | .opRet _ _ | .opEnd _ _
  | .opTkt _ _ | .opNop _ _ | .opFence _ _ | .opPwr _ _ | .opMbp _ _ | .opMbt _ _ | .opCsave _ _ | .opCrest _ _ | .opSetg _ _
  | .opMfs _ _ | .opMts _ _ | .opIret _ _ | .opWait _ _ | .keeperInterruptEntry _ | .winClaimRead _ _ _ | .winReleaseWrite _ _ _ _
  | .catalogueKeyStore _ _ _ _ | .search _ _ _ | .searchResult _ _ | .resultRead _ _ | .docIcacheInv _ _ _ | .loadProgram _ _ _
  | .programActivate _ _ _ _ | .programDeactivate _ _ | .memoryRangeSetManagement _ _ _ _ | .executeProgram _ _ _ _ | .executionStart _
  | .executionEnd _ | .readMemory _ _ _ | .writeMemory _ _ _ | .ticketSubmit _ _ | .moveSubmit _ _ | .streamHalfFilled _ _
  | .streamEnd _ _ | .outMoveComplete _ | .ticketPost _ _ | .ticketEnd _ _ _ | .ticketDispatch | .delayListTick _
  | .delayedTicketExpiry _ | .ticketBudgetExpiry _ | .stopTimeoutFence _ _ | .fencedCoreRequest _ _ | .runLimitExpiry _
  | .gallerySelfTestDone _ _ | .catInvalidateTagEnd | .catScrubTick _ | .dramAccess _ _ _ _ | .refreshDue _ _ | .refreshRatePoll _ _ _
  | .caParityAlert _ | .caRetrainEnd _ _ | .dramScrubRead _ _ | .dramTrainingEnd _ _ | .retrainStep _ _ | .dramInitDone _
  | .sceMessageEnd | .dgePartEnd _ | .securityAlarm _ | .mailboxPost _ _ _ | .mailboxTake _ _ | .mailboxTimeout _ | .mailboxRecall _ _
  | .postResultRead _ _ | .pmcCounterWrap _ _ | .pmcSample _ _ _ _ _ | .psEntry _ | .operationalStateChange _ | .apstTransition _
  | .kwdogExpiry | .keeperAutoReinit _ | .rankpwrEnable _ | .railOutOfTolerance _ | .tapReset | .tapIdcode | .tapBypass
  | .tapSamplePreload _ _ | .tapExtest _ _ | .tapHighz | .tapClamp | .tapExtestPulse _ | .tapExtestTrain _ | .resetLunComplete _ _
  | .powerOff | .aspmL1Entry _ _ _ | .aspmL1Exit _ _ | .linkError _ _ _ | .supplySetpointRaise _ _ | .lifetimeValuesUpdate => false

end Sys2Proof
end

