-- ==== Sys2Proof/Certificates/Slice0/Obligations.lean ====
section
/-! DEFINITION. The statements for the provers. -/

section Statements

open Sys2Proof Sys2Proof.Machine

/-- Loads, logic and arithmetic on A with a memory operand (R362 to R364, R372, R373), each lane by lane. What rests on the model's own readings
and choices is in logs 40 and 52. -/
def Obligations.MemoryLaneInstructions : Prop :=
  MemoryLanes .opLd 0x01 { sz := true, base := true, sh := true, m := true } {} (fun _ _ _ _ q => { val := q, c := false, v := false }) ∧
  MemoryLanes .opAdd 0x04 { sz := true, base := true, sh := true, s := true, m := true, f := true, sat := true } {}
    (fun w _ _ p q => addLane w.width w.s w.sat p q) ∧
  MemoryLanes .opSub 0x05 { sz := true, base := true, sh := true, s := true, m := true, f := true, sat := true } {}
    (fun w _ _ p q => subLane w.width w.s w.sat p q) ∧
  MemoryLanes .opRsb 0x06 { sz := true, base := true, sh := true, s := true, m := true, f := true, sat := true } {}
    (fun w _ _ p q => subLane w.width w.s w.sat q p) ∧
  MemoryLanes .opAnd 0x08 { sz := true, base := true, sh := true, m := true, f := true } { c := false, v := false }
    (fun _ _ _ p q => { val := p &&& q, c := false, v := false }) ∧
  MemoryLanes .opOr 0x09 { sz := true, base := true, sh := true, m := true, f := true } { c := false, v := false }
    (fun _ _ _ p q => { val := p ||| q, c := false, v := false }) ∧
  MemoryLanes .opXor 0x0A { sz := true, base := true, sh := true, m := true, f := true } { c := false, v := false }
    (fun _ _ _ p q => { val := p ^^^ q, c := false, v := false }) ∧
  MemoryLanes .opMin 0x0B { sz := true, base := true, sh := true, s := true, m := true, f := true } { c := false, v := false }
    (fun w _ _ p q => { val := if laneVal w.width w.s q < laneVal w.width w.s p then q else p, c := false, v := false }) ∧
  MemoryLanes .opMax 0x0C { sz := true, base := true, sh := true, s := true, m := true, f := true } { c := false, v := false }
    (fun w _ _ p q => { val := if laneVal w.width w.s p < laneVal w.width w.s q then q else p, c := false, v := false }) ∧
  MemoryLanes .opSel 0x15 { sz := true, base := true, sh := true } {}
    (fun _ x j p q => { val := if x.mask.getLsbD j then p else q, c := false, v := false })

/-- Instructions on lanes of A with an immediate or with MLO and MHI (R373, R374, R380). What rests on the model's own readings and choices is in
logs 40 and 52. -/
def Obligations.RegisterLaneInstructions : Prop :=
  RegisterLanes .opLdi 0x03 { sz := true, sh := true, s := true, m := true } {}
    (fun w _ _ _ => { val := immLane w.width w.s w.disp, c := false, v := false }) ∧
  RegisterLanes .opAddi 0x07 { sz := true, sh := true, s := true, m := true, f := true, sat := true } {}
    (fun w _ _ p => addLane w.width w.s w.sat p (immLane w.width w.s w.disp)) ∧
  RegisterLanes .opShl 0x11 { sz := true, sh := true, m := true, f := true } { v := false } (fun w _ _ p => shlLane w.width w.disp.toNat p) ∧
  RegisterLanes .opShr 0x12 { sz := true, sh := true, s := true, m := true, f := true } { v := false }
    (fun w _ _ p => shrLane w.width w.s w.disp.toNat p) ∧
  RegisterLanes .opAbs 0x17 { sz := true, sh := true, m := true, f := true, sat := true } { c := false } (fun w _ _ p => absLane w.width w.sat p) ∧
  RegisterLanes .opLdlo 0x20 { sz := true, sh := true, m := true } {} (fun w x j _ => { val := laneAt x.mlo w.width j, c := false, v := false }) ∧
  RegisterLanes .opLdhi 0x21 { sz := true, sh := true, m := true } {} (fun w x j _ => { val := laneAt x.mhi w.width j, c := false, v := false }) ∧
  RegisterLanes .opAdlo 0x22 { sz := true, sh := true, s := true, m := true, f := true, sat := true } {}
    (fun w x j p => addLane w.width w.s w.sat p (laneAt x.mlo w.width j))

/-- Compares, TST, MNOT and MLD write the mask and nothing else (R363, R372). What rests on the model's own readings and choices is in logs 40 and
52. -/
def Obligations.MaskInstructions : Prop :=
  CompareLanes .opCmpeq 0x0D { sz := true, base := true, sh := true, m := true } (fun _ p q => decide (p = q)) ∧
  CompareLanes .opCmpgt 0x0E { sz := true, base := true, sh := true, s := true, m := true }
    (fun w p q => decide (laneVal w.width w.s q < laneVal w.width w.s p)) ∧
  CompareLanes .opCmplt 0x0F { sz := true, base := true, sh := true, s := true, m := true }
    (fun w p q => decide (laneVal w.width w.s p < laneVal w.width w.s q)) ∧
  CompareLanes .opTst 0x10 { sz := true, base := true, sh := true, m := true } (fun _ p q => decide (p &&& q ≠ 0)) ∧
  (∀ s c w, Runs s c 0x1C { sz := true } w →
    ∃ t m, exec (.opMnot c w) s = .next t ∧ CoreBecomes s t c none 1 { found s c with mask := m } ∧
      ∀ j, j < 64 → m.getLsbD j = (decide (j < laneCount w.width) && !(found s c).mask.getLsbD j)) ∧
  (∀ s c w bs extra u, Runs s c 0x1A { base := true } w → coreLoad c (effAddr c (found s c) w) 8 8 (landed s c) = .got bs extra u →
    ∃ t, exec (.opMld c w) s = .next t ∧ CoreBecomes u t c none (1 + extra) { getCore u c with mask := BitVec.ofNat 64 (ofLe bs) })

/-- SLD, SLU, MCNT and MFST write all of A (R374, R376). What rests on the model's own readings and choices is in log 52. -/
def Obligations.AccumulatorInstructions : Prop :=
  (∀ s c w, Runs s c 0x13 { sz := true } w →
    ∃ t a, exec (.opSld c w) s = .next t ∧ CoreBecomes s t c none 1 { found s c with a := a } ∧
      ∀ j, j < laneCount w.width → laneAt a w.width j =
        if j + w.disp.toNat < laneCount w.width then laneAt (found s c).a w.width (j + w.disp.toNat) else 0) ∧
  (∀ s c w, Runs s c 0x14 { sz := true } w →
    ∃ t a, exec (.opSlu c w) s = .next t ∧ CoreBecomes s t c none 1 { found s c with a := a } ∧
      ∀ j, j < laneCount w.width → laneAt a w.width j =
        if w.disp.toNat ≤ j then laneAt (found s c).a w.width (j - w.disp.toNat) else 0) ∧
  (∀ s c w, Runs s c 0x18 {} w →
    ∃ t a, exec (.opMcnt c w) s = .next t ∧ CoreBecomes s t c none 1 { found s c with a := a } ∧
      a.toNat = ((List.range 64).filter fun j => (found s c).mask.getLsbD j).length) ∧
  (∀ s c w, Runs s c 0x19 { sz := true } w →
    ∃ t a, exec (.opMfst c w) s = .next t ∧ CoreBecomes s t c none 1 { found s c with a := a } ∧
      a.toNat ≤ laneCount w.width ∧ (a.toNat < laneCount w.width → (found s c).mask.getLsbD a.toNat = true) ∧
      ∀ j, j < a.toNat → (found s c).mask.getLsbD j = false)

/-- HSUM extends each lane in its shape to 64 bits, signed when s is 1, and adds them modulo 2^64; of the rest of the core only the PC and the
counts of time change (R375, R376). -/
def Obligations.HsumAddsLanes : Prop :=
  ∀ s c w, Runs s c 0x16 { sz := true, sh := true, s := true } w →
    ∃ t a, exec (.opHsum c w) s = .next t ∧ OnlyCore c s t ∧ settled (getCore t c) (found s c) = { found s c with a := a } ∧
      (getCore t c).pc = nextPc c (found s c) ∧
      (a.toNat : Int) = (w.lanes.map fun j => laneVal w.width w.s (laneAt (found s c).a w.width j)).sum % 2 ^ 64

/-- MUL and MULA form the full 2w-bit product of each lane in the shape, signed when s is 1, its low bits for MLO and its high bits for MHI; the
lanes outside the shape receive 0 (R379). -/
def Obligations.ProductOfLanes : Prop :=
  (∀ s c w bs extra u, Runs s c 0x1E { sz := true, base := true, sh := true, s := true } w → Operand s c w bs extra u →
    ∃ t x, exec (.opMul c w) s = .next t ∧ OnlyCore c u t ∧
      settled (getCore t c) (getCore u c) = { getCore u c with products := (getCore u c).products ++ [x] } ∧
      ProductLanes w (found s c).a (operandBits w bs) x.lo x.hi) ∧
  (∀ s c w, Runs s c 0x1F { sz := true, sh := true, s := true } w →
    ∃ t x, exec (.opMula c w) s = .next t ∧ OnlyCore c s t ∧
      settled (getCore t c) (found s c) = { found s c with products := (found s c).products ++ [x] } ∧
      ProductLanes w (found s c).a (found s c).a x.lo x.hi)

/-- MUL and MULA issue a product that lands four cycles later, and PRODUCT_LAND lands the oldest (R379, R380). What rests on the model's own
readings and choices is in logs 51 and 52. -/
def Obligations.ProductInstructions : Prop :=
  (∀ s c w bs extra u, Runs s c 0x1E { sz := true, base := true, sh := true, s := true } w → Operand s c w bs extra u →
    ∃ t lo hi, exec (.opMul c w) s = .next t ∧
      CoreBecomes u t c none (1 + extra)
        { getCore u c with products := (getCore u c).products ++ [{ lands := (getCore u c).cycle + 4, lo := lo, hi := hi }] }) ∧
  (∀ s c w, Runs s c 0x1F { sz := true, sh := true, s := true } w →
    ∃ t lo hi, exec (.opMula c w) s = .next t ∧
      CoreBecomes s t c none 1 { found s c with products := (found s c).products ++ [{ lands := (found s c).cycle + 4, lo := lo, hi := hi }] }) ∧
  (∀ s c p ps, (getCore s c).products = p :: ps →
    ∃ t, exec (.productLand c) s = .next t ∧ OnlyCore c s t ∧
      getCore t c = { getCore s c with cycle := max (getCore s c).cycle p.lands, mlo := p.lo, mhi := p.hi, products := ps })

/-- Index registers: loads, additions and compares (R364, R367, R368, R372). What rests on the model's own readings and choices is in logs 40 and
52. -/
def Obligations.IndexInstructions : Prop :=
  (∀ s c w bs extra u, Runs s c 0x23 { base := true } w → IndexOperand s c w bs extra u →
    ∃ t, exec (.opIxl c w) s = .next t ∧ CoreBecomes u t c none (1 + extra) { getCore u c with x := c.addr (ofLe bs % 2 ^ 48) }) ∧
  (∀ s c w bs extra u, Runs s c 0x25 { base := true } w → IndexOperand s c w bs extra u →
    ∃ t, exec (.opIyl c w) s = .next t ∧ CoreBecomes u t c none (1 + extra) { getCore u c with y := c.addr (ofLe bs % 2 ^ 48) }) ∧
  (∀ s c w, Runs s c 0x27 { m := true } w →
    ∃ t v, exec (.opIxa c w) s = .next t ∧ CoreBecomes s t c none 1 { found s c with x := v } ∧
      (w.m = true ∧ (found s c).mask = 0 → v = (found s c).x) ∧
      (w.m = false ∨ (found s c).mask ≠ 0 → (v.toNat : Int) = (((found s c).x.toNat : Int) + w.disp.toInt) % 2 ^ c.addrBits)) ∧
  (∀ s c w, Runs s c 0x28 { m := true } w →
    ∃ t v, exec (.opIya c w) s = .next t ∧ CoreBecomes s t c none 1 { found s c with y := v } ∧
      (w.m = true ∧ (found s c).mask = 0 → v = (found s c).y) ∧
      (w.m = false ∨ (found s c).mask ≠ 0 → (v.toNat : Int) = (((found s c).y.toNat : Int) + w.disp.toInt) % 2 ^ c.addrBits)) ∧
  (∀ s c w bs extra u, Runs s c 0x29 { base := true } w → IndexOperand s c w bs extra u →
    ∃ t, exec (.opIxc c w) s = .next t ∧ CoreBecomes u t c none (1 + extra) (putIndexFlags c (found s c).x.toNat (c.addr (ofLe bs % 2 ^ 48)).toNat (getCore u c))) ∧
  (∀ s c w bs extra u, Runs s c 0x2A { base := true } w → IndexOperand s c w bs extra u →
    ∃ t, exec (.opIyc c w) s = .next t ∧ CoreBecomes u t c none (1 + extra) (putIndexFlags c (found s c).y.toNat (c.addr (ofLe bs % 2 ^ 48)).toNat (getCore u c)))

/-- Branches, calls and returns, NOP and FENCE (R367, R378, R403): the PC, the link register and nothing else. What rests on the model's own
readings and choices is in logs 41 and 52. -/
def Obligations.ControlInstructions : Prop :=
  (∀ s c w, Runs s c 0x2C { sh := true, s := true, m := true } w →
    ∃ t, exec (.opBr c w) s = .next t ∧
      (condHolds (found s c) w.cond = true → CoreBecomes s t c (some (branchTarget c (found s c) w)) 2 (found s c)) ∧
      (condHolds (found s c) w.cond = false → CoreBecomes s t c none 1 (found s c))) ∧
  (∀ s c w, Runs s c 0x2D {} w →
    ∃ t, exec (.opCall c w) s = .next t ∧
      CoreBecomes s t c (some (branchTarget c (found s c) w)) 2 { found s c with lk := nextPc c (found s c) }) ∧
  (∀ s c w, Runs s c 0x2E {} w → ∃ t, exec (.opRet c w) s = .next t ∧ CoreBecomes s t c (some (found s c).lk) 2 (found s c)) ∧
  (∀ s c w, Runs s c 0x31 {} w → ∃ t, exec (.opNop c w) s = .next t ∧ CoreBecomes s t c none 1 (found s c)) ∧
  (∀ s c w, Runs s c 0x32 {} w → ∃ t, exec (.opFence c w) s = .next t ∧ CoreBecomes s t c none 1 (found s c))

/-- Stores. To plain memory: the bytes stored, and every other byte as before (R361, R363, R368, R384). Anywhere, windows, ports and mailboxes too:
where the access is done the instruction ends with what the access did and nothing else changed but its core, and where the access faults the
instruction faults (R366, R369, R395). XADD faults off its alignment and outside local and shared memory. What rests on the model's own readings
and choices is in logs 41, 52, 57 and 59. -/
def Obligations.StoreInstructions : Prop :=
  (∀ s c w base, Sound s → Runs s c 0x02 { sz := true, base := true, sh := true, m := true } w →
    plainPlace c (effAddr c (found s c) w) (shapeBytes w.shape w.width) = some base → effAddr c (found s c) w % shapeBytes w.shape w.width = 0 →
    ∃ t, exec (.opSt c w) s = .next t ∧
      StoreDone s t c base (shapeData w (found s c).a) (fun i => (storeEnables w (found s c)).getD i false) 1 (found s c)) ∧
  (∀ s c w base, Sound s → Runs s c 0x1B { base := true } w →
    plainPlace c (effAddr c (found s c) w) 8 = some base → effAddr c (found s c) w % 8 = 0 →
    ∃ t, exec (.opMst c w) s = .next t ∧ StoreDone s t c base (leBytes 8 (found s c).mask.toNat) (fun _ => true) 1 (found s c)) ∧
  (∀ s c w base, Sound s → Runs s c 0x24 { base := true } w →
    plainPlace c (effAddr c (found s c) w) c.indexBytes = some base → effAddr c (found s c) w % c.indexBytes = 0 →
    ∃ t, exec (.opIxs c w) s = .next t ∧ StoreDone s t c base (leBytes c.indexBytes (found s c).x.toNat) (fun _ => true) 1 (found s c)) ∧
  (∀ s c w base, Sound s → Runs s c 0x26 { base := true } w →
    plainPlace c (effAddr c (found s c) w) c.indexBytes = some base → effAddr c (found s c) w % c.indexBytes = 0 →
    ∃ t, exec (.opIys c w) s = .next t ∧ StoreDone s t c base (leBytes c.indexBytes (found s c).y.toNat) (fun _ => true) 1 (found s c)) ∧
  (∀ s c w base, Sound s → Runs s c 0x1D { sz := true, base := true, sh := true, onlyS := true } w →
    plainPlace c (effAddr c (found s c) w) (w.width / 8) = some base → effAddr c (found s c) w % (w.width / 8) = 0 →
    ∃ t cost, exec (.opXadd c w) s = .next t ∧
      StoreDone s t c base (leBytes (w.width / 8) ((readLe s base (w.width / 8) + laneAt (found s c).a w.width 0) % 2 ^ w.width)) (fun _ => true) cost
        { found s c with a := setLane (found s c).a w.width 0 (readLe s base (w.width / 8)) }) ∧
  (∀ r ∈ storeRows, ∀ s c w, Runs s c r.op r.acc w →
    (∀ u, coreStore c (effAddr c (found s c) w) (r.align c w) (r.data c w (found s c)) (r.enables c w (found s c)) (landed s c) = .done u →
      ∃ t, exec (r.make c w) s = .next t ∧ CoreBecomes u t c none 1 (getCore u c)) ∧
    (∀ code sub u, coreStore c (effAddr c (found s c) w) (r.align c w) (r.data c w (found s c)) (r.enables c w (found s c)) (landed s c) = .fault code sub u →
      ∃ t, exec (r.make c w) s = .next t ∧ FaultTaken u t c code sub (instrWord r.op w) (if code = 1 then 0 else effAddr c (found s c) w))) ∧
  (∀ s c w, Runs s c 0x1D { sz := true, base := true, sh := true, onlyS := true } w → effAddr c (found s c) w % (w.width / 8) ≠ 0 →
    ∃ t, exec (.opXadd c w) s = .next t ∧ FaultTaken (landed s c) t c 3 0 (instrWord 0x1D w) (effAddr c (found s c) w)) ∧
  (∀ s c w, Runs s c 0x1D { sz := true, base := true, sh := true, onlyS := true } w → effAddr c (found s c) w % (w.width / 8) = 0 →
    xaddPlace c (effAddr c (found s c) w) (w.width / 8) = none →
    ∃ t, exec (.opXadd c w) s = .next t ∧ FaultTaken (landed s c) t c 4 0 (instrWord 0x1D w) (effAddr c (found s c) w))

/-- XFR by every selector (R376, R377): registers, the TSC at most 8 ns behind (R20), the cycle counter and the event counters. What rests on the
model's own readings and choices is in logs 26, 39, 52 and 129. -/
def Obligations.TransferInstruction : Prop :=
  (∀ s c w y, Runs s c 0x2B {} w → transferred c (found s c) w.disp.toNat = some y →
    ∃ t, exec (.opXfr c w) s = .next t ∧ CoreBecomes s t c none 1 y) ∧
  (∀ s c w, Runs s c 0x2B {} w → w.disp.toNat = 7 → s.tsc < 2 ^ 64 →
    ∃ t v, exec (.opXfr c w) s = .next t ∧ v ≤ s.tsc ∧ s.tsc ≤ v + 8 ∧
      bare (getCore t c) = bare (retired s c none 1 { found s c with a := BitVec.ofNat 512 v })) ∧
  (∀ s c w, Runs s c 0x2B {} w → w.disp.toNat = 12 → counterAllowed s c = true →
    ∃ t v, exec (.opXfr c w) s = .next t ∧ v < 2 ^ 64 ∧ (getCore t c).a = BitVec.ofNat 512 v ∧ (getCore t c).pmcCycles = v) ∧
  (∀ s c w, Runs s c 0x2B {} w → 13 ≤ w.disp.toNat → w.disp.toNat ≤ 20 → counterAllowed s c = true →
    timedEvent (Tab.getD (found s c).pmcSel (w.disp.toNat - 13) 0) = false →
    ∃ t, exec (.opXfr c w) s = .next t ∧
      CoreBecomes s t c none 1 { found s c with a := BitVec.ofNat 512 (Tab.getD (found s c).pmc (w.disp.toNat - 13) 0 % 2 ^ 64) }) ∧
  (∀ s c w, Runs s c 0x2B {} w → 13 ≤ w.disp.toNat → w.disp.toNat ≤ 20 → counterAllowed s c = true →
    timedEvent (Tab.getD (found s c).pmcSel (w.disp.toNat - 13) 0) = true →
    ∃ t v, exec (.opXfr c w) s = .next t ∧ v < 2 ^ 48 ∧ (getCore t c).a = BitVec.ofNat 512 v ∧
      Tab.getD (getCore t c).pmc (w.disp.toNat - 13) 0 = v)

/-- IRET sets PC to EPC, the flags to EFL, the mask to EMASK, IEN to 1 and ECAUSE.active to 0; of the rest of the core only the counts of time
change (R407). -/
def Obligations.IretRestores : Prop :=
  ∀ s k w, Runs s (.keeper k) 0x3E {} w →
    ∃ t, exec (.opIret (.keeper k) w) s = .next t ∧ OnlyCore (.keeper k) s t ∧ (getCore t (.keeper k)).pc = (found s (.keeper k)).epc ∧
      settled (getCore t (.keeper k)) (found s (.keeper k)) =
        { Core.putFlags (found s (.keeper k)).efl (found s (.keeper k)) with
          mask := (found s (.keeper k)).emask, ien := true, ecause := (found s (.keeper k)).ecause &&& 0x7FFFFFFF }

/-- Keeper-mode instructions: SETG, MFS, MTS and WAIT on registers (R404, R408), and what CSAVE writes and CREST reads back (R409). MFS and MTS of a
register that does not exist, and MTS of one that is read-only, fault (R395); so do CSAVE and CREST off their alignment or outside the memories of
keeper mode. What rests on the model's own readings and choices is in logs 50, 52 and 57. -/
def Obligations.KeeperCoreInstructions : Prop :=
  (∀ s k w, Runs s (.keeper k) 0x3B {} w →
    ∃ t, exec (.opSetg (.keeper k) w) s = .next t ∧
      CoreBecomes s t (.keeper k) none 1 { found s (.keeper k) with g := (found s (.keeper k)).a.setWidth 48 }) ∧
  (∀ s k w v, Runs s (.keeper k) 0x3C {} w → specialOf k (found s (.keeper k)) w.disp.toNat = some v →
    ∃ t, exec (.opMfs (.keeper k) w) s = .next t ∧
      CoreBecomes s t (.keeper k) none 1 { found s (.keeper k) with a := BitVec.ofNat 512 (v % 2 ^ 64) }) ∧
  (∀ s k w y, Runs s (.keeper k) 0x3D {} w → specialPut (found s (.keeper k)) w.disp.toNat = some y →
    ∃ t, exec (.opMts (.keeper k) w) s = .next t ∧ CoreBecomes s t (.keeper k) none 1 y) ∧
  (∀ s k w, Runs s (.keeper k) 0x3C {} w → specialOf k (found s (.keeper k)) w.disp.toNat = none →
    ∃ t, exec (.opMfs (.keeper k) w) s = .next t ∧ FaultTaken (landed s (.keeper k)) t (.keeper k) 1 0 (instrWord 0x3C w) 0) ∧
  (∀ s k w, Runs s (.keeper k) 0x3D {} w → specialPut (found s (.keeper k)) w.disp.toNat = none →
    ∃ t, exec (.opMts (.keeper k) w) s = .next t ∧ FaultTaken (landed s (.keeper k)) t (.keeper k) 1 0 (instrWord 0x3D w) 0) ∧
  (∀ s k w, Runs s (.keeper k) 0x3F {} w →
    ∃ t, exec (.opWait (.keeper k) w) s = .next t ∧ (getCore t (.keeper k)).pc = nextPc (.keeper k) (found s (.keeper k)) ∧
      (getCore t (.keeper k)).waiting = !keeperEvent (landed s (.keeper k)) k ∧ OnlyCore (.keeper k) s t) ∧
  (∀ s k w, Sound s → Runs s (.keeper k) 0x39 { base := true } w → effAddr (.keeper k) (found s (.keeper k)) w % 64 = 0 →
    areaMapped (effAddr (.keeper k) (found s (.keeper k)) w) 256 = true →
    plainPlace (.keeper k) (effAddr (.keeper k) (found s (.keeper k)) w) 256 = some (effAddr (.keeper k) (found s (.keeper k)) w) →
    ∃ t, exec (.opCsave (.keeper k) w) s = .next t ∧
      StoreDone s t (.keeper k) (effAddr (.keeper k) (found s (.keeper k)) w) (contextBytes (.keeper k) (found s (.keeper k)).drain)
        (fun _ => true) 8 (found s (.keeper k)).drain) ∧
  (∀ s k w bs extra u, Runs s (.keeper k) 0x3A { base := true } w → effAddr (.keeper k) (found s (.keeper k)) w % 64 = 0 →
    areaMapped (effAddr (.keeper k) (found s (.keeper k)) w) 256 = true →
    coreLoad (.keeper k) (effAddr (.keeper k) (found s (.keeper k)) w) 256 64 (landed s (.keeper k)) = .got bs extra u →
    ∃ t, exec (.opCrest (.keeper k) w) s = .next t ∧ CoreBecomes u t (.keeper k) none 8 (contextLoad (.keeper k) bs (getCore u (.keeper k)))) ∧
  (∀ s k w u, Runs s (.keeper k) 0x39 { base := true } w → effAddr (.keeper k) (found s (.keeper k)) w % 64 = 0 →
    areaMapped (effAddr (.keeper k) (found s (.keeper k)) w) 256 = true →
    coreStore (.keeper k) (effAddr (.keeper k) (found s (.keeper k)) w) 64 (contextBytes (.keeper k) (found s (.keeper k)).drain)
      (List.replicate 256 true) (landed s (.keeper k)) = .done u →
    ∃ t, exec (.opCsave (.keeper k) w) s = .next t ∧ CoreBecomes u t (.keeper k) none 8 (getCore u (.keeper k)).drain) ∧
  (∀ s k w code sub u, Runs s (.keeper k) 0x39 { base := true } w → effAddr (.keeper k) (found s (.keeper k)) w % 64 = 0 →
    areaMapped (effAddr (.keeper k) (found s (.keeper k)) w) 256 = true →
    coreStore (.keeper k) (effAddr (.keeper k) (found s (.keeper k)) w) 64 (contextBytes (.keeper k) (found s (.keeper k)).drain)
      (List.replicate 256 true) (landed s (.keeper k)) = .fault code sub u →
    ∃ t, exec (.opCsave (.keeper k) w) s = .next t ∧
      FaultTaken u t (.keeper k) code sub (instrWord 0x39 w) (effAddr (.keeper k) (found s (.keeper k)) w)) ∧
  (∀ s k w, Runs s (.keeper k) 0x39 { base := true } w →
    effAddr (.keeper k) (found s (.keeper k)) w % 64 ≠ 0 ∨ areaMapped (effAddr (.keeper k) (found s (.keeper k)) w) 256 = false →
    ∃ t, exec (.opCsave (.keeper k) w) s = .next t ∧
      FaultTaken (landed s (.keeper k)) t (.keeper k) (if effAddr (.keeper k) (found s (.keeper k)) w % 64 ≠ 0 then 3 else 4) 0 (instrWord 0x39 w)
        (effAddr (.keeper k) (found s (.keeper k)) w)) ∧
  (∀ s k w, Runs s (.keeper k) 0x3A { base := true } w →
    effAddr (.keeper k) (found s (.keeper k)) w % 64 ≠ 0 ∨ areaMapped (effAddr (.keeper k) (found s (.keeper k)) w) 256 = false →
    ∃ t, exec (.opCrest (.keeper k) w) s = .next t ∧
      FaultTaken (landed s (.keeper k)) t (.keeper k) (if effAddr (.keeper k) (found s (.keeper k)) w % 64 ≠ 0 then 3 else 4) 0 (instrWord 0x3A w)
        (effAddr (.keeper k) (found s (.keeper k)) w)) ∧
  (∀ k x z, contextLoad (.keeper k) (contextBytes (.keeper k) x) z =
    { z with
      a := x.a, mlo := x.mlo, mhi := x.mhi, x := x.x, y := x.y, g := x.g, lk := x.lk, mask := x.mask, z := x.z, n := x.n, c := x.c, v := x.v })

/-- Far loads and stores, page register reads and writes (R400, R401): the value that the access answered, or the store that it made; and MBP and
MBT: Z, the channel and A (R402, R572, R573, R574). What rests on the model's own readings and choices is in logs 52 and 61. -/
def Obligations.FarAccessInstructions : Prop :=
  (∀ s k w ans v, Runs s (.keeper k) 0x33 { sz := true, base := true, sh := true } w →
    effAddr (.keeper k) (found s (.keeper k)) w % shapeBytes w.shape w.width = 0 → effAddr (.keeper k) (found s (.keeper k)) w < pageBase →
    Awake (landed s (.keeper k)) (farIsland (landed s (.keeper k)) (effAddr (.keeper k) (found s (.keeper k)) w)) →
    busRead (effAddr (.keeper k) (found s (.keeper k)) w) (shapeBytes w.shape w.width)
      (pmcEvent (.keeper k) 0x16
        (reachedBy (.keeper k) (farIsland (landed s (.keeper k)) (effAddr (.keeper k) (found s (.keeper k)) w)) (landed s (.keeper k)))) = (ans, v) →
    ans.code = 0 →
    ∃ t y, exec (.opFld (.keeper k) w) s = .next t ∧ CoreBecomes v t (.keeper k) none 1 y ∧
      { y with a := (getCore v (.keeper k)).a } = getCore v (.keeper k) ∧
      LanesBecome w 0 (getCore v (.keeper k)).a y.a (laneAt (operandBits w ans.bytes) w.width)) ∧
  (∀ s k w v, Runs s (.keeper k) 0x34 { sz := true, base := true, sh := true } w →
    effAddr (.keeper k) (found s (.keeper k)) w % shapeBytes w.shape w.width = 0 → effAddr (.keeper k) (found s (.keeper k)) w < pageBase →
    Awake (landed s (.keeper k)) (farIsland (landed s (.keeper k)) (effAddr (.keeper k) (found s (.keeper k)) w)) →
    busWrite (effAddr (.keeper k) (found s (.keeper k)) w) (shapeData w (found s (.keeper k)).a)
      (pmcEvent (.keeper k) 0x16
        (reachedBy (.keeper k) (farIsland (landed s (.keeper k)) (effAddr (.keeper k) (found s (.keeper k)) w)) (landed s (.keeper k)))) = (0, v) →
    ∃ t, exec (.opFst (.keeper k) w) s = .next t ∧ CoreBecomes v t (.keeper k) none 1 (getCore v (.keeper k)) ∧ t.mem = v.mem) ∧
  (∀ s k w v z, Runs s (.keeper k) 0x35 { base := true } w →
    effAddr (.keeper k) (found s (.keeper k)) w % 4 = 0 → effAddr (.keeper k) (found s (.keeper k)) w < 0x108000 →
    Awake (landed s (.keeper k))
      (servingIsland (effAddr (.keeper k) (found s (.keeper k)) w / 0x1000) (effAddr (.keeper k) (found s (.keeper k)) w % 0x1000)) →
    pageRead .served (.keeper k) (effAddr (.keeper k) (found s (.keeper k)) w / 0x1000) (effAddr (.keeper k) (found s (.keeper k)) w % 0x1000) 32
      (pmcEvent (.keeper k) 0x17
        (reachedBy (.keeper k) (servingIsland (effAddr (.keeper k) (found s (.keeper k)) w / 0x1000) (effAddr (.keeper k) (found s (.keeper k)) w % 0x1000))
          (landed s (.keeper k)))) = (0, v, z) →
    ∃ t, exec (.opPrd (.keeper k) w) s = .next t ∧ CoreBecomes z t (.keeper k) none 1 { getCore z (.keeper k) with a := BitVec.ofNat 512 v.toNat }) ∧
  (∀ s k w z, Runs s (.keeper k) 0x36 { base := true } w →
    effAddr (.keeper k) (found s (.keeper k)) w % 4 = 0 → effAddr (.keeper k) (found s (.keeper k)) w < 0x108000 →
    Awake (landed s (.keeper k))
      (servingIsland (effAddr (.keeper k) (found s (.keeper k)) w / 0x1000) (effAddr (.keeper k) (found s (.keeper k)) w % 0x1000)) →
    pageWrite .served (.keeper k) (effAddr (.keeper k) (found s (.keeper k)) w / 0x1000) (effAddr (.keeper k) (found s (.keeper k)) w % 0x1000) 32
      ((found s (.keeper k)).a.setWidth 32)
      (pmcEvent (.keeper k) 0x17
        (reachedBy (.keeper k) (servingIsland (effAddr (.keeper k) (found s (.keeper k)) w / 0x1000) (effAddr (.keeper k) (found s (.keeper k)) w % 0x1000))
          (landed s (.keeper k)))) = (0, z) →
    ∃ t, exec (.opPwr (.keeper k) w) s = .next t ∧ CoreBecomes z t (.keeper k) none 1 (getCore z (.keeper k))) ∧
  (∀ s k w, Sound s → Runs s (.keeper k) 0x34 { sz := true, base := true, sh := true } w →
    effAddr (.keeper k) (found s (.keeper k)) w % shapeBytes w.shape w.width = 0 → effAddr (.keeper k) (found s (.keeper k)) w < pageBase →
    NothingBefore s (.keeper k) (farIsland s (effAddr (.keeper k) (found s (.keeper k)) w)) →
    (∃ g, farIsland s (effAddr (.keeper k) (found s (.keeper k)) w) = some (.gallery g) ∧ islandRefuses s (.gallery g) = false ∧
        (islandPresent s (.gallery g) && islandAsleep s (.gallery g)) = false) ∨
      (farIsland s (effAddr (.keeper k) (found s (.keeper k)) w) = some .keeper ∧ islandAsleep s .keeper = false) →
    ∃ t, exec (.opFst (.keeper k) w) s = .next t ∧
      StoreDone s t (.keeper k) (effAddr (.keeper k) (found s (.keeper k)) w) (shapeData w (found s (.keeper k)).a) (fun _ => true) 1 (found s (.keeper k))) ∧
  (∀ s k w, Runs s (.keeper k) 0x37 { base := true } w → effAddr (.keeper k) (found s (.keeper k)) w < 512 →
    ∃ t, exec (.opMbp (.keeper k) w) s = .next t ∧
      (getCore t (.keeper k)).z = !Tab.has s.mbx (effAddr (.keeper k) (found s (.keeper k)) w) ∧
      (getCore t (.keeper k)).pc = nextPc (.keeper k) (found s (.keeper k)) ∧
      (Tab.has s.mbx (effAddr (.keeper k) (found s (.keeper k)) w) = true → t.mbx = s.mbx) ∧
      (Tab.has s.mbx (effAddr (.keeper k) (found s (.keeper k)) w) = false → ringsOfChannel s (effAddr (.keeper k) (found s (.keeper k)) w) = [] →
        Tab.get? t.mbx (effAddr (.keeper k) (found s (.keeper k)) w) =
          some { word := (found s (.keeper k)).a.setWidth 32, stamp := 0x510000 + k, since := s.tsc })) ∧
  (∀ s k w, Runs s (.keeper k) 0x38 { base := true } w → effAddr (.keeper k) (found s (.keeper k)) w < 512 →
    ∃ t, exec (.opMbt (.keeper k) w) s = .next t ∧
      (getCore t (.keeper k)).z = Tab.has s.mbx (effAddr (.keeper k) (found s (.keeper k)) w) ∧
      Tab.get? t.mbx (effAddr (.keeper k) (found s (.keeper k)) w) = none ∧
      (Tab.get? s.mbx (effAddr (.keeper k) (found s (.keeper k)) w) = none → (getCore t (.keeper k)).a = 0) ∧
      ∀ m, Tab.get? s.mbx (effAddr (.keeper k) (found s (.keeper k)) w) = some m →
        (getCore t (.keeper k)).a = BitVec.ofNat 512 ((2 ^ 63 + m.stamp * 2 ^ 32 + m.word.toNat) % 2 ^ 64))

/-- Instructions that fault (R357, R366, R371, R395 to R399, R406): ILL, every instruction in a mode that may not run it, with a field that it does
not accept, or at a PC outside the executable regions. A keeper core enters its handler, or halts where it is in one; a Docent core's fault is
recorded and its ticket ends. What rests on the model's own readings and choices is in logs 41 and 57. -/
def Obligations.FaultingInstructions : Prop :=
  (∀ s k w, Runs s (.keeper k) 0x00 {} w → (getCore s (.keeper k)).ecause.getLsbD 31 = false →
    ∃ t, exec (.opIll (.keeper k) w) s = .next t ∧ OnlyCore (.keeper k) s t ∧
      bare (getCore t (.keeper k)) = bare { (found s (.keeper k)).drain with
        epc := (getCore s (.keeper k)).pc, eaddr := 0, efl := flagsWord (getCore s (.keeper k)), emask := (getCore s (.keeper k)).mask,
        ecause := 0x80000001, ien := false, pc := BitVec.ofNat 48 ((getCore s (.keeper k)).vbase.toNat + 0x80), stalled := false, waiting := false }) ∧
  (∀ s g k w n tk, Runs s (.docent g k) 0x00 {} w → ServesQuietly s g k n tk →
    ∃ t, exec (.opIll (.docent g k) w) s = .next t ∧ (getCore t (.docent g k)).serving = none ∧
      t.rgs.faults.head? = some {
        code := 1, sub := 0, gallery := g, core := k, pc := (getCore s (.docent g k)).pc.toNat,
        instr := instrWord 0 w, ea := 0, tsc := s.tsc, slot := n }) ∧
  (∀ s g k w n tk, coreRuns s (.docent g k) = true → fetchable (.docent g k) (getCore s (.docent g k)).pc = true → ServesQuietly s g k n tk →
    ∃ t, exec (.opSetg (.docent g k) w) s = .next t ∧ (getCore t (.docent g k)).serving = none ∧
      t.rgs.faults.head? = some {
        code := 2, sub := 0, gallery := g, core := k, pc := (getCore s (.docent g k)).pc.toNat,
        instr := instrWord 0x3B w, ea := 0, tsc := s.tsc, slot := n }) ∧
  (∀ s c w, Fetches s c → ∃ t, exec (.opIll c w) s = .next t ∧ FaultTaken (landed s c) t c 1 0 (instrWord 0 w) 0) ∧
  (∀ s k w, Fetches s (.keeper k) →
    ∃ t, exec (.opEnd (.keeper k) w) s = .next t ∧ FaultTaken (landed s (.keeper k)) t (.keeper k) 1 0 (instrWord 0x2F w) 0) ∧
  (∀ r ∈ isaRows, ∀ s g k w, 0x33 ≤ r.1 → Fetches s (.docent g k) →
    ∃ t, exec (r.2.2 (.docent g k) w) s = .next t ∧
      FaultTaken (landed s (.docent g k)) t (.docent g k) 2 0 (instrWord r.1 w)
        (if r.2.1.base = true then effAddr (.docent g k) (found s (.docent g k)) w else 0)) ∧
  (∀ r ∈ isaRows, ∀ s c w, Fetches s c → r.1 < 0x33 ∨ c.isKeeper = true → r.2.1.ok w = false →
    ∃ t, exec (r.2.2 c w) s = .next t ∧ FaultTaken (landed s c) t c 1 0 (instrWord r.1 w) 0) ∧
  (∀ r ∈ isaRows, ∀ s c w, coreRuns s c = true → fetchable c (getCore s c).pc = false →
    ∃ t, exec (r.2.2 c w) s = .next t ∧ FaultTaken (landed s c) t c 9 0 0 0)

/-- Requests and responses of the crossings, and the wake event (R22 to R25, R28, R62, R605, R640). What rests on the model's own readings and choices is in logs 28, 62, 65
and 147. -/
def Obligations.CrossingCommands : Prop :=
  (∀ s id src dst op place, islandPresent s src = true → NewRequest s id → opShutPort s src op = none → mirrorOp op = false → place ≠ .served →
    TakesRequest s dst →
    exec (.crossingRequest id src dst op place) s = .next { s with
      fab := { s.fab with
        requests := s.fab.requests ++ [{ id := id, src := src, dst := dst, epoch := (isl s src).epoch, op := op, place := place }] } }) ∧
  (∀ s id src dst op place, islandPresent s src = true → NewRequest s id → opShutPort s src op = none → mirrorOp op = false →
    islandPresent s dst = true → islandAsleep s dst = true →
    ∃ t, exec (.crossingRequest id src dst op place) s = .next t ∧ (isl t dst).wakePending = true ∧
      t.fab.requests = s.fab.requests ++ [{ id := id, src := src, dst := dst, epoch := (isl s src).epoch, op := op, place := place }]) ∧
  (∀ s id src dst op place, islandPresent s src = true → NewRequest s id → opShutPort s src op = none → mirrorOp op = false → Awake s (some dst) →
    islandRefuses s dst = true ∨ (hdr s dst.primary).quiesceReq = true →
    ∃ t, exec (.crossingRequest id src dst op place) s = .next t ∧
      t.fab.responses = s.fab.responses ++
        [{ id := id, dest := src, epoch := (isl s src).epoch, error := 2, read := op.isRead, data := [] }]) ∧
  (∀ s id src dst op place p page off, islandPresent s src = true → NewRequest s id → opShutPort s src op = some (p, page, off) →
    ∃ t, exec (.crossingRequest id src dst op place) s = .next t ∧
      t.fab.responses = s.fab.responses ++
        [{ id := id, dest := src, epoch := (isl s src).epoch, error := 6, read := op.isRead, data := [] }] ∧
      hdr t (8 + 4 * p) = captured (hdr s (8 + 4 * p)) 6 (pageAddr page off)) ∧
  (∀ s id x, s.fab.requests.find? (fun r => r.id == id) = none → s.fab.responses.find? (fun x => x.id == id) = some x →
    x.epoch = (isl s x.dest).epoch →
    ∃ t, exec (.crossingResponse id) s = .next t ∧ t.fab.responses = s.fab.responses.filter (fun y => y.id != id) ∧
      t.out = s.out ++ (match x.dest, x.error, x.read with
        | .host _, _, false => []
        | .host _, 0, true => [.hostRead (ofLe x.data)]
        | .host _, _, true => [.hostRead 0xFFFFFFFF]
        | _, 0, false => []
        | _, 0, true => [.coreRead (ofLe x.data)]
        | _, e, _ => [.errorResponse e])) ∧
  (∀ s id x, s.fab.responses.find? (fun x => x.id == id) = some x → x.epoch ≠ (isl s x.dest).epoch →
    ∃ t, exec (.staleResponseDrop id) s = .next t ∧ t.out = s.out ∧ t.fab.responses = s.fab.responses.filter (fun y => y.id != id) ∧
      hdr t x.dest.primary = captured (hdr s x.dest.primary) 4 (pageAddr x.dest.primary 0)) ∧
  (∀ s dst, islandPresent s dst = true → (isl s dst).power = 2 ∨ (isl s dst).power = 3 → s.fab.requests.any (·.dst == dst) = false →
    s.pwr.ps ≠ 4 ∨ (isl s dst).wakePending = false → (∀ n, dst = .dram n → (drc s n).waiting = []) →
    ∃ t, exec (.islandWake dst) s = .next t ∧ isl t dst = { isl s dst with power := 2, wakePending := false }) ∧
  (∀ s dst, s.pwr.ps = 4 → islandPresent s dst = true → (isl s dst).wakePending = true → s.fab.requests = [] → (∀ n, (drc s n).waiting = []) →
    ∃ t, exec (.islandWake dst) s = .next t ∧ t.pwr.ps = exitState s)

/-- Writes of the common header and of a plain register (R8, R43, R48, R50, R56, R57). What rests on the model's own readings and choices is in
logs 63 and 136. -/
def Obligations.HeaderWrites : Prop :=
  (∀ s who page v, HeaderServes s who page true →
    exec (.registerWrite who page 0x30 32 v) s = .next (setHdr page (fun h => { h with scratch := v }) s)) ∧
  (∀ s k v, Serves s (.keeper k) 1 true →
    exec (.registerWrite (.keeper k) 1 0x54 32 v) s = .next (putReg 1 0x54 (v &&& 0xFFFF) s)) ∧
  (∀ s k page off v w, pageIsland page = none →
    ∃ t, exec (.registerWrite (.keeper k) page off w v) s = .next t ∧ t.out = s.out ++ [.errorResponse 1] ∧
      hdr t 0 = captured (hdr s 0) 1 (pageAddr page off)) ∧
  (∀ s k page off v w, (pageIsland page).isSome = true → Awake s (pageIsland page) → NothingBefore s (.keeper k) (servingIsland page off) →
    w ≠ 32 ∨ off % 4 ≠ 0 →
    ∃ t, exec (.registerWrite (.keeper k) page off w v) s = .next t ∧ t.out = s.out ++ [.errorResponse 8] ∧
      hdr t page = if page = 249 then captured (captured (hdr s page) 8 (pageAddr page off)) 0x22 (pageAddr 249 0)
        else captured (hdr s page) 8 (pageAddr page off)) ∧
  (∀ s k page off v, (pageIsland page).isSome = true → Awake s (pageIsland page) → NothingBefore s (.keeper k) (pageIsland page) → regsRefuse s page = true → off % 4 = 0 → 0x40 ≤ off → off < 0x1000 →
    ∃ t, exec (.registerWrite (.keeper k) page off 32 v) s = .next t ∧ t.out = s.out ++ [.errorResponse 2] ∧
      hdr t page = captured (hdr s page) 2 (pageAddr page off)) ∧
  (∀ s k page, pagePresent s page = true → NothingBefore s (.keeper k) (some .alwaysOn) →
    exec (.pgLock (.keeper k) page) s = .next (setHdr page (fun h => { h with lock := true }) s)) ∧
  (∀ s who page, who.isKeeper = false → HeaderServes s who page true → exec (.pgLock who page) s = .next s) ∧
  (∀ s k page b, pagePresent s page = true → NothingBefore s (.keeper k) (some .alwaysOn) →
    ∃ t, exec (.pgEnableWrite (.keeper k) page b) s = .next t ∧ (hdr t page).enable = b ∧
      ∀ p, p ≠ page → { hdr t p with irqStat := 0 } = { hdr s p with irqStat := 0 }) ∧
  (∀ s who page v, HeaderServes s who page true →
    ∃ t, exec (.irqStatusClear who page v) s = .next t ∧ (hdr t page).irqStat = (hdr s page).irqStat &&& ~~~v ∧
      (v.getLsbD 0 = true → (hdr t page).errCode = 0 ∧ (hdr t page).errCount = 0 ∧ (hdr t page).errAddr = 0) ∧
      (v.getLsbD 0 = false → (hdr t page).errCode = (hdr s page).errCode ∧ (hdr t page).errCount = (hdr s page).errCount)) ∧
  (∀ s who page v, HeaderServes s who page true →
    ∃ t, exec (.irqSet who page v) s = .next t ∧ (hdr t page).irqStat = (hdr s page).irqStat ||| (v &&& 0xFFFFFF0F))

/-- Quiesce and re-initialisation (R26, R51, R52, R53, R55, R616). What rests on the model's own readings and choices is in logs 62, 66, 77, 100,
102, 103, 134, 135 and 139. -/
def Obligations.QuiesceAndReinit : Prop :=
  (∀ s k page i, pagePresent s page = true → quiescePage page = true → pageIsland page = some i → NothingBefore s (.keeper k) (some .alwaysOn) →
    ∃ t, exec (.quiesceRequest (.keeper k) page) s = .next t ∧ (hdr t page).quiesceReq = true ∧
      (i.primary = page → t.fab.requests = s.fab.requests.filter fun r => !(s.fab.requests.any fun x => x.id == r.id && x.dst == i && x.place == .sendSide))) ∧
  (∀ s k page, pagePresent s page = true → quiescePage page = true → NothingBefore s (.keeper k) (some .alwaysOn) →
    ∃ t, exec (.quiesceRelease (.keeper k) page) s = .next t ∧ (hdr t page).quiesceReq = false ∧ (hdr t page).quiesced = false) ∧
  (∀ s page i, pageIsland page = some i → (hdr s page).quiesceReq = true → (hdr s page).quiesced = false → (hdr s page).busy = false →
    unitIdle s page = true → s.fab.requests.any (·.dst == i) = false →
    ∃ t, exec (.quiesceDone page) s = .next t ∧
      hdr t page = { hdr s page with quiesced := true, irqStat := (hdr s page).irqStat ||| 4 }) ∧
  (∀ s k i, i ≠ .alwaysOn → islandPresent s i = true → (isl s i).power ≠ 0 → pagePresent s i.primary = true →
    NothingBefore s (.keeper k) (some .alwaysOn) →
    ∃ t, exec (.islandReinit (.keeper k) i.primary) s = .next t ∧ (hdr t i.primary).busy = true ∧ (hdr t i.primary).ready = false) ∧
  (∀ s i, (hdr s i.primary).busy = true → (isl s i).power ≠ 0 → pagePresent s i.primary = true → s.fab.requests.any (·.dst == i) = false →
    ∃ t, exec (.islandReady i) s = .next t ∧ (hdr t i.primary).busy = false ∧ (hdr t i.primary).ready = true)

/-- Reads of _LO registers bring the low half and latch the high one, the maintenance window, and an access that waits for its island or comes after
earlier ones (R23, R24, R58, R60 to R62, R65, R288, R311, R622, R641). What rests on the model's own readings and choices is in logs 26, 37, 39,
63, 65 and 129. -/
def Obligations.ReadsAndWindow : Prop :=
  (∀ s who page, HeaderServes s who page false →
    ∃ t, exec (.errAddrLoRead who page) s = .next t ∧ t.out = s.out ++ [answered who ((hdr s page).errAddr % 2 ^ 32)] ∧
      Tab.get? t.fab.latches (page * 4096 + 0x24) = some (highHalf (hdr s page).errAddr)) ∧
  (∀ s who, Serves s who 0 false →
    ∃ t, exec (.topUidLoRead who) s = .next t ∧ t.out = s.out ++ [answered who (s.fuses.uid % 2 ^ 32)] ∧
      Tab.get? t.fab.latches 0x4C = some (highHalf s.fuses.uid)) ∧
  (∀ s who, Serves s who 3 false →
    ∃ t, exec (.tscLoRead who) s = .next t ∧ t.out = s.out ++ [answered who (s.tsc % 2 ^ 32)] ∧
      Tab.get? t.fab.latches (3 * 4096 + 0x44) = some (highHalf s.tsc)) ∧
  (∀ s who page off v, Serves s who page false → 0x40 ≤ off → pairValue s page off = some v → ¬FreeCount s page off →
    ∃ t, exec (.counterLoRead who page off) s = .next t ∧ t.out = s.out ++ [answered who (v % 2 ^ 32)] ∧
      Tab.get? t.fab.latches (page * 4096 + off + 4) = some (highHalf v)) ∧
  (∀ s who, Serves s who 256 false → pmcSelected s = true →
    ∃ t v, exec (.counterLoRead who 256 0x50) s = .next t ∧ (getCore t (pmcCore s)).pmcCycles = v ∧ t.out = s.out ++ [answered who (v % 2 ^ 32)] ∧
      Tab.get? t.fab.latches (256 * 4096 + 0x54) = some (highHalf v)) ∧
  (∀ s who i, i < 8 → Serves s who 256 false → FreeCount s 256 (0x58 + 8 * i) →
    ∃ t v, exec (.counterLoRead who 256 (0x58 + 8 * i)) s = .next t ∧ v < 2 ^ 48 ∧ Tab.getD (getCore t (pmcCore s)).pmc i 0 = v ∧
      t.out = s.out ++ [answered who (v % 2 ^ 32)] ∧ Tab.get? t.fab.latches (256 * 4096 + 0x5C + 8 * i) = some (highHalf v)) ∧
  (∀ s who j, j < 128 → Serves s who (256 + j / 16) false →
    ∃ t, exec (.monCountLoRead who j) s = .next t ∧ latchedMonitor t j = monitor s j ∧
      t.out = s.out ++ [answered who ((monitor s j).count % 2 ^ 32)]) ∧
  (∀ s port off pf, bar2Function s port = some pf → off < 0x200000 → off % 0x1000 = 0x30 → HeaderServes s (.host port) (off / 0x1000) false →
    exec (.hostBar2Read port off 32) s = .next (emit (.hostRead (hdr s (off / 0x1000)).scratch.toNat) s)) ∧
  (∀ s port off pf, bar2Function s port = some pf → off < 0x200000 → off % 0x1000 = 0x30 → (pageIsland (off / 0x1000)).isSome = true →
    windowOpen s port (off / 0x1000) false = false →
    exec (.hostBar2Read port off 32) s =
      .next (emit (.hostRead 0xFFFFFFFF) (setHdr (8 + 4 * port) (fun h => captured h 6 (0x020000000000 + off)) s))) ∧
  (∀ s port off v pf, bar2Function s port = some pf → off < 0x200000 → off % 0x1000 = 0x30 → HeaderServes s (.host port) (off / 0x1000) true →
    exec (.hostBar2Write port off 32 v) s = .next (setHdr (off / 0x1000) (fun h => { h with scratch := v }) s)) ∧
  (∀ s port off v pf, bar2Function s port = some pf → off < 0x200000 → off % 0x1000 = 0x30 → (pageIsland (off / 0x1000)).isSome = true →
    windowOpen s port (off / 0x1000) true = false →
    exec (.hostBar2Write port off 32 v) s = .next (setHdr (8 + 4 * port) (fun h => captured h 6 (0x020000000000 + off)) s)) ∧
  (∀ s who page off w v i, pageIsland page = some i → 0x40 ≤ off → shutPort s who page true = none → islandPresent s i = true → islandAsleep s i = true →
    ∃ t r, exec (.registerWrite who page off w v) s = .next t ∧ (isl t i).wakePending = true ∧ t.out = s.out ∧
      t.fab.requests = s.fab.requests ++ [r] ∧ r.src = who.island ∧ r.dst = i ∧ r.op = .pageWrite page off w v ∧ r.place = .sendSide) ∧
  (∀ s port off w pf i, bar2Function s port = some pf → off < 0x200000 → pageIsland (off / 0x1000) = some i → 0x40 ≤ off % 0x1000 →
    windowOpen s port (off / 0x1000) false = true → islandPresent s i = true → islandAsleep s i = true →
    ∃ t r, exec (.hostBar2Read port off w) s = .next t ∧ (isl t i).wakePending = true ∧ t.out = s.out ∧ t.fab.requests = s.fab.requests ++ [r] ∧
      r.src = .host port ∧ r.dst = i ∧ r.op = .pageRead (off / 0x1000) (off % 0x1000) w ∧ r.place = .sendSide) ∧
  (∀ s who page off w v i, servingIsland page off = some i → shutPort s who page true = none → heldBy s i off = false →
    exec (.registerWrite who page off w v) s = .next (answerWrite who (pageWrite .served who page off w v (serveEarlier who.island i s)))) ∧
  (∀ s port off w, bar2Function s port = none → exec (.hostBar2Read port off w) s = .next s) ∧
  (∀ s port off w v, bar2Function s port = none → exec (.hostBar2Write port off w v) s = .next s)

/-- Power-on, power-off, the failure of a rail, device resets, PERST_N and the start-up sequence (R79, R598, R599, R607 to R609, R626, R627, R630,
R631), and what the shipped keeper firmware configures where nothing is configured yet (R313, R583). What rests on the model's own readings and
choices is in logs 2, 8, 12, 29, 31, 81, 107, 113, 146 and 151. -/
def Obligations.PowerAndReset : Prop :=
  (∀ s, s.pwr.on = false →
    ∃ t, exec .powerOn s = .next t ∧ t.pwr.on = true ∧ t.pwr.cause = .powerOn ∧ t.pwr.started = false ∧ t.tsc = 0 ∧ t.fab.regs = [] ∧
      t.fab.pages = [] ∧ t.gals = [] ∧ t.kprs = [] ∧ t.mbx = [] ∧ t.cat = {} ∧ t.cmp = {}) ∧
  (∀ s, s.pwr.on = true →
    ∃ t, exec .powerOff s = .next t ∧ t.pwr.on = false ∧ t.mem = [] ∧ t.dram = {} ∧ t.fab.regs = [] ∧
      ∀ n i, n < 41 → islandOfSensor n = some i → (isl t i).power = 0) ∧
  (∀ s rail x, s.cur.dumping = some x →
    ∃ t, exec (.railOutOfTolerance rail) s = .next t ∧ t.cur.dumping = none ∧ t.pwr.dumpAct = false ∧
      t.cur.dumpSets.armed = none ∧ t.cur.dumpSets.live = s.cur.dumpSets.live ++ [(s.cur.dumpSets.next, dumpTarget s)] ∧
      t.cur.dumpSets.next = s.cur.dumpSets.next + 1) ∧
  (∀ s ns, ns < 50 → exec (.perstAssert ns) s = .next s) ∧
  (∀ s ns, 50 ≤ ns → s.pwr.on = true → s.pwr.resetDump = none → s.pwr.started = true →
    ∃ t, exec (.perstAssert ns) s = .next t ∧ t.pwr.perstN = false ∧ t.pwr.resetDump = some .perst ∧ t.pwr.inReset = true ∧
      t.acc.stopPower = true ∧ t.link.firmwareRuns = false) ∧
  (∀ s, s.pwr.perstN = false → s.pwr.on = true → s.pwr.resetDump = none → s.pwr.pfailN = true → s.pwr.started = false →
    ∃ t, exec .perstRelease s = .next t ∧ t.pwr.perstN = true ∧ t.pwr.started = true ∧ t.pwr.inReset = false ∧
      (getCore t (.keeper 0)).running = true ∧ (getCore t (.keeper 0)).pc.toNat = bootRomBase) ∧
  (∀ s n, s.pwr.started = true → (getCore s (.keeper 0)).running = true → s.care.monitors ≠ [] → n < 32 → mbxCfg s n ≠ 0 →
    exec .keeperFirmwareRunning s = .next { s with link := { s.link with firmwareRuns := true } }) ∧
  (∀ s, s.pwr.started = true → (getCore s (.keeper 0)).running = true →
    ∃ t, exec .keeperFirmwareRunning s = .next t ∧ t.link = { s.link with firmwareRuns := true } ∧
      t.care.monitors = (if s.care.monitors = [] then shippedMonitors else s.care.monitors) ∧
      ((∀ n, n < 32 → mbxCfg s n = 0) → ∀ n, n < 32 → mbxCfg t n = BitVec.ofNat 32 (2 ^ 30 + n % 4 * 2 ^ 16))) ∧
  (∀ s cause, cause ≠ .powerOn → (cause = .perst → s.pwr.perstN = false) → s.pwr.on = true → s.pwr.resetDump = none → s.pwr.started = true →
    ∃ t, exec (.deviceReset cause) s = .next t ∧ t.pwr.resetDump = some cause ∧ t.pwr.inReset = true ∧ t.acc.stopPower = true ∧
      t.link.firmwareRuns = false ∧ (s.cur.dumping = none → s.cur.mediaReady = true → ∃ at', t.cur.dumping = some (at', true))) ∧
  (∀ s cause, s.pwr.resetDump = some cause →
    ∃ t, exec .resetDumpEnd s = .next t ∧ t.pwr.cause = cause ∧ t.pwr.resetDump = none ∧ t.pwr.started = (s.pwr.perstN && s.pwr.pfailN) ∧
      t.gals = [] ∧ t.mbx = [] ∧ t.acc.cmds = [])

/-- Configuration requests (R75, R81, R82, R83, R599, R641). What rests on the model's own readings and choices is in logs 4 and 27. -/
def Obligations.ConfigurationSpace : Prop :=
  (∀ s c reg w, s.link.firmwareRuns = false → exec (.configRequest c reg w) s = .next (emit .configRetry s)) ∧
  (∀ s c reg w, s.link.firmwareRuns = true → functionThere s c = false → exec (.configRequest c reg w) s = .next (emit .unsupportedRequest s)) ∧
  (∀ s c reg, s.link.firmwareRuns = true → functionThere s c = true →
    exec (.configRequest c reg none) s = .next (emit (.config (configValue s c reg)) s)) ∧
  (∀ s c, configValue s c .deviceId = 0x9600 + s.fuses.variant ∧ configValue s c .vfDeviceId = 0x9600 + s.fuses.variant ∧
    configValue s c .interruptPin = 0 ∧ configValue s c .msiCapable = 0 ∧ configValue s c (.barSize 0) = 0x40000 ∧
    configValue s c (.barSize 4) = 0x10000 ∧ configValue s c (.barSize 2) = (if isPf s c then 0x200000 else 0) ∧
    configValue s c (.barType 0) = 4 ∧ configValue s c (.barType 4) = 4 ∧ configValue s c (.barType 2) = (if isPf s c then 4 else 0)) ∧
  (∀ s c v, s.link.firmwareRuns = true → functionThere s c = true →
    ∃ t, exec (.configRequest c .barEnable (some v)) s = .next t ∧ ctlOf t c = { ctlOf s c with cfg := { (ctlOf s c).cfg with barEnable := v % 2 == 1 } }) ∧
  (∀ s c n v, s.link.firmwareRuns = true → functionThere s c = true → 
    exec (.configRequest c (.barSize n) (some v)) s = .next s ∧ exec (.configRequest c (.barType n) (some v)) s = .next s) ∧
  (∀ s c v, s.link.firmwareRuns = true → functionThere s c = true →
    ∃ t, exec (.configRequest c .msixEnable (some v)) s = .next t ∧ (ctlOf t c).cfg = { (ctlOf s c).cfg with msixEnable := v % 2 == 1 } ∧
      (v % 2 = 0 → (ctlOf t c).coalesce = [])) ∧
  (∀ s c reg v, reg ∈ [.vendorId, .deviceId, .subsystemVendorId, .subsystemId, .interruptPin, .linkCapabilities, .totalVFs, .firstVfOffset,
      .vfStride, .vfDeviceId, .ariCapable, .msiCapable] → s.link.firmwareRuns = true → functionThere s c = true →
    exec (.configRequest c reg (some v)) s = .next s) ∧
  (∀ s p sub, s.link.firmwareRuns = true → subExists s p sub = true → (ctlOf s (pfOf s p sub)).cfg.numVFs ≤ totalVfs s (pfOf s p sub) →
    ∃ t, exec (.vfEnable p sub true) s = .next t ∧ (ctlOf t (pfOf s p sub)).cfg.vfEnable = true) ∧
  (∀ s p sub, s.link.firmwareRuns = true → subExists s p sub = true → (ctlOf s (pfOf s p sub)).cfg.vfEnable = true →
    ∃ t, exec (.vfEnable p sub false) s = .next t ∧ (ctlOf t (pfOf s p sub)).cfg.vfEnable = false)

/-- Training, loss and errors of a sub-link, requests and completions on it, and requests to the BARs (R72 to R75, R77, R78, R80, R81, R86
to R89, R94, R641, R643). What rests on the model's own readings and choices is in logs 3, 27, 28, 124, 137, 138 and 140. -/
def Obligations.LinkCommands : Prop :=
  (∀ s p sub x, subExists s p sub = true → s.link.trainable = true → (linkOf s (4 * p + sub)).training = true → islandRefuses s (.host p) = false →
    trainedWidth (lanesOf s p) x.lanes x.failedLanes ≠ 0 → min x.rate (rateCap s p sub) ≠ 0 →
    ∃ t, exec (.linkTrainingDone p sub x) s = .next t ∧
      linkOf t (4 * p + sub) = { linkOf s (4 * p + sub) with
        rate := min x.rate (rateCap s p sub), width := trainedWidth (lanesOf s p) x.lanes x.failedLanes,
        flit := min x.rate (rateCap s p sub) == 6 || x.flit, reversed := x.reversed,
        degraded := decide (trainedWidth (lanesOf s p) x.lanes x.failedLanes < lanesOf s p), pm := 0, training := false }) ∧
  (∀ s p sub, (linkOf s (4 * p + sub)).rate ≠ 0 →
    ∃ t, exec (.surpriseDown p sub) s = .next t ∧ (linkOf t (4 * p + sub)).rate = 0 ∧ (linkOf t (4 * p + sub)).training = true ∧
      (hdr t (hifPage p sub)).irqStat &&& 0x1101 = 0x1101 ∧ ∀ c, c ∈ ctlsOf s p sub → (ctlOf t c).cc = 0) ∧
  (∀ s who p sub, MayWrite s who (hifPage p sub) 0x84 →
    exec (.linkRetrain who p sub) s = .next (setLink (4 * p + sub) (fun l => { l with training := true }) s)) ∧
  (∀ s p sub lanes, subExists s p sub = true → (linkOf s (4 * p + sub)).rate ≠ 0 →
    ∃ t, exec (.linkError p sub lanes) s = .next t ∧ linkOf t (4 * p + sub) = { linkOf s (4 * p + sub) with training := true } ∧
      getReg t (hifPage p sub) 0x88 = getReg s (hifPage p sub) 0x88 ||| BitVec.ofNat 32 (lanes % 65536)) ∧
  (∀ s p sub b, (linkOf s (4 * p + sub)).rate ≠ 0 →
    ∃ t, exec (.aspmL1Entry p sub b) s = .next t ∧ linkOf t (4 * p + sub) = { linkOf s (4 * p + sub) with pm := if b then 2 else 1 }) ∧
  (∀ s p sub, ∃ t, exec (.aspmL1Exit p sub) s = .next t ∧ linkOf t (4 * p + sub) = { linkOf s (4 * p + sub) with pm := 0 }) ∧
  (∀ s p sub tag r ref c, (linkOf s (4 * p + sub)).reqs.find? (fun r => r.tag == tag) = some r → r.ended = false →
    (ctlOf s r.ctl).cfg.ctoDisable = false → r.cause = .data ref → cmdOf s ref = some c → c.cpl = none → c.silent = false →
    ∃ t, exec (.completionTimeout p sub tag) s = .next t ∧ Ended t ref (statusOf 0 0x04) ∧
      (linkOf t (4 * p + sub)).reqs = dropFirst (fun r => r.tag == tag) (linkOf s (4 * p + sub)).reqs ∧
      (hdr t (hifPage p sub)).irqStat &&& 0x801 = 0x801) ∧
  (∀ s p sub tag r c q, (linkOf s (4 * p + sub)).reqs.find? (fun r => r.tag == tag) = some r → r.ended = false →
    (ctlOf s r.ctl).cfg.ctoDisable = false → r.cause = .sqe c q →
    ∃ t, exec (.completionTimeout p sub tag) s = .next t ∧ (ctlOf t c).cfs = true ∧
      (linkOf t (4 * p + sub)).reqs = dropFirst (fun r => r.tag == tag) (linkOf s (4 * p + sub)).reqs) ∧
  (∀ s p sub tag r, (linkOf s (4 * p + sub)).reqs.find? (fun r => r.tag == tag) = some r → r.ended = true →
    exec (.completionTimeout p sub tag) s = .next (dropReq (4 * p + sub) tag s)) ∧
  (∀ s p sub tag b r, (linkOf s (4 * p + sub)).reqs.find? (fun r => r.tag == tag) = some r →
    ∃ t, exec (.hostCompletionTlp p sub tag b) s = .next t ∧
      (linkOf t (4 * p + sub)).reqs = dropFirst (fun r => r.tag == tag) (linkOf s (4 * p + sub)).reqs ∧
      hdr t (hifPage p sub) = if b then captured (hdr s (hifPage p sub)) 0x22 (pageAddr (hifPage p sub) 0x80) else hdr s (hifPage p sub)) ∧
  (∀ s c bar off width w, ctlUp s c = true → functionThere s c = false ∨ (ctlOf s c).cfg.barEnable = false ∨ barSize s c bar ≤ off →
    ∃ t, exec (.barUnsupportedRequest c bar off width w) s = .next t ∧ hdr t (ctlHifPage s c) = captured (hdr s (ctlHifPage s c)) 0x23 off ∧
      t.out = if w.isSome then s.out else s.out ++ [.unsupportedRequest]) ∧
  (∀ s c off, BarAnswers s c → off < 0x1000 → off % 4 = 0 →
    exec (.barUnsupportedRequest c 0 off 32 none) s = .next (emit (.hostRead (controllerRead s c off)) s)) ∧
  (∀ s c off, BarAnswers s c → off < 0x10000 → off % 4 = 0 →
    exec (.barUnsupportedRequest c 4 off 32 none) s = .next (emit (.hostRead (bar4Word s c off)) s)) ∧
  (∀ s c v x, BarAnswers s c → v < 2048 →
    ∃ t, exec (.barUnsupportedRequest c 4 (16 * v + 8) 32 (some x)) s = .next t ∧
      Tab.get? (ctlOf t c).msixTable v = some ((Tab.getD (ctlOf s c).msixTable v (0, 0)).1, x % 2 ^ 32)) ∧
  (∀ s c off width v, BarAnswers s c → off < 0x40000 →
    exec (.barUnsupportedRequest c 0 off width (some v)) s = exec (.controllerRegisterWrite c off width v) s) ∧
  (∀ s c off width w, BarAnswers s c → bar0Ok off width = false →
    ∃ t, exec (.bar0BadAccess c off width w) s = .next t ∧ hdr t 16 = captured (hdr s 16) 0x24 off ∧
      t.out = if w then s.out else s.out ++ [.hostRead (2 ^ width - 1)])

/-- Controller registers and doorbells (R89 to R95, R641). What rests on the model's own readings and choices is in logs 27, 33 and 137. -/
def Obligations.ControllerRegisters : Prop :=
  (∀ s c v, BarAnswers s c →
    ∃ t, exec (.controllerRegisterWrite c 0x24 32 v) s = .next t ∧ ctlOf t c = { ctlOf s c with aqa := BitVec.ofNat 32 v &&& 0x0FFF0FFF }) ∧
  (∀ s c v, BarAnswers s c →
    ∃ t, exec (.controllerRegisterWrite c 0x28 64 v) s = .next t ∧ ctlOf t c = { ctlOf s c with asq := BitVec.ofNat 64 v }) ∧
  (∀ s c v, BarAnswers s c →
    ∃ t, exec (.controllerRegisterWrite c 0x30 64 v) s = .next t ∧ ctlOf t c = { ctlOf s c with acq := BitVec.ofNat 64 v }) ∧
  (∀ s c off width v, BarAnswers s c → bar0Ok off width = false →
    exec (.controllerRegisterWrite c off width v) s = .next (setHdr 16 (fun h => captured h 0x24 off) s)) ∧
  (∀ s c q v sq, BarAnswers s c → Tab.get? (ctlOf s c).sqs q = some sq → v < sq.size →
    ∃ t, exec (.sqDoorbell c q v) s = .next t ∧ (ctlOf t c).apstState = (if v = sq.tail then (ctlOf s c).apstState else none) ∧
      Tab.get? (ctlOf t c).sqs q = some { sq with tail := v, bells := if v = sq.tail then sq.bells else sq.bells ++ [(v, s.tsc)] }) ∧
  (∀ s c q v cq, BarAnswers s c → Tab.get? (ctlOf s c).cqs q = some cq → v < cq.size →
    ∃ t, exec (.cqDoorbell c q v) s = .next t ∧ ctlOf t c = { ctlOf s c with cqs := Tab.set (ctlOf s c).cqs q { cq with head := v } }) ∧
  (∀ s c q v, BarAnswers s c → Tab.get? (ctlOf s c).sqs q = none → (ctlOf s c).aers = [] →
    ∃ t, exec (.sqDoorbell c q v) s = .next t ∧ hdr t 16 = captured (hdr s 16) 0x20 (0x1000 + 8 * q) ∧
      { type := 0, info := 0, lid := 1 } ∈ (ctlOf t c).events) ∧
  (∀ s c q v cq, BarAnswers s c → Tab.get? (ctlOf s c).cqs q = some cq → cq.size ≤ v → (ctlOf s c).aers = [] →
    ∃ t, exec (.cqDoorbell c q v) s = .next t ∧ hdr t 16 = captured (hdr s 16) 0x20 (0x1000 + 8 * q + 4) ∧
      { type := 0, info := 1, lid := 1 } ∈ (ctlOf t c).events)

/-- Enabling, readiness, resets and shutdown of a controller (R90 to R93, R96, R120 to R122, R607). What rests on the model's own readings and
choices is in logs 27, 28 and 33. -/
def Obligations.ControllerLife : Prop :=
  (∀ s c w, BarAnswers s c → (ctlOf s c).enabled = false → bit w 0 = true → bits w 15 14 = 0 → ccOk w = true →
    ∃ t, exec (.controllerEnable c w) s = .next t ∧ (ctlOf t c).cc = w &&& 0x01FFFFF1 ∧ t.pwr.safeOff = false ∧
      Tab.get? (ctlOf t c).sqs 0 = some { size := bits (ctlOf s c).aqa 11 0 + 1, cqid := 0, prio := 0 } ∧
      Tab.get? (ctlOf t c).cqs 0 = some { size := bits (ctlOf s c).aqa 27 16 + 1, vector := 0, ien := true }) ∧
  (∀ s c w, BarAnswers s c → (ctlOf s c).enabled = false → bit w 0 = true → ccOk w = false →
    ∃ t, exec (.controllerEnable c w) s = .next t ∧ (ctlOf t c).cfs = true ∧ (hdr t 16).irqStat = (hdr s 16).irqStat ||| 0x100) ∧
  (∀ s c, (ctlOf s c).enabled = true → (ctlOf s c).cfs = false → isPf s c = true ∨ (ctlOf s c).online = true →
    s.cur.mediaReady = true ∨ bit (ctlOf s c).cc 24 = true →
    ∃ t, exec (.controllerReady c) s = .next t ∧ ctlOf t c = { ctlOf s c with rdy := true }) ∧
  (∀ s c, (ctlOf s c).enabled = true →
    ∃ t, exec (.controllerReset c) s = .next t ∧ (ctlOf t c).enabled = false ∧ (ctlOf t c).rdy = false ∧ (ctlOf t c).cfs = false ∧
      (ctlOf t c).sqs = [] ∧ (ctlOf t c).cqs = [] ∧ (ctlOf t c).aers = [] ∧ (ctlOf t c).aqa = (ctlOf s c).aqa ∧
      (hdr t (ctlHifPage s c)).irqStat &&& 0x1000 = 0x1000) ∧
  (∀ s c, functionThere s c = true →
    ∃ t, exec (.functionLevelReset c) s = .next t ∧ (hdr t (ctlHifPage s c)).irqStat &&& 0x1000 = 0x1000 ∧
      ∀ d, d ∈ (if isPf s c = true then ctlsOf s (c / 64) (ctlSub s c) else [c]) →
        (ctlOf t d).cc = 0 ∧ (ctlOf t d).cfg = {} ∧ (ctlOf t d).sqs = [] ∧ (ctlOf t d).cqs = [] ∧ (ctlOf t d).asq = 0 ∧ (ctlOf t d).acq = 0) ∧
  (∀ s c n, (ctlOf s c).enabled = true → n % 4 = 1 ∨ n % 4 = 2 →
    ∃ t, exec (.shutdownNotification c n) s = .next t ∧ (ctlOf t c).shut = true ∧ bits (ctlOf t c).cc 15 14 = n % 4 ∧
      (ctlOf t c).shst = if (ctlOf s c).shst = 2 then 2 else 1) ∧
  (∀ s c, shutdownDone s c = true → ∃ t, exec (.shutdownComplete c) s = .next t ∧ ctlOf t c = { ctlOf s c with shst := 2 }) ∧
  (∀ s c, BarAnswers s c → isPf s c = true → s.pwr.on = true → s.pwr.resetDump = none → s.pwr.started = true →
    ∃ t, exec (.nssrWrite c 0x4E564D65) s = .next t ∧ t.pwr.resetDump = some .nssr ∧ t.pwr.inReset = true) ∧
  (∀ s c v, v ≠ 0x4E564D65 → exec (.nssrWrite c v) s = .next s)

/-- Fetching, arrival and start of commands (R102, R104, R107, R110, R113, R114, R135). What rests on the model's own readings and choices is in
logs 27, 28, 130, 141 and 143. -/
def Obligations.FetchAndStart : Prop :=
  (∀ s c q a sq, fetchStopped s = false → arbitrate s = some (c, q, a) → Tab.get? (ctlOf s c).sqs q = some sq →
    ∃ t tag bell, exec .sqeFetch s = .next t ∧ t.out = s.out ++ [.hostRequest (ctlLink s c) tag] ∧
      t.acc.cmds = s.acc.cmds ++ [{ ref := { ctl := c, sq := q, cid := 0 }, phase := .fetching, doorbellTsc := bell }] ∧
      (Tab.get? (ctlOf t c).sqs q).map (fun x => (x.head, x.tail)) = some ((sq.head + 1) % sq.size, sq.tail)) ∧
  (∀ s c q a, arbitrate s = some (c, q, a) →
    ctxFree s c = true ∧ (q = 0 ∧ adminReady s c = true ∨
      q ≠ 0 ∧ (∃ e ∈ ioReady s c, e.1 = q) ∧ ∀ d ∈ s.acc.ctls.keys, ¬(adminReady s d = true ∧ ctxFree s d = true))) ∧
  (∀ s c q h pre x post, s.acc.cmds = pre ++ x :: post → (∀ y ∈ pre, ¬(y.ref.ctl = c ∧ y.ref.sq = q ∧ y.phase = .fetching)) →
    x.ref.ctl = c → x.ref.sq = q → x.phase = .fetching →
    (∀ y ∈ s.acc.cmds, y.ref = { ctl := c, sq := q, cid := h.cid } → y.phase = .fetching ∨ y.silent = true) →
    (∀ sq, Tab.get? (ctlOf s c).sqs q = some sq → sq.deleting = none) →
    ∃ t, exec (.sqeArrive c q h) s = .next t ∧
      t.acc.cmds = pre ++ { x with
        ref := { ctl := c, sq := q, cid := h.cid }, opcode := h.opcode, fuse := h.fuse, nsid := h.nsid, dup := false, phase := .fetched,
        cpl := none } :: post) ∧
  (∀ s c q h pre x post k, s.acc.cmds = pre ++ x :: post → (∀ y ∈ pre, ¬(y.ref.ctl = c ∧ y.ref.sq = q ∧ y.phase = .fetching)) →
    x.ref.ctl = c → x.ref.sq = q → x.phase = .fetching →
    k ∈ s.acc.cmds → k.ref = { ctl := c, sq := q, cid := h.cid } → k.phase ≠ .fetching → k.silent = false →
    ∃ t, exec (.sqeArrive c q h) s = .next t ∧
      t.acc.cmds = pre ++ { x with
        ref := { ctl := c, sq := q, cid := h.cid }, opcode := h.opcode, fuse := h.fuse, nsid := h.nsid, dup := true, phase := .executed,
        cpl := some (statusOf 0 0x03) } :: post) ∧
  (∀ s r c, Starts s r c →
    ∃ t k, exec (.commandStart r) s = .next t ∧ awaitedOf t r = some k ∧ k = { c with phase := .started, onNs := nsHere s c }) ∧
  (∀ s r c, awaitedOf s r = some c → mayStart s c = true → opcodeOk s c = false →
    ∃ t k, exec (.commandStart r) s = .next t ∧ awaitedOf t r = some k ∧ k.phase = .executed ∧ k.cpl = some (statusOf 0 0x01)) ∧
  (∀ s r c, awaitedOf s r = some c → mayStart s c = true → opcodeOk s c = true → c.fuse ≠ 0 →
    ∃ t k, exec (.commandStart r) s = .next t ∧ awaitedOf t r = some k ∧ k.phase = .executed ∧ k.cpl = some (statusOf 0 0x02))

/-- Completion queue entries and the interrupts that announce them (R108, R112, R128, R129, R131). What rests on the model's own readings and
choices is in logs 27, 29, 137 and 142. -/
def Obligations.CompletionsAndInterrupts : Prop :=
  (∀ s r k cpl sq cq, MayPost s r.ctl r.sq k cpl sq cq → k.ref = r → k.phase = .executed → s.adm.nsWaits = [] →
    s.acc.cmds.find? (fun c => c.ref == r && c.phase == .executed && c.cpl.isSome) = some k →
    ∃ t, exec (.commandComplete r) s = .next t ∧ entryOf r.ctl k cpl sq cq ∈ t.out) ∧
  (∀ s c n k cpl sq cq q rest, (ctlOf s c).sqs.filter (fun e => e.2.cqid == n) = (q, sq) :: rest → sq.cqid = n →
    MayPost s c q k cpl sq cq → k.phase = .held →
    ∃ t, exec (.cqePost c n) s = .next t ∧ entryOf c k cpl sq cq ∈ t.out) ∧
  (∀ s c v, Tab.getD (ctlOf s c).coalesce v 0 ≠ 0 → (ctlOf s c).cfg.msixEnable = true → (ctlOf s c).cfg.functionMask = false →
    v ∈ (ctlOf s c).unmasked → ctlUp s c = true →
    ∃ t, exec (.coalesceTimerExpiry c v) s = .next t ∧
      t.out = s.out ++ [.msix c v (Tab.getD (ctlOf s c).msixTable v (0, 0)).1 (Tab.getD (ctlOf s c).msixTable v (0, 0)).2] ∧ Tab.getD (ctlOf t c).coalesce v 0 = 0) ∧
  (∀ s c v, (ctlOf s c).cfg.msixEnable = true → (ctlOf s c).cfg.functionMask = false → (ctlOf s c).pba = [v] → ctlUp s c = true →
    ∃ t, exec (.msixUnmask c v) s = .next t ∧
      t.out = s.out ++ [.msix c v (Tab.getD (ctlOf s c).msixTable v (0, 0)).1 (Tab.getD (ctlOf s c).msixTable v (0, 0)).2] ∧ (ctlOf t c).pba = [] ∧ v ∈ (ctlOf t c).unmasked)

/-- Queue commands and Abort (R99 to R101, R116 to R119). What rests on the model's own readings and choices is in logs 27 and 130. -/
def Obligations.QueueCommands : Prop :=
  (∀ s r c qid n cqid prio, CmdRuns s r true 0x01 c → qid ≠ 0 → qid ≤ (ctlOf s r.ctl).vq → Tab.has (ctlOf s r.ctl).sqs qid = false →
    cqid ≠ 0 → Tab.has (ctlOf s r.ctl).cqs cqid = true → 1 ≤ n → n ≤ 0xFFFF →
    ∃ t, exec (.createIoSq r qid n true cqid prio) s = .next t ∧ Ended t r (succeeded 0) ∧
      Tab.get? (ctlOf t r.ctl).sqs qid = some { size := n + 1, cqid := cqid, prio := prio % 4 }) ∧
  (∀ s r c qid n b cqid prio, CmdRuns s r true 0x01 c → qid = 0 ∨ (ctlOf s r.ctl).vq < qid ∨ Tab.has (ctlOf s r.ctl).sqs qid = true →
    ∃ t, exec (.createIoSq r qid n b cqid prio) s = .next t ∧ Ended t r (statusOf 1 0x01) ∧ (ctlOf t r.ctl).sqs = (ctlOf s r.ctl).sqs) ∧
  (∀ s r c qid n ien vec, CmdRuns s r true 0x05 c → qid ≠ 0 → qid ≤ (ctlOf s r.ctl).vq → Tab.has (ctlOf s r.ctl).cqs qid = false →
    1 ≤ n → n ≤ 0xFFFF → vec ≤ (ctlOf s r.ctl).vectors →
    ∃ t, exec (.createIoCq r qid n true ien vec) s = .next t ∧ Ended t r (succeeded 0) ∧
      Tab.get? (ctlOf t r.ctl).cqs qid = some { size := n + 1, vector := vec, ien := ien }) ∧
  (∀ s r c qid, CmdRuns s r true 0x04 c → qid ≠ 0 → Tab.has (ctlOf s r.ctl).cqs qid = true →
    (ctlOf s r.ctl).sqs.any (fun e => e.2.cqid == qid) = false →
    ∃ t, exec (.deleteIoCq r qid) s = .next t ∧ Ended t r (succeeded 0) ∧ Tab.has (ctlOf t r.ctl).cqs qid = false) ∧
  (∀ s r c qid, CmdRuns s r true 0x04 c → qid ≠ 0 → Tab.has (ctlOf s r.ctl).cqs qid = true →
    (ctlOf s r.ctl).sqs.any (fun e => e.2.cqid == qid) = true →
    ∃ t, exec (.deleteIoCq r qid) s = .next t ∧ Ended t r (statusOf 1 0x0C) ∧ (ctlOf t r.ctl).cqs = (ctlOf s r.ctl).cqs) ∧
  (∀ s r c qid sq, CmdRuns s r true 0x00 c → qid ≠ 0 → Tab.get? (ctlOf s r.ctl).sqs qid = some sq → sq.deleting = none →
    sqCmds s r.ctl qid = [] →
    ∃ t, exec (.deleteIoSq r qid) s = .next t ∧ Ended t r (succeeded 0) ∧ Tab.has (ctlOf t r.ctl).sqs qid = false) ∧
  (∀ s r c sqid cid k, CmdRuns s r true 0x08 c →
    abortsAhead s r < 16 →
    awaitedOf s { ctl := r.ctl, sq := sqid, cid := cid } = some k → k.unstarted = true →
    ∃ t j, exec (.abort r sqid cid) s = .next t ∧ Ended t r (succeeded 0) ∧
      awaitedOf t { ctl := r.ctl, sq := sqid, cid := cid } = some j ∧ j.phase = .executed ∧ j.cpl = some (statusOf 0 0x07)) ∧
  (∀ s r c sqid cid, CmdRuns s r true 0x08 c →
    abortsAhead s r < 16 →
    (∀ k, awaitedOf s { ctl := r.ctl, sq := sqid, cid := cid } = some k → k.unstarted = false) →
    ∃ t, exec (.abort r sqid cid) s = .next t ∧ Ended t r (succeeded 1)) ∧
  (∀ s r c sqid cid, CmdRuns s r true 0x08 c → 16 ≤ abortsAhead s r →
    ∃ t, exec (.abort r sqid cid) s = .next t ∧ Ended t r (statusOf 1 0x03))

/-- Get Log Page, Identify, features and asynchronous events (R135, R138, R145, R146, R154 to R159). What rests on the model's own readings and
choices is in logs 27, 89 and 90. -/
def Obligations.AdminReads : Prop :=
  (∀ s r c lid numd lpo rae, CmdRuns s r true 0x02 c → lid ≠ 0xC5 →
    (∀ base n, ∃ page, logPage s r.ctl lid base n = some page ∧ lpo < page.length) → (lid = 0x02 → c.nsid = 0 ∨ c.nsid = 0xFFFFFFFF) →
    lpo % 4 = 0 → ctlUp s r.ctl = true → sanitizing s = false ∨ logPermitted lid = true →
    ∃ t base n page, exec (.getLogPage r lid numd lpo rae) s = .next t ∧ Ended t r (succeeded 0) ∧ logPage s r.ctl lid base n = some page ∧
      t.out = s.out ++ [.hostData r (sliceBytes page lpo (4 * (numd + 1)))] ∧ (rae = true → t.adm.lost = s.adm.lost)) ∧
  (∀ s r c lid numd lpo rae, CmdRuns s r true 0x02 c → lid ≠ 0xC5 → (∀ base n, logPage s r.ctl lid base n = none) →
    sanitizing s = false ∨ logPermitted lid = true →
    ∃ t, exec (.getLogPage r lid numd lpo rae) s = .next t ∧ Ended t r (statusOf 1 0x09) ∧ t.out = s.out) ∧
  (∀ s r c lid numd lpo rae, CmdRuns s r true 0x02 c → sanitizing s = true → logPermitted lid = false →
    ∃ t, exec (.getLogPage r lid numd lpo rae) s = .next t ∧ Ended t r (statusOf 0 0x1D) ∧ t.out = s.out) ∧
  (∀ s r c numd rae, CmdRuns s r true 0x02 c → ctlUp s r.ctl = true →
    ∃ t, exec (.getLogPage r 0xC5 numd 0 rae) s = .next t ∧ Ended t r (succeeded 0) ∧ (ctlOf t r.ctl).monSnap = some (monitorPage s) ∧
      t.out = s.out ++ [.hostData r (sliceBytes (monitorPage s) 0 (4 * (numd + 1)))] ∧ ∀ j, j < 128 → latchedMonitor t j = monitor s j) ∧
  (∀ s r c cns cntid csi, CmdRuns s r true 0x06 c → (∀ base, ∃ data, identifyData s r.ctl c.nsid cns cntid csi base = .inr data ∧ data ≠ []) →
    ctlUp s r.ctl = true →
    ∃ t base data, exec (.identify r cns cntid csi) s = .next t ∧ Ended t r (succeeded 0) ∧
      identifyData s r.ctl c.nsid cns cntid csi base = .inr data ∧ t.out = s.out ++ [.hostData r data]) ∧
  (∀ s r c cns cntid csi st, CmdRuns s r true 0x06 c → (∀ base, identifyData s r.ctl c.nsid cns cntid csi base = .inl st) →
    ∃ t, exec (.identify r cns cntid csi) s = .next t ∧ Ended t r st ∧ t.out = s.out) ∧
  (∀ s r c save dw11 dw12 data, CmdRuns s r true 0x09 c → keeperTurn s r = true → isPf s r.ctl = true → 5 ≤ dw11 % 256 →
    dw11 % 256 ≤ 200 →
    ∃ t, exec (.setFeatures r 0xC0 save dw11 dw12 data) s = .next t ∧ Ended t r (succeeded 0) ∧ devFeat t 0xC0 0 30 = dw11 % 256 ∧
      (save = true → Tab.get? t.adm.featsSaved (0xC0 * 65536) = some (dw11 % 256)) ∧ (save = false → t.adm.featsSaved = s.adm.featsSaved)) ∧
  (∀ s r c save dw11 dw12 data, CmdRuns s r true 0x09 c → keeperTurn s r = true → isPf s r.ctl = true →
    dw11 % 256 < 5 ∨ 200 < dw11 % 256 →
    ∃ t, exec (.setFeatures r 0xC0 save dw11 dw12 data) s = .next t ∧ Ended t r (statusOf 0 0x02) ∧ t.adm = s.adm) ∧
  (∀ s r c fid save dw11 dw12 data, CmdRuns s r true 0x09 c → fid ∉ featureIds →
    (deviceFeature fid = true → keeperTurn s r = true) →
    ∃ t, exec (.setFeatures r fid save dw11 dw12 data) s = .next t ∧ Ended t r (statusOf 0 0x02) ∧ t.adm = s.adm) ∧
  (∀ s r c dw11, CmdRuns s r true 0x0A c →
    ∃ t, exec (.getFeatures r 0xC0 0 dw11) s = .next t ∧ Ended t r (succeeded (devFeat s 0xC0 0 30)) ∧ t.adm = s.adm) ∧
  (∀ s r c, CmdRuns s r true 0x0C c → (ctlOf s r.ctl).aers.length < 8 → (ctlOf s r.ctl).events = [] → r.cid ∉ (ctlOf s r.ctl).aers →
    ∃ t, exec (.asyncEventRequest r) s = .next t ∧ ctlOf t r.ctl = { ctlOf s r.ctl with aers := (ctlOf s r.ctl).aers ++ [r.cid] }) ∧
  (∀ s r c e es, CmdRuns s r true 0x0C c → (ctlOf s r.ctl).aers.length < 8 → (ctlOf s r.ctl).events = e :: es →
    ∃ t, exec (.asyncEventRequest r) s = .next t ∧ Ended t r (succeeded (e.type + 256 * e.info + 65536 * e.lid)) ∧ (ctlOf t r.ctl).events = es) ∧
  (∀ s r c, CmdRuns s r true 0x0C c → 8 ≤ (ctlOf s r.ctl).aers.length →
    ∃ t, exec (.asyncEventRequest r) s = .next t ∧ Ended t r (statusOf 1 0x05))

/-- Namespace Management and Attachment (R142, R143, R144, R171, R418). What rests on the model's own readings and choices is in logs 27, 91, 92
and 93. -/
def Obligations.NamespaceCommands : Prop :=
  (∀ s r c a, CmdRuns s r true 0x0D c → sanitizing s = false → createRefusal s a = none →
    SegmentsFit s (if a.csi = 0 then freeSegments s (ceilDiv (nsBytes (wantedNs a)) (2 ^ 27)) else []) →
    ∃ t nsid n, exec (.nsMgmtCreate r a) s = .next t ∧ Ended t r (succeeded nsid) ∧ 1 ≤ nsid ∧ nsid ≤ 1024 ∧
      Tab.has s.adm.namespaces nsid = false ∧ (∀ k, 1 ≤ k → k < nsid → Tab.has s.adm.namespaces k = true) ∧
      nsOf t nsid = some n ∧ n.nsze = a.nsze ∧ n.csi = a.csi ∧ n.lbaf = a.flbas % 16) ∧
  (∀ s r c a st, CmdRuns s r true 0x0D c → sanitizing s = false → createRefusal s a = some st →
    ∃ t, exec (.nsMgmtCreate r a) s = .next t ∧ Ended t r st ∧ t.adm = s.adm) ∧
  (∀ s r c n, CmdRuns s r true 0x0D c → sanitizing s = false → c.nsid ≠ 0xFFFFFFFF → nsOf s c.nsid = some n → n.deleting = none →
    formatPending s c.nsid = false → NoneOn s c.nsid → s.adm.nsWaits = [] →
    ∃ t, exec (.nsMgmtDelete r) s = .next t ∧ Ended t r (succeeded 0) ∧ nsOf t c.nsid = none ∧
      ∀ k, k ≠ c.nsid → nsOf t k = nsOf s k) ∧
  (∀ s r c n ids, CmdRuns s r true 0x15 c → sanitizing s = false → nsOf s c.nsid = some n → n.deleting = none →
    formatPending s c.nsid = false →
    (∀ i ∈ ids, 1 ≤ i ∧ functionThere s (i - 1) = true ∧ c.nsid ∉ (ctlOf s (i - 1)).attached) →
    ∃ t, exec (.nsAttach r ids) s = .next t ∧ Ended t r (succeeded 0) ∧ ∀ i ∈ ids, c.nsid ∈ (ctlOf t (i - 1)).attached) ∧
  (∀ s r c n ids, CmdRuns s r true 0x15 c → sanitizing s = false → nsOf s c.nsid = some n → formatPending s c.nsid = false →
    (∀ i ∈ ids, 1 ≤ i ∧ functionThere s (i - 1) = true ∧ c.nsid ∈ (ctlOf s (i - 1)).attached) → NoneOn s c.nsid → s.adm.nsWaits = [] →
    ∃ t, exec (.nsDetach r ids) s = .next t ∧ Ended t r (succeeded 0) ∧ ∀ i ∈ ids, c.nsid ∉ (ctlOf t (i - 1)).attached) ∧
  (∀ s r c a, CmdRuns s r true 0x0D c → sanitizing s = true →
    ∃ t, exec (.nsMgmtCreate r a) s = .next t ∧ Ended t r (statusOf 0 0x1D) ∧ t.adm = s.adm) ∧
  (∀ s r c, CmdRuns s r true 0x0D c → sanitizing s = false → c.nsid ≠ 0xFFFFFFFF → (∃ n, nsOf s c.nsid = some n ∧ n.deleting = none) →
    formatPending s c.nsid = true →
    ∃ t, exec (.nsMgmtDelete r) s = .next t ∧ Ended t r (statusOf 0 0x82) ∧ t.adm = s.adm)

/-- Firmware download, commit and activation (R161 to R167, R169). What rests on the model's own readings and choices is in logs 27, 96 and 144. -/
def Obligations.FirmwareCommands : Prop :=
  (∀ s r c numd ofst data, CmdRuns s r true 0x11 c → sanitizing s = false → ofst % 1024 = 0 → 4 * ofst + 4 * (numd + 1) ≤ 4194304 →
    (∀ p ∈ s.adm.download, 4 * ofst + 4 * (numd + 1) ≤ p.ofst ∨ p.ofst + p.bytes.length ≤ 4 * ofst) →
    ∃ t, exec (.firmwareImageDownload r numd ofst data) s = .next t ∧ Ended t r (succeeded 0) ∧
      { ofst := 4 * ofst, bytes := padTo (4 * (numd + 1)) data } ∈ t.adm.download ∧ ∀ p ∈ s.adm.download, p ∈ t.adm.download) ∧
  (∀ s r c numd ofst data, CmdRuns s r true 0x11 c → sanitizing s = false → ofst % 1024 ≠ 0 →
    ∃ t, exec (.firmwareImageDownload r numd ofst data) s = .next t ∧ Ended t r (statusOf 0 0x02) ∧ t.adm = s.adm) ∧
  (∀ s r c slot x, CmdRuns s r true 0x10 c → sanitizing s = false → s.adm.activation = none → slot ≤ 2 → bufferImage s = some x → GoodImage s x →
    ∃ t, exec (.firmwareCommitReplace r 0 slot) s = .next t ∧ Ended t r (succeeded 0) ∧
      t.adm = { s.adm with download := [], slots := Tab.set s.adm.slots (commitSlot s slot) x }) ∧
  (∀ s r c slot x, CmdRuns s r true 0x10 c → sanitizing s = false → s.adm.activation = none → slot ≤ 2 → bufferImage s = some x → GoodImage s x →
    ∃ t, exec (.firmwareCommitAtReset r slot) s = .next t ∧ Ended t r (succeeded 0) ∧
      t.adm = { s.adm with
        download := [], slots := Tab.set s.adm.slots (commitSlot s slot) x, bootSelect := commitSlot s slot, commitAction := 1 }) ∧
  (∀ s r c action slot, CmdRuns s r true 0x10 c → 4 ≤ action →
    ∃ t, exec (.firmwareCommitReplace r action slot) s = .next t ∧ Ended t r (statusOf 0 0x02) ∧ t.adm = s.adm) ∧
  (∀ s r c slot x, CmdRuns s r true 0x10 c → sanitizing s = false → s.adm.activation = none → slot ≤ 2 →
    Tab.get? s.adm.slots (commitSlot s slot) = some x → GoodImage s x →
    ∃ t, exec (.firmwareCommitSlotSelect r slot) s = .next t ∧ Ended t r (succeeded 0) ∧
      t.adm = { s.adm with bootSelect := commitSlot s slot, commitAction := 2 }) ∧
  (∀ s r c slot x, CmdRuns s r true 0x10 c → sanitizing s = false → s.adm.activation = none → slot ≤ 2 → bufferImage s = some x → GoodImage s x →
    leAt x.bytes 20 4 % 2 = 1 →
    ∃ t, exec (.firmwareCommitImmediate r slot) s = .next t ∧
      t.adm.activation = some { ref := r, slot := commitSlot s slot, image := x } ∧ Tab.get? t.adm.slots (commitSlot s slot) = some x ∧
      cmdOf t r = some c) ∧
  (∀ s r c slot, CmdRuns s r true 0x10 c → sanitizing s = false → s.adm.activation = none → slot ≤ 2 → bufferImage s = none →
    ∃ t, exec (.firmwareCommitImmediate r slot) s = .next t ∧ Ended t r (statusOf 1 0x07)) ∧
  (∀ s a, s.adm.activation = some a → a.stopped = none →
    ∃ t, exec .fwActivationStart s = .next t ∧ t.acc.stopActivation = true ∧ t.adm.activation = some { a with stopped := some s.tsc }) ∧
  (∀ s a at' c, s.adm.activation = some a → a.stopped = some at' → drainLeft s a.ref = true → cmdOf s a.ref = some c → c.silent = false →
    ∃ t, exec .fwActivationTimeout s = .next t ∧ t.tsc = max s.tsc (at' + 300000000) ∧ Ended t a.ref (statusOf 1 0x12) ∧
      t.acc.stopActivation = false ∧ t.adm.activation = none ∧ t.adm.runningSlot = s.adm.runningSlot ∧
      (t.adm.fwLog.head?.map fun e => (e.slot, e.action, e.result)) = some (a.slot, 3, 1)) ∧
  (∀ s a at' c, s.adm.activation = some a → a.stopped = some at' → drainLeft s a.ref = false → cmdOf s a.ref = some c → c.silent = false →
    ∃ t, exec .fwActivationComplete s = .next t ∧ Ended t a.ref (succeeded 0) ∧ t.acc.stopActivation = false ∧ t.adm.activation = none ∧
      t.adm.runningSlot = a.slot ∧ t.adm.runningRev = a.image.rev ∧ (t.adm.fwLog.head?.map fun e => (e.slot, e.action, e.result)) = some (a.slot, 3, 0))

/-- Self-test, virtualization, the sideband (R97, R98, R175, R177, R178). What rests on the model's own readings and choices is in logs 27, 97 and 148. -/
def Obligations.DeviceServices : Prop :=
  (∀ s r c, CmdRuns s r true 0x14 c → sanitizing s = false → s.adm.selfTest = none →
    ∃ t, exec (.selfTestShort r) s = .next t ∧ Ended t r (succeeded 0) ∧ t.adm = { s.adm with selfTest := some 1 }) ∧
  (∀ s r c, CmdRuns s r true 0x14 c → sanitizing s = false → s.adm.selfTest = none →
    ∃ t, exec (.selfTestExtended r) s = .next t ∧ Ended t r (succeeded 0) ∧ t.adm = { s.adm with selfTest := some 2 }) ∧
  (∀ s r c k, CmdRuns s r true 0x14 c → sanitizing s = false → s.adm.selfTest = some k →
    ∃ t, exec (.selfTestShort r) s = .next t ∧ Ended t r (statusOf 1 0x1D) ∧ t.adm = s.adm) ∧
  (∀ s r c k, CmdRuns s r true 0x14 c → sanitizing s = false → s.adm.selfTest = some k →
    ∃ t, exec (.selfTestAbort r) s = .next t ∧ Ended t r (succeeded 0) ∧ t.adm.selfTest = none ∧
      t.adm.selfTests.head? = some { code := k, result := 1, tsc := s.tsc }) ∧
  (∀ s k f, s.adm.selfTest = some k →
    exec (.selfTestComplete f) s = .next { s with
      adm := { s.adm with
        selfTest := none
        selfTests := ({ code := k, result := if f.dies ∧ f.engines ∧ selfTestLooks s = true ∧ (k = 2 → ∀ p ∈ f.pages, mediaAt s p = none) then 0 else 7,
                        tsc := s.tsc } :: s.adm.selfTests).take 20 } }) ∧
  (∀ s r c rt id nr, CmdRuns s r true 0x1C c → sanitizing s = false → 1 ≤ id → id - 1 ≠ r.ctl →
    id - 1 ∈ ctlsOf s (r.ctl / 64) (ctlSub s r.ctl) →
    ∃ t, exec (.virtualizationManagement r 9 rt id nr) s = .next t ∧ Ended t r (succeeded 0) ∧
      ctlOf t (id - 1) = { ctlOf s (id - 1) with online := true }) ∧
  (∀ s r c rt id nr, CmdRuns s r true 0x1C c → sanitizing s = false → id = 0 ∨ id - 1 = r.ctl →
    ∃ t, exec (.virtualizationManagement r 9 rt id nr) s = .next t ∧ Ended t r (statusOf 1 0x1F)) ∧
  (∀ s code len, s.pwr.on = true → exec (.smbusMiRead code len) s =
    .next { emit (.smbus (sidebandRead s code len)) s with adm := { s.adm with smbusArb := true } }) ∧
  (∀ s code len, s.pwr.on = false → exec (.smbusMiRead code len) s = .next (emit .smbusNack s)) ∧
  (∀ s, s.adm.sideband = none ∨ driveReady s = false → (sidebandRead s 0 8).take 7 = [6, sidebandFlags s false, 0xFF, 0x80, 0, 0, 0]) ∧
  (∀ s warn k used, driveReady s = true → s.adm.sideband = some (warn, k, used) → 273 ≤ k →
    (sidebandRead s 0 8).take 7 =
      [6, sidebandFlags s true, ~~~(BitVec.ofNat 8 warn), BitVec.ofNat 8 (if 400 ≤ k then 0x7F else k - 273), BitVec.ofNat 8 used, 0, 0]) ∧
  (∀ s code len, code ≠ 0 → code ≠ 8 → sidebandRead s code len = List.replicate len 0xFF) ∧
  (∀ s, s.link.firmwareRuns = true →
    exec .sidebandRefresh s = .next { s with adm := { s.adm with sideband := some (criticalWarning s, composite s / 10, percentUsed s) } })

/-- Format and sanitize (R170 to R174). What rests on the model's own readings and choices is in logs 27, 55, 94 and 95. -/
def Obligations.FormatAndSanitize : Prop :=
  (∀ s r c lbaf ses n, CmdRuns s r true 0x80 c → sanitizing s = false → s.adm.format = none → lbaf ≤ 1 → ses ≤ 1 →
    c.nsid ≠ 0xFFFFFFFF → nsOf s c.nsid = some n → n.csi = 0 → n.deleting = none → n.formatting = none →
    ∃ t m, exec (.formatNvm r lbaf ses) s = .next t ∧ t.adm.format = some (r, [c.nsid]) ∧ nsOf t c.nsid = some m ∧
      m.formatting = some (lbaf, ses) ∧ m.lbaf = lbaf ∧ nsBytes m ≤ nsBytes n ∧ m.keySlot = n.keySlot) ∧
  (∀ s r c lbaf ses, CmdRuns s r true 0x80 c → sanitizing s = false → lbaf ≤ 1 → ses ≤ 1 → c.nsid ≠ 0xFFFFFFFF → formatTargets s c.nsid = [c.nsid] →
    formatPending s c.nsid = true → ∃ t, exec (.formatNvm r lbaf ses) s = .next t ∧ Ended t r stNotReady ∧ t.adm = s.adm) ∧
  (∀ s r c lbaf ses, CmdRuns s r true 0x80 c → sanitizing s = false → s.adm.format = none → 1 < lbaf →
    ∃ t, exec (.formatNvm r lbaf ses) s = .next t ∧ Ended t r (statusOf 1 0x0A) ∧ t.adm = s.adm) ∧
  (∀ s r c k n lbaf, s.cur.mediaReady = true → s.adm.format = some (r, [k]) → cmdOf s r = some c → c.silent = false → freshRecords s = [] →
    s.adm.namespaces = [(k, n)] → n.formatting = some (lbaf, 0) → formatReady s k n 0 = true →
    ∃ t, exec .formatComplete s = .next t ∧ t.adm.format = none ∧ nsOf t k = some { n with formatting := none, formatBegun := false } ∧ Ended t r (succeeded 0)) ∧
  (∀ s r c, CmdRuns s r true 0x84 c → sanitizing s = false →
    ∃ t, exec (.sanitizeBlockErase r 2) s = .next t ∧ Ended t r (succeeded 0) ∧ t.adm.sanitize = .blockErase) ∧
  (∀ s r c, CmdRuns s r true 0x84 c → sanitizing s = false → (variant s).crypto = true → s.sec.armed = true →
    ∃ t, exec (.sanitizeCryptoErase r) s = .next t ∧ Ended t r (succeeded 0) ∧ t.adm.sanitize = .cryptoErase) ∧
  (∀ s r c, CmdRuns s r true 0x84 c → s.adm.sanitize = .failed →
    ∃ t, exec (.sanitizeExitFailure r) s = .next t ∧ Ended t r (succeeded 0) ∧ t.adm.sanitize = .idle) ∧
  (∀ s r c, CmdRuns s r true 0x84 c → sanitizing s = true →
    ∃ t, exec (.sanitizeBlockErase r 2) s = .next t ∧ Ended t r (statusOf 0 0x1D) ∧ t.adm = s.adm) ∧
  (∀ s r c act, CmdRuns s r true 0x84 c → act ≠ 1 → act ≠ 2 → act ≠ 4 →
    ∃ t, exec (.sanitizeBlockErase r act) s = .next t ∧ Ended t r stInvalidField ∧ t.adm = s.adm) ∧
  (∀ s, s.adm.sanitize = .blockErase →
    ∃ t, exec (.sanitizeComplete true) s = .next t ∧ t.adm.sanitize = .done ∧ t.cur.wb = [] ∧ t.cur.reads = [] ∧ t.cur.writes = [] ∧
      (∀ e ∈ t.flash.media, ∀ o ∈ e.2.oob, oobNsid o = 0) ∧ ∀ g ∈ listedGmus s, entryState (mapEntry t g) = 2) ∧
  (∀ s, sanitizing s = true → exec (.sanitizeComplete false) s = .next { s with adm := { s.adm with sanitize := .failed } })

/-- Discovery, training and retraining of a wing (R182 to R187, R219, R221). What rests on the model's own readings and choices is in logs 28, 30 and 149. -/
def Obligations.DiscoveryAndTraining : Prop :=
  (∀ s who w answers, MayWrite s who (32 + w) 0x40 → w < (variant s).wings → Tab.get? s.flash.discovering w = none → w ≠ 0 →
    s.flash.geometry = none →
    ∃ t, exec (.wingDiscovery who w answers) s = .next t ∧
      Tab.get? t.flash.discovering w = some (answers.filter fun a => a.channel / 12 == w && decide (a.die < 16) && !a.absent) ∧
      ∀ ch, ch ∈ chansOf w → (∀ k, (chan s ch).command = some k → k.1 ≠ 3) → (chan t ch).state = 2 ∧ (chan t ch).rate = 0 ∧ (chan t ch).fails = 0) ∧
  (∀ s who answers, MayWrite s who 32 0x40 → 0 < (variant s).wings → Tab.get? s.flash.discovering 0 = none →
    s.flash.geometry = none → (∀ a ∈ answers, pageFault a.page ≠ none) →
    ∃ t, exec (.wingDiscovery who 0 answers) s = .next t ∧ t.flash.discovering = [] ∧ t.flash.geometry = none ∧
      (hdr t 32).irqStat &&& 0x101 = 0x101 ∧ ((hdr s 32).errCode = 0 → (hdr t 32).errCode = 0x20)) ∧
  (∀ s w answers, s.flash.geometry ≠ none → s.flash.discovering = [(w, answers)] → (∃ ch ∈ chansOf w, (chan s ch).state = 2) →
    ∃ t, exec .referenceGeometryFound s = .next t ∧
      ∀ ch, ch ∈ chansOf w → (∀ k, (chan s ch).command = some k → k.1 ≠ 3) → (chan t ch).state ∈ [0, 1, 5]) ∧
  (∀ s ch, Settled s → (chan s ch).command = none → (chan s ch).state = 1 ∨ (chan s ch).state = 4 → liveDiesOf s ch ≠ [] →
    s.flash.aborted = [] →
    ∃ t, exec (.channelTrainingDone ch true) s = .next t ∧ (chan t ch).state = 3 ∧ (chan t ch).fails = 0 ∧
      (chan t ch).rate = (rateOf (commonRates s ch) (chan s ch).cap).1) ∧
  (∀ s ch, Settled s → (chan s ch).command = none → (chan s ch).state = 1 ∨ (chan s ch).state = 4 → liveDiesOf s ch ≠ [] →
    (chan s ch).fails < 2 → NotFirstFormat s →
    ∃ t, exec (.channelTrainingDone ch false) s = .next t ∧ chan t ch = { chan s ch with fails := (chan s ch).fails + 1 } ∧
      hdr t (fchPage ch) = captured { hdr s (fchPage ch) with irqStat := (hdr s (fchPage ch)).irqStat ||| 0x400 } 0x20 (pageAddr (fchPage ch) 0x44)) ∧
  (∀ s who ch, MayWrite s who (fchPage ch) 0x40 → (chan s ch).state = 3 → liveDiesOf s ch ≠ [] →
    ∃ t, exec (.channelRetrain who ch) s = .next t ∧ chan t ch = { chan s ch with state := 4, cap := regField s (fchPage ch) 0x40 2 0 }) ∧
  (∀ s who ch, MayWrite s who (fchPage ch) 0x40 → (chan s ch).state ≠ 3 ∨ liveDiesOf s ch = [] →
    ∃ t, exec (.channelRetrain who ch) s = .next t ∧ t.flash = s.flash)

/-- Channel operations from their descriptor to their start, and their buffer slots (R189, R190, R192, R193, R202). What rests on the model's own
readings and choices is in logs 28, 64 and 149. -/
def Obligations.ChannelOperations : Prop :=
  (∀ s ch d data oob, islandRefuses s (.wing (ch / 12)) = false → (submitCheck ch d s).1 = none → ¬ (d.op = 1 ∧ d.cls = 0) →
    ∃ t, exec (.channelOperationSubmit ch d data oob) s = .next t ∧
      (chan t ch).queue = (chan s ch).queue ++ [{ desc := d, origin := .keeper, data := data, oob := oob }]) ∧
  (∀ s ch d data oob, islandRefuses s (.wing (ch / 12)) = false → d.invalid = true →
    ∃ t, exec (.channelOperationSubmit ch d data oob) s = .next t ∧
      (chan t ch).done = (chan s ch).done ++ [recordOf s { desc := d, origin := .keeper, data := data, oob := oob } 0x18 0 0 [] 0] ∧
      hdr t (fchPage ch) = captured (hdr s (fchPage ch)) 0x29 (pageAddr (fchPage ch) 0)) ∧
  (∀ s ch o, ChannelFree s ch → Settled s → minBy (fun o => o.desc.cls) (startable s ch) = some o → o.desc.xts = false →
    ∃ t, exec (.channelOperationStart ch) s = .next t ∧
      (chan t ch).queue = updFirst (· == o) (fun o => { o with started := true, since := s.tsc, slots := opSlots s o.desc, key := [] }) (chan s ch).queue) ∧
  (∀ s ch tag x, (chan s ch).done.find? (fun x => x.tag == tag) = some x →
    ∃ t, exec (.bufferSlotRelease ch tag) s = .next t ∧
      (chan t ch).done = if x.taken = true ∨ x.origin = .keeper then dropFirst (· == x) (chan s ch).done
        else updFirst (· == x) (fun y => { y with slots := 0 }) (chan s ch).done) ∧
  (∀ s ch d, (∀ o ∈ (chan s ch).queue, ¬ (o.desc.cls = 0 ∧ o.desc.op = 1 ∧ o.desc.dieNo = d)) →
    ∃ t, exec (.operationResume ch d) s = .next t ∧
      (chan t ch).queue = updFirst (fun o => o.suspended && o.desc.dieNo == d) (fun o => { o with suspended := false, since := s.tsc }) (chan s ch).queue)

/-- What a die gives its operation, and the record it leaves (R188, R189, R191, R194 to R196, R200, R201, R204, R208). What rests on the model's own
readings and choices is in logs 28, 108 and 149. -/
def Obligations.DieOutcomes : Prop :=
  (∀ s ch d xs o, RunsOn s ch d 1 o →
    ∃ t x, exec (.flashRead ch d xs) s = .next t ∧ (chan t ch).queue = outcomeGiven s ch d 1 x ∧
      ((∃ l ∈ readLevels s ch d o xs, l = none) → x.1 = 0x10) ∧
      ((∀ l ∈ readLevels s ch d o xs, l = some 0) → x.1 = 0 ∧ x.2.1 = 0) ∧
      ((∀ l ∈ readLevels s ch d o xs, l = some 0 ∨ l = some 1 ∨ l = some 2 ∨ l = some 3) → some 1 ∈ readLevels s ch d o xs → x.1 = 1) ∧
      (o.desc.xts = false → (∀ l ∈ readLevels s ch d o xs, l ≠ none) →
        (∀ p ∈ opPlanes s o.desc, ∃ m, mediaAt s (inPlane o.desc.psa p) = some m ∧ m.slc = o.desc.slc) →
        x.2.2.2 = (opPlanes s o.desc).flatMap fun p =>
          sliceBytes (((mediaAt s (inPlane o.desc.psa p)).map (·.data)).getD []) (1024 * psaSlot o.desc.psa) (1024 * o.desc.count))) ∧
  (∀ s ch d xs o, RunsOn s ch d 2 o →
    ∃ t x, exec (.flashVerify ch d xs) s = .next t ∧ (chan t ch).queue = outcomeGiven s ch d 2 x ∧
      (o.desc.allPlanes = false → (∀ c, c < 4 → ∃ y ∈ (xs[c]?), y.corrected = some 0) → x = (0, 0, 0, [])) ∧
      (o.desc.allPlanes = false → (∃ y ∈ xs[0]?, y.corrected = none) → x.1 = 0x10 ∧ x.2.2.1 % 256 = 255)) ∧
  (∀ s ch d o ns, RunsOn s ch d 3 o → o.desc.allPlanes = false → o.desc.xts = false →
    ∃ t, exec (.flashProgram ch d true ns) s = .next t ∧ (chan t ch).queue = outcomeGiven s ch d 3 (0, 0, 0, []) ∧
      t.flash.media = Tab.set s.flash.media (pageKey (inPlane o.desc.psa (psaPlane o.desc.psa)))
        { data := sliceBytes o.data 0 16384, oob := chunks 32 (sliceBytes o.oob 0 128), slc := o.desc.slc } ∧
      t.flash.tProgSlc = if o.desc.slc then ns else s.flash.tProgSlc) ∧
  (∀ s ch d o ns, RunsOn s ch d 3 o →
    ∃ t, exec (.flashProgram ch d false ns) s = .next t ∧ (chan t ch).queue = outcomeGiven s ch d 3 (0x11, 0, 0, []) ∧
      (die t ch d).statusFails = (die s ch d).statusFails ++ [(blockKey o.desc.psa, s.tsc)] ∧ t.flash.media = s.flash.media) ∧
  (∀ s ch d o ns, RunsOn s ch d 4 o →
    ∃ t, exec (.flashErase ch d true ns) s = .next t ∧ (chan t ch).queue = outcomeGiven s ch d 4 (0, 0, 0, []) ∧
      t.flash.tBers = (if o.desc.allPlanes then ns else s.flash.tBers) ∧
      ∀ k, Tab.get? t.flash.media k =
        if k / 2 ^ 14 ∈ (opPlanes s o.desc).map fun p => blockKey (inPlane o.desc.psa p) then none else Tab.get? s.flash.media k) ∧
  (∀ s ch d o ns, RunsOn s ch d 4 o →
    ∃ t, exec (.flashErase ch d false ns) s = .next t ∧ (chan t ch).queue = outcomeGiven s ch d 4 (0x12, 0, 0, []) ∧ t.flash.media = s.flash.media) ∧
  (∀ s ch d b o, (chan s ch).queue.find? (fun o => o.started && o.desc.op == 5 && o.desc.dieNo == d) = some o →
    ∃ t, exec (.flashReadStatus ch d b) s = .next t ∧ (chan t ch).done = (chan s ch).done ++ [recordOf s o 0 0 b.toNat [] 0] ∧
      (chan t ch).queue = dropFirst (fun o => o.started && o.desc.op == 5 && o.desc.dieNo == d) (chan s ch).queue) ∧
  (∀ s ch d o st level result data, Settled s → o.origin = .keeper →
    (chan s ch).queue.find? (fun o => o.started && o.desc.op != 5 && o.desc.dieNo == d && o.outcome.isSome) = some o →
    o.outcome = some (st, level, result, data) →
    ∃ t, exec (.dieOperationEnd ch d) s = .next t ∧
      (chan t ch).done = (chan s ch).done ++ [recordOf s o st level result data (if o.desc.op = 1 then o.slots else 0)] ∧
      (chan t ch).queue = dropFirst (fun o => o.started && o.desc.op != 5 && o.desc.dieNo == d && o.outcome.isSome) (chan s ch).queue) ∧
  (∀ s ch d o, Settled s → (chan s ch).queue.find? (Running ch d [1, 2, 3, 4]) = some o → s.pwr.pfailN = true →
    ∃ t, exec (.dieBusyTimeout ch d) s = .next t ∧ t.tsc = max s.tsc (o.since + regField s (fchPage ch) 0x58 15 0 * 1000000) ∧
      (chan t ch).queue = updFirst (· == o) (fun o => { o with resetAt := some t.tsc }) (chan s ch).queue ∧
      hdr t (fchPage ch) = captured { hdr s (fchPage ch) with irqStat := (hdr s (fchPage ch)).irqStat ||| 0x100 } 0x21 o.desc.psa) ∧
  (∀ s ch d o, Settled s → o.origin = .keeper → (chan s ch).queue.find? (Running ch d [1, 2, 3, 4]) = some o → s.pwr.pfailN = false →
    ∃ t, exec (.dieBusyTimeout ch d) s = .next t ∧ (chan t ch).done = (chan s ch).done ++ [recordOf s o 0x15 0 0 [] 0]) ∧
  (∀ s ch d o, (chan s ch).queue.find? (fun o => o.resetAt.isSome && o.desc.dieNo == d) = some o → (recentTimeouts s ch d).length < 2 →
    ∃ t, exec (.resetLunComplete ch d) s = .next t ∧ (die t ch d).timeouts = recentTimeouts s ch d ++ [s.tsc] ∧
      (chan t ch).queue = updFirst (· == o) (fun o => { o with resetAt := none, started := false, slots := 0, key := [] }) (chan s ch).queue) ∧
  (∀ s ch d o, Blank s → KeeperOnly s ch d → dieFenced s ch d = false →
    (chan s ch).queue.find? (fun o => o.resetAt.isSome && o.desc.dieNo == d) = some o → 2 ≤ (recentTimeouts s ch d).length →
    ∃ t, exec (.resetLunComplete ch d) s = .next t ∧ NowFenced s t ch d 1)

/-- Fencing of dies: its reasons, its log, its commands, and qualification (R208 to R213, R216, R217, R219). What rests on the model's own
readings and choices is in logs 6, 114 and 149. -/
def Obligations.DieFencing : Prop :=
  (∀ s ch d o, Blank s → KeeperOnly s ch d → dieFenced s ch d = false →
    (chan s ch).queue.find? (fun o => o.resetAt.isSome && o.desc.dieNo == d) = some o → s.pwr.pfailN = true →
    ∃ t, exec (.dieResetTimeout ch d) s = .next t ∧ dieFenced t ch d = true ∧ t.tsc = max s.tsc (o.resetAt.getD 0 + 10000000)) ∧
  (∀ s ch d, s.pwr.pfailN = false → exec (.dieResetTimeout ch d) s = .next s) ∧
  (∀ s ch d failed, Settled s → (checkFailed s ch d failed).length ≤ 8 →
    ∃ t, exec (.keeperDieCheck ch d true failed) s = .next t ∧ dieFenced t ch d = dieFenced s ch d ∧ t.flash.fences = s.flash.fences ∧
      (checkFailed s ch d failed = [] → s.cur.reads = [] → t = s)) ∧
  (∀ s ch d readable failed, Blank s → KeeperOnly s ch d → dieFenced s ch d = false → readable = false ∨ 8 < (checkFailed s ch d failed).length →
    4 ≤ recentBlocks s (die s ch d).statusFails →
    ∃ t, exec (.keeperDieCheck ch d readable failed) s = .next t ∧ NowFenced s t ch d 2) ∧
  (∀ s ch d readable failed, Blank s → KeeperOnly s ch d → dieFenced s ch d = false → readable = false ∨ 8 < (checkFailed s ch d failed).length →
    recentBlocks s (die s ch d).statusFails < 4 → 8 ≤ recentBlocks s (die s ch d).uncorrectable →
    ∃ t, exec (.keeperDieCheck ch d readable failed) s = .next t ∧ NowFenced s t ch d 3) ∧
  (∀ s ch d e, fenceOf s ch d = some e →
    ∃ t, exec (.fenceRecordDurable ch d) s = .next t ∧ fenceOf t ch d = some { e with durable := true }) ∧
  (∀ s ch d, dieFenced s ch d = true →
    ∃ t, exec (.fencedDieResponse ch d) s = .next t ∧ (chan t ch).respCaptured = true ∧
      ((getReg s (fchPage ch) 0x6C).toNat < 0xFFFFFFFF → getReg t (fchPage ch) 0x6C = getReg s (fchPage ch) 0x6C + 1) ∧
      hdr t (fchPage ch) =
        let h := { hdr s (fchPage ch) with irqStat := (hdr s (fchPage ch)).irqStat ||| 0x200 }
        if (chan s ch).respCaptured then h else captured h 0x22 (mkPsa (ch / 12) (ch % 12) d 0 0 0 0)) ∧
  (∀ s who ch d, Blank s → KeeperOnly s ch d → dieFenced s ch d = false → diePresent s ch d = true → d < 16 →
    MayWrite s who (fchPage ch) 0x50 → (chan s ch).command = none →
    ∃ t, exec (.dieFence who ch d) s = .next t ∧ NowFenced s t ch d 5 ∧ (chan t ch).lastCmd = 1 ∧ (chan t ch).lastResult = 0) ∧
  (∀ s who ch d, diePresent s ch d = false → d < 16 → MayWrite s who (fchPage ch) 0x50 → (chan s ch).command = none →
    ∃ t, exec (.dieFence who ch d) s = .next t ∧ (chan t ch).lastResult = 7 ∧ ((hdr s (fchPage ch)).errCode = 0 → (hdr t (fchPage ch)).errCode = 0x27)) ∧
  (∀ s who ch d e, d < 16 → MayWrite s who (fchPage ch) 0x50 → (chan s ch).command = none → dieFenced s ch d = true → fenceOf s ch d = some e →
    e.quals < 2 → (hdr s (fchPage ch)).fenced = false →
    ∃ t, exec (.dieQualify who ch d) s = .next t ∧ (chan t ch).command = some (2, d, 0) ∧ fenceOf t ch d = some { e with state := 1 }) ∧
  (∀ s ch d r test, (chan s ch).command = some (2, d, r) → qualResult s ch d test ≠ 0 →
    ∃ t, exec (.dieQualifyEnd ch test) s = .next t ∧ (chan t ch).command = none ∧ (chan t ch).lastResult = qualResult s ch d test ∧
      dieFenced t ch d = dieFenced s ch d) ∧
  (∀ s ch d r test, (chan s ch).command = some (2, d, r) → qualResult s ch d test = 0 →
    ∃ t, exec (.dieQualifyEnd ch test) s = .next t ∧ (chan t ch).command = none ∧ (chan t ch).lastResult = 0 ∧
      dieFenced t ch d = false ∧ (die t ch d).admitted = true) ∧
  (∀ s who ch, MayWrite s who (fchPage ch) 0x50 → (chan s ch).command = none → (hdr s (fchPage ch)).fenced = true →
    ∃ t, exec (.channelQualify who ch) s = .next t ∧
      chan t ch = { chan s ch with command := some (3, 0, 0), qualTries := 3, state := 1, cap := regField s (fchPage ch) 0x40 2 0 }) ∧
  (∀ s who ch d reason, Settled s → KeeperOnly s ch d → d < 16 → MayWrite s who (fchPage ch) 0x50 → (chan s ch).command = none →
    ∃ t, exec (.dieRestoreFence who ch d reason) s = .next t ∧ dieFenced t ch d = true ∧ (chan t ch).lastCmd = 4 ∧ t.flash.fences = s.flash.fences)

/-- Power failure, dumps and the hold-up bank (R203, R204, R270 to R278, R609, R626, R632). What rests on the model's own readings and choices is
in logs 29, 31, 32, 99, 107, 112 and 113. -/
def Obligations.PowerFailure : Prop :=
  (∀ s ns, ns < 50 → exec (.pfailAssert ns) s = .next s) ∧
  (∀ s ns, 50 ≤ ns → s.pwr.pfailN = true → s.pwr.on = true → s.pwr.started = true → s.pwr.ps ≠ 4 →
    ∃ t, exec (.pfailAssert ns) s = .next t ∧ t.pwr.pfailN = false ∧ t.acc.stopPower = true ∧ t.dram.stopped = true ∧
      (s.cur.dumping = none → s.cur.mediaReady = true → ∃ at', t.cur.dumping = some (at', false)) ∧
      (∀ at' b, s.cur.dumping = some (at', b) → t.cur.dumping = some (at', false))) ∧
  (∀ s dies, s.cur.dumping ≠ none →
    ∃ t, exec (.dumpDieCutoff dies) s = .next t ∧
      ∀ ch d, die t ch d =
        if (ch, d) ∈ dies ∨ (ch < 12 * (variant s).wings ∧ ((chan s ch).state ≠ 3 ∨ (chan s ch).lost = true) ∧ d ∈ liveDiesOf s ch)
        then { die s ch d with noDump := true } else die s ch d) ∧
  (∀ s at', s.cur.dumping = some (at', false) → s.pwr.pfailN = false →
    ∃ t, exec .dumpEnd s = .next t ∧ t.cur.dumping = none ∧ t.pwr.dumpAct = false ∧ t.cur.dumpSets.armed = none ∧
      t.cur.dumpSets.live = s.cur.dumpSets.live ++ [(s.cur.dumpSets.next, dumpTarget s)] ∧ t.cur.dumpSets.next = s.cur.dumpSets.next + 1 ∧
      t.cur.holdup = { s.cur.holdup with
        dumps := s.cur.holdup.dumps + 1, lastBytes := (dumpStream s).length, lastDumpUs := (s.tsc - at') / 1000 } ∧
      t.cur.wb = s.cur.wb ∧ t.cur.tail = s.cur.tail) ∧
  (∀ s, s.acc.stopPower = true → s.cur.dumping = none → s.pwr.resetDump = none → s.pwr.on = true → s.pwr.started = true →
    Settled s → s.flash.aborted = [] → s.cur.dumpSets.live ≠ [] ∨ s.cur.dumpSets.armed ≠ none →
    ∃ t, exec .pfailDeassert s = .next t ∧ t.pwr.pfailN = true ∧ t.dram.stopped = false ∧ t.cur.holdup.dips = s.cur.holdup.dips + 1 ∧
      (s.cur.dumpSets.live = [] → t.acc.stopPower = false) ∧
      (s.cur.dumpSets.live ≠ [] → t.acc.stopPower = true ∧ t.cur.dumpSets.resume = true ∧
        t.cur.dumpSets.consuming = s.cur.dumpSets.live.map Prod.fst ∧
        t.cur.tail = s.cur.tail ++ s.cur.dumpSets.live.map fun d => JRec.dump 2 d.1 d.2)) ∧
  (∀ s, s.acc.stopPower = false → exec .pfailDeassert s = .next { s with pwr := { s.pwr with pfailN := true } }) ∧
  (∀ s, s.cur.holdup.charged = false →
    exec .bankCharged s = .next { s with cur := { s.cur with holdup := { s.cur.holdup with charged := true, due := s.tsc } } }) ∧
  (∀ s, s.cur.holdup.measuring = false → s.cur.holdup.charged = true → s.pwr.pfailN = true →
    ∃ t, exec .holdupMeasure s = .next t ∧ t.cur.holdup = { s.cur.holdup with measuring := true } ∧ t.tsc = max s.tsc s.cur.holdup.due) ∧
  (∀ s before after, s.cur.holdup.measuring = true → after < before →
    ∃ t, exec (.holdupMeasureEnd before after) s = .next t ∧ t.cur.holdup.measuring = false ∧
      t.cur.holdup.cMeas = 5 * s.boot.iTest * 655360 / (192 * (before - after)) ∧ t.cur.holdup.vc = before * 19200 / 65536 ∧
      t.cur.holdup.budget = min (budgetOf s t.cur.holdup.cMeas t.cur.holdup.vc) (min s.cur.dumpSets.size (writeBufferBytes s)) ∧
      t.cur.holdup.valid = true ∧
      (t.cur.holdup.low = true ↔ t.cur.holdup.budget < regField s 160 0xA0 15 0 * 2 ^ 20)) ∧
  (∀ s before after, s.cur.holdup.measuring = true → before ≤ after →
    ∃ t, exec (.holdupMeasureEnd before after) s = .next t ∧ t.cur.holdup.measuring = false ∧ t.cur.holdup.budget = s.cur.holdup.budget ∧
      hdr t 160 = captured (hdr s 160) 0x27 (pageAddr 160 0x98)) ∧
  (∀ s, s.cur.holdup.charged = false → s.cur.holdup.low = false →
    ∃ t, exec .bankChargeTimeout s = .next t ∧ t.cur.holdup.low = true ∧ readOnly t = true ∧
      (s.cur.reserveLow = false → roReason t = 2 ∧ (hdr t 160).irqStat &&& 0x100 = 0x100))

/-- Reads of the NVM command set: Read, Compare, Verify and Flush (R139, R143, R226, R247, R248, R347). What rests on the model's own readings and
choices is in logs 27, 31 and 108. -/
def Obligations.NvmReads : Prop :=
  (∀ s r c n lba nlb, CmdRuns s r false 0x02 c → OnNs s c n → rangeStatus n lba (nlb % 65536 + 1) true = none → jobOf s r = none →
    Unwritten s n lba (nlb % 65536 + 1) → ctlUp s r.ctl = true →
    ∃ t, exec (.read r lba nlb) s = .next t ∧ Ended t r (succeeded 0) ∧ jobOf t r = none ∧
      t.out = s.out ++ [.hostData r (zeros ((nlb % 65536 + 1) * blockSize n))] ∧
      t.adm.bytesRead = s.adm.bytesRead + (nlb % 65536 + 1) * blockSize n) ∧
  (∀ s r c n lba nlb st, CmdRuns s r false 0x02 c → OnNs s c n → rangeStatus n lba (nlb % 65536 + 1) true = some st →
    ∃ t, exec (.read r lba nlb) s = .next t ∧ Ended t r st ∧ t.out = s.out) ∧
  (∀ s r c lba nlb st, CmdRuns s r false 0x02 c → ioNamespace s c 0 = .inl st →
    ∃ t, exec (.read r lba nlb) s = .next t ∧ Ended t r st ∧ t.out = s.out) ∧
  (∀ n lba count, rangeStatus n lba count true =
    if 262144 < count * blockSize n then some (statusOf 0 0x02) else if n.nsze < lba + count then some (statusOf 0 0x80) else none) ∧
  (∀ s r c n lba data, CmdRuns s r false 0x05 c → OnNs s c n → rangeStatus n lba (data.length / blockSize n) true = none → jobOf s r = none →
    0 < data.length / blockSize n → Unwritten s n lba (data.length / blockSize n) →
    ∃ t, exec (.compare r lba data) s = .next t ∧ t.out = s.out ∧
      Ended t r (if data = zeros (data.length / blockSize n * blockSize n) then succeeded 0 else statusOf 2 0x85)) ∧
  (∀ s r c n lba nlb, CmdRuns s r false 0x0C c → OnNs s c n → lba + (nlb % 65536 + 1) ≤ n.nsze → jobOf s r = none →
    Unwritten s n lba (nlb % 65536 + 1) →
    ∃ t, exec (.verify r lba nlb) s = .next t ∧ Ended t r (succeeded 0) ∧ t.out = s.out) ∧
  (∀ s r c n, CmdRuns s r false 0x00 c → OnNs s c n → ∃ t, exec (.flush r) s = .next t ∧ Ended t r (succeeded 0) ∧ t.cur = s.cur) ∧
  (∀ s r c n j mu lo cnt stored out eng, cmdOf s r = some c → c.silent = false → jobOf s r = some j → nsOf s j.nsid = some n →
    muPieces n j.lba j.blocks = [(mu, lo, cnt)] → j.waiting = [mu] → j.kind = 0 → Tab.get? j.coded mu = some stored →
    mediaPrefix stored stored.length ((lo + cnt) * blockSize n) = (0, out) → inlineEngine s (.readMu r mu) = some eng →
    ∃ t, exec (.inlineDecompressRequest r mu) s = .next t ∧ Ended t r (succeeded 0) ∧ jobOf t r = jobOf (dropJob r s) r ∧
      (ctlUp s r.ctl = true → 0 < cnt →
        t.out = s.out ++ [.hostData r (sliceBytes (overlay (zeros 16384) 0 (padTo 16384 out)) (lo * blockSize n) (cnt * blockSize n))])) ∧
  (∀ s gmu bad e, Sound s → entryWrong s gmu = true → (∀ x ∈ s.cur.wb, x.2.gmu ≠ gmu) → NothingWaits s → restoredEntry s bad gmu = some e →
    ∃ t, exec (.mapEntryRestore gmu bad) s = .next t ∧ mapEntry t gmu = e % 2 ^ 64 ∧ t.cur.badMus = s.cur.badMus) ∧
  (∀ s gmu bad, entryWrong s gmu = true → (∀ x ∈ s.cur.wb, x.2.gmu ≠ gmu) → NothingWaits s → restoredEntry s bad gmu = none →
    ∃ t, exec (.mapEntryRestore gmu bad) s = .next t ∧ t.cur.badMus = gmu :: s.cur.badMus.filter (· ≠ gmu) ∧ t.mem = s.mem)

/-- Writes of the NVM command set, the write buffer and the packer (R35, R139, R234 to R239, R241, R265, R272, R322, R325). What rests on the
model's own readings and choices is in logs 27, 110 and 143. -/
def Obligations.NvmWrites : Prop :=
  (∀ s r c n lba data mu lo cnt, Sound s → CmdRuns s r false 0x01 c → OnNs s c n → muPieces n lba (data.length / blockSize n) = [(mu, lo, cnt)] →
    WriteTaken s n lba data.length 1 true → budgetAdmits s 16 = true → reusable s c.nsid mu = none → NoPoison s →
    ∃ t i e, exec (.write r lba data) s = .next t ∧ Ended t r (succeeded 0) ∧ wb t i = some e ∧ e.nsid = c.nsid ∧ e.mu = mu ∧
      e.data = overlay (zeros 16384) (lo * blockSize n) (sliceBytes data ((mu * blocksPerMu n + lo - lba) * blockSize n) (cnt * blockSize n)) ∧
      mapEntry t (gmuOf n mu) = mkEntry false 0 3 i ∧ t.cur.nextSeq = s.cur.nextSeq + 1 ∧ e.seq = s.cur.nextSeq) ∧
  (∀ s r c n lba data, CmdRuns s r false 0x01 c → OnNs s c n → readOnly s = true →
    ∃ t, exec (.write r lba data) s = .next t ∧ Ended t r (statusOf 0 0x20) ∧ t.cur = s.cur) ∧
  (∀ s r c n lba data mu lo cnt, CmdRuns s r false 0x01 c → OnNs s c n → muPieces n lba (data.length / blockSize n) = [(mu, lo, cnt)] →
    WriteTaken s n lba data.length 1 true → reusable s c.nsid mu = none → budgetAdmits s 16 = false →
    ∃ t, exec (.write r lba data) s = .next t ∧ cmdOf t r = some { c with waitsCharge := true, onNs := false } ∧
      t.cur.writes = s.cur.writes ++ [{ ref := r, nsid := c.nsid, lba := lba, data := data, zeroes := false }] ∧ t.cur.wb = s.cur.wb) ∧
  (∀ s r c n j, cmdOf s r = some c → c.silent = false → s.cur.writes.find? (fun j => j.ref == r) = some j → nsOf s j.nsid = some n →
    waitingRefusal s c j = none → startsAllowed s r = true → writeFits s n j = true → jobOf s r = none →
    ∃ t, exec (.writeChargeAdmit r) s = .next t ∧ Ended t r (succeeded 0) ∧ t.cur.writes = s.cur.writes.filter fun w => w.ref != r) ∧
  (∀ s r c j st, cmdOf s r = some c → c.silent = false → s.cur.writes.find? (fun j => j.ref == r) = some j → waitingRefusal s c j = some st →
    ∃ t, exec (.writeChargeAdmit r) s = .next t ∧ Ended t r st ∧ t.cur = { s.cur with writes := s.cur.writes.filter fun w => w.ref != r }) ∧
  (∀ s r c n j, cmdOf s r = some c → s.cur.writes.find? (fun j => j.ref == r) = some j → nsOf s j.nsid = some n →
    waitingRefusal s c j = none → startsAllowed s r = false ∨ writeFits s n j = false → exec (.writeChargeAdmit r) s = .next s) ∧
  (∀ s r c n lba nlb mu, Sound s → CmdRuns s r false 0x08 c → OnNs s c n →
    muPieces n lba ((nlb % 65536 + 1) * blockSize n / blockSize n) = [(mu, 0, min (blocksPerMu n) (n.nsze - mu * blocksPerMu n))] →
    WriteTaken s n lba ((nlb % 65536 + 1) * blockSize n) 0 false → NoPoison s → jobOf s r = none →
    ∃ t, exec (.writeZeroes r lba nlb) s = .next t ∧ Ended t r (succeeded 0) ∧ mapEntry t (gmuOf n mu) = deallocated) ∧
  (∀ s r c n ranges, CmdRuns s r false 0x09 c → OnNs s c n → (∀ x ∈ ranges, x.lba + x.blocks ≤ n.nsze) →
    ∃ t, exec (.datasetManagement r false ranges) s = .next t ∧ Ended t r (succeeded 0) ∧ t.cur = s.cur ∧ t.mem = s.mem) ∧
  (∀ s r c n d ranges, CmdRuns s r false 0x09 c → OnNs s c n → (∃ x ∈ ranges, n.nsze < x.lba + x.blocks) →
    ∃ t, exec (.datasetManagement r d ranges) s = .next t ∧ Ended t r (statusOf 0 0x80) ∧ t.cur = s.cur ∧ t.mem = s.mem) ∧
  (∀ s r c n x mu, Sound s → CmdRuns s r false 0x09 c → OnNs s c n → readOnly s = false → x.lba + x.blocks ≤ n.nsze →
    (muPieces n x.lba x.blocks).map (·.1) = [mu] → covered n [x] mu = true →
    jobOf s r = none →
    ∃ t, exec (.datasetManagement r true [x]) s = .next t ∧ Ended t r (succeeded 0) ∧ mapEntry t (gmuOf n mu) = deallocated) ∧
  (∀ s i e n, PackerRests s → wb s i = some e → nsOf s e.nsid = some n → n.compress = true → entryComplete e n = false →
    e.filling = false → e.fillCoded = none → entryOk e.before = true → entryState e.before = 0 ∨ entryState e.before = 2 →
    ∃ t, exec (.partialMuFill i) s = .next t ∧
      wb t i = some { e with data := fillFrom n e (zeros 16384), valid := 2 ^ blocksPerMu n - 1 }) ∧
  (∀ s i e n, wb s i = some e → nsOf s e.nsid = some n → n.compress = true → entryComplete e n = true → e.stored = none → e.compressing = false →
    ∃ t, exec (.inlineCompressRequest i) s = .next t ∧ wb t i = some { e with compressing := true } ∧
      (inlineEngine t (.compressMu i) ≠ none ∨ (.compressMu i, false, e.data) ∈ t.cmp.waiting)) ∧
  (∀ s i e eng, Settled s → NoPoison s → s.cur.sets = [] → inlineEngine s (.compressMu i) = some eng → wb s i = some e → e.compressing = true →
    ∃ t e', exec (.inlineCompressDone i) s = .next t ∧ wb t i = some e' ∧ e'.compressing = false ∧
      e'.stored = some (inlineCompress (regField s (cmpPage eng.island) 0x40 3 0) e.data) ∧
      e'.charge = (inlineCompress (regField s (cmpPage eng.island) 0x40 3 0) e.data).1 ∧ e'.data = e.data) ∧
  (∀ s p x, Settled s → s.cur.sets = [] → pack s p = some x →
    ∃ t, exec (.pageFillTimeout p) s = .next t ∧ pack t p = some { x with due := true } ∧
      t.tsc = max s.tsc (x.since + 1000 * regField s (curPage x.wing) 0x5C 15 0))

/-- Stripe sets: opening, programming, parity, release, relocation, collection and freeing (R242, R250 to R263, R268). What rests on the model's own
readings and choices is in logs 109, 110, 111 and 150. -/
def Obligations.StripeSets : Prop :=
  (∀ s p x psa d i e, Sound s → pack s p = some x → x.sent = some psa → doneOk s (psaChannel psa) (.packer x.wing p) = some d →
    freshRecords s = [(psaChannel psa, d)] → x.placed = [(i, 0)] → wb s i = some e → e.reloc = none → e.current s = true → s.cur.reads = [] →
    setOfBlock s psa = none →
    ∃ t, exec (.pageProgrammed p) s = .next t ∧ pack t p = some { x with done := true } ∧
      mapEntry t e.gmu = mkEntry ((e.stored.map (·.2.1)).getD true) ((e.stored.map (·.1)).getD 16 - 1) 1 psa % 2 ^ 64 ∧
      (wb t i).map (·.programmed) = some true) ∧
  (∀ s n row x d, stripe s n = some x → x.closing = false → x.stream.sustained = false ∨ x.state = .open → doneOk s (psaChannel (x.parityPsa row)) (.parity n row) = some d →
    freshRecords s = [(psaChannel (x.parityPsa row), d)] →
    ∃ t, exec (.parityProgrammed n row) s = .next t ∧ stripe t n = some { x with parityRows := x.parityRows ++ [row] }) ∧
  (∀ s w stream, Settled s → s.cur.packing = [] → (pool s w).formatted = true → stream.sustained = true →
    (∀ ch ∈ chansOf w, findFree s [ch] stream (fun _ _ => true) ≠ none) →
    ∃ t x, exec (.stripeSetOpen w stream) s = .next t ∧ stripe t s.cur.nextSet = some x ∧ t.cur.nextSet = s.cur.nextSet + 1 ∧
      x.wing = w ∧ x.stream = stream ∧ x.state = .open ∧ x.row = 0 ∧
      x.blocks = (chansOf w).map fun ch => (findFree s [ch] stream fun _ _ => true).getD noPsa) ∧
  (∀ s w stream, Settled s → s.cur.packing = [] → (pool s w).formatted = true →
    mayDraw s stream = false → (∃ ch ∈ chansOf w, findFree s [ch] stream (fun _ _ => true) = none) →
    ∃ t, exec (.stripeSetOpen w stream) s = .next t ∧ t.cur.sets = s.cur.sets ∧
      (pool t w).short = (upTo 12).filter fun c => (findFree s [12 * w + c] stream fun _ _ => true).isNone) ∧
  (∀ s n x, Settled s → stripe s n = some x → releasable s x = true →
    ∃ t, exec (.parityRelease n) s = .next t ∧ stripe t n = some { x with released := true, old := [] }) ∧
  (∀ s n x, NothingWaits s → stripe s n = some x → releasable s x = false → exec (.parityRelease n) s = .next s) ∧
  (∀ s w, (pool s w).formatted = true → freeSets s w * 1000 < regField s (curPage w) 0x54 7 0 * wingSets s w →
    ∃ t, exec (.garbageCollectionStart w) s = .next t ∧ (pool t w).collecting = true ∧
      ∀ n x, gcVictim s w = some n → stripe s n = some x → stripe t n = some { x with victim := true }) ∧
  (∀ s gmu d, Settled s → entryState (mapEntry s gmu) = 1 → entryWrong s gmu = false → relocating s gmu = false → gmu ∉ s.cur.lostMus →
    psaFenced s (entryPsa (mapEntry s gmu)) = false →
    d = { op := 1, cls := 1, flags := 0, count := entrySlots (mapEntry s gmu), psa := entryPsa (mapEntry s gmu), keyWord := 0, tag := gmu % 2 ^ 32 } →
    (submitCheck (psaChannel d.psa) d s).1 = none → (chan s (psaChannel d.psa)).lost = false →
    ∃ t, exec (.relocation gmu) s = .next t ∧
      (chan t (psaChannel d.psa)).queue = (chan s (psaChannel d.psa)).queue ++ [{ desc := d, origin := .relocate gmu }]) ∧
  (∀ s n x, Settled s → stripe s n = some x → x.state ≠ .open → x.moved = [] → setGmus s n = [] → s.cur.wb = [] →
    holdsSegments s n = false →
    ∃ t, exec (.stripeSetFree n) s = .next t ∧ stripe t n = none) ∧
  (∀ s n x, NothingWaits s → stripe s n = some x → x.state = .open ∨ x.moved ≠ [] ∨ setGmus s n ≠ [] ∨ holdsSegments s n = true →
    exec (.stripeSetFree n) s = .next s) ∧
  (∀ s psa reason, (blockRec s (blockOf psa)).use = .retired ∨ (blockRec s (blockOf psa)).pinned = true ∨ psaFenced s (blockOf psa) = true →
    exec (.blockDeaccession psa reason) s = .next s) ∧
  (∀ s psa reason, (blockRec s (blockOf psa)).use ≠ .retired → (blockRec s (blockOf psa)).pinned = false → psaFenced s (blockOf psa) = false →
    ∃ t, exec (.blockDeaccession psa reason) s = .next t ∧ (blockRec t (blockOf psa)).use = .retired ∧
      t.cur.deaccessions.head? = some { psa := blockOf psa, reason := reason, tsc := s.tsc })

/-- The journal, its directory and root records, dumps and recovery (R212, R277 to R286): the bytes of a journal page in both of its places, a new
directory copy in the places reserved for it, a root record that names it. What rests on the model's own readings and choices is in logs 31, 35,
98, 99 and 115. -/
def Obligations.JournalAndRecovery : Prop :=
  (∀ s, (∃ e ∈ s.flash.fences, (e.state = 0 ∨ e.state = 1) ∧ e.durable = false) →
    exec .journalPageDurable s = .next s ∧ exec .journalAdvance s = .next s) ∧
  (∀ s, NothingWaits s → FencesDurable s → s.cur.tail ≠ [] → s.cur.dirs ≠ [] → mustAdvance s = false →
    placeGood s s.cur.nextJ = true → placeGood s s.cur.nextJMirror = true →
    ∃ t, exec .journalPageDurable s = .next t ∧ t.cur.journal = s.cur.journal ++ [(s.cur.nextJSeq, s.cur.nextJ, s.cur.nextJMirror)] ∧
      t.cur.tail = s.cur.tail.drop 127 ∧ t.cur.nextJSeq = s.cur.nextJSeq + 1 ∧
      (∀ p ∈ [s.cur.nextJ, s.cur.nextJMirror], codewordBytes t p = some (journalBytes {
        seq := s.cur.nextJSeq, next := t.cur.nextJ, nextMirror := t.cur.nextJMirror, records := s.cur.tail.take 127 })) ∧
      (s.cur.tail.length ≤ 127 → t.cur.dumpSets.consuming = [] ∧
        t.cur.dumpSets.live = s.cur.dumpSets.live.filter fun d => !s.cur.dumpSets.consuming.contains d.1)) ∧
  (∀ s d, NothingWaits s → FencesDurable s → s.cur.dirs.getLast? = some d → segmentsInUse s = [] → 0 < geo s (·.pagesPerBlock) →
    (∀ p ∈ [d.nextPsa, d.nextMirror, s.cur.nextJ, s.cur.nextJMirror], placeGood s p = true) →
    findFree s (journalChans s).1 .journal (fun _ _ => true) ≠ none → findFree s (journalChans s).2 .journal (fun _ _ => true) ≠ none →
    ∃ t x, exec .journalAdvance s = .next t ∧ t.cur.dirs = s.cur.dirs ++ [x] ∧ x.seq = d.seq + 1 ∧
      x.psa = d.nextPsa ∧ x.mirror = d.nextMirror ∧ x.segs = [] ∧ t.cur.journal = [] ∧ t.cur.nextJ = s.cur.nextJ ∧ t.cur.nextJMirror = s.cur.nextJMirror) ∧
  (∀ s d, Settled s → s.cur.dirs.getLast? = some d → s.cur.roots = [] → s.cur.dumpSets.moved = none →
    ∃ t, exec .rootRecordWrite s = .next t ∧ t.cur.rootAt = s.tsc ∧
      t.cur.roots = [rootBytes 1 d.psa d.mirror s.cur.dumpSets.a.id s.cur.dumpSets.b.id] ∧
      t.cur.dirs = s.cur.dirs.filter fun x => decide (x.seq ≥ d.seq)) ∧
  (∀ s, NothingWaits s → s.cur.roots ≠ [] → s.tsc < s.cur.rootAt + 60 * 10 ^ 9 → exec .rootRecordWrite s = .next s) ∧
  (∀ s bad, NothingWaits s → s.cur.mediaReady = false → dramTrained s = true → s.flash.discovering = [] → s.flash.media = [] →
    s.cur.roots = [] → s.cur.dirs = [] → s.cur.sets = [] → s.cur.blocks = [] → s.cur.dumpSets = {} →
    ∃ t, exec (.recovery bad) s = .next t ∧ t.cur.mediaReady = true ∧ t.cur.recovering = false ∧ t.cur.wb = [] ∧ t.cur.tail = [] ∧
      t.cur.nextSeq = 1 ∧ t.cur.dumpSets.armed = some 0 ∧ (hdr t 160).irqStat &&& 0x1000 = 0x1000) ∧
  (∀ s bad, s.cur.mediaReady = false → dramTrained s = true → s.flash.discovering = [] → s.cur.dirs ≠ [] →
    ((newestRoot s).bind fun r => directoryAt s bad (linkAt r 8) (linkAt r 14)) = none →
    ∃ t, exec (.recovery bad) s = .next t ∧ t.cur.mediaReady = false ∧ t.cur.journalBad = true ∧ hdr t 160 = captured (hdr s 160) 0x21 (pageAddr 160 0x80)) ∧
  (∀ s, s.cur.dumpSets.live ≠ [] → s.cur.dumpSets.consuming = [] → s.cur.mediaReady = true → (∀ e ∈ s.cur.wb, e.2.fromDump = false) → s.cur.tail = [] →
    s.cur.dumping = none →
    ∃ t, exec .dumpConsumed s = .next t ∧ t.cur.dumpSets.consuming = s.cur.dumpSets.live.map Prod.fst ∧
      t.cur.tail = (s.cur.dumpSets.live.map fun d => JRec.dump 2 d.1 d.2) ∧ t.cur.dumpSets.live = s.cur.dumpSets.live)

/-- The Conservator's windows, jobs and schedule (R291 to R301, R318, R606). What rests on the model's own readings and choices is in logs 82, 83, 84,
85, 105 and 151. -/
def Obligations.MediaCare : Prop :=
  (∀ s, ∃ t, exec .latencyWindowEnd s = .next t ∧ t.acc.windowDone = [] ∧ t.acc.windowLate = [] ∧
    (∀ c, c ∈ t.care.breach ↔ c < 4 ∧ guardOf s c ≠ 0 ∧ max 100 (Tab.getD s.acc.windowDone c 0) < 100 * Tab.getD s.acc.windowLate c 0) ∧
    (t.care.floor = true ↔ t.care.breach ≠ []) ∧ (t.care.floor = true → effectiveShare t ≤ 5 ∧ (hdr t 176).irqStat &&& 0x100 = 0x100)) ∧
  (∀ s k n p d, jobOn s 0 = true → regField s 176 0x50 15 0 ≠ 0 → atFloor s = false → higherJob s 6 = false → verifyOut s OpOrigin.isPatrol = false →
    s.tsc ≤ s.care.live.patrolStart + regField s 176 0x50 15 0 * 86400 * 10 ^ 9 → patrolNext s = some (k, n, p) →
    d = { op := 2, cls := 4, flags := 0, count := 0, psa := p, keyWord := 0, tag := n % 2 ^ 32 } → (submitCheck (psaChannel p) d s).1 = none →
    (chan s (psaChannel p)).lost = false →
    ∃ t, exec .patrolVerify s = .next t ∧
      (chan t (psaChannel p)).queue = (chan s (psaChannel p)).queue ++ [{ desc := d, origin := .patrol n }]) ∧
  (∀ s, jobOn s 0 = false ∨ regField s 176 0x50 15 0 = 0 → exec .patrolVerify s = .next s) ∧
  (∀ s, atFloor s = true ∨ higherJob s 6 = true → ∃ t, exec .patrolVerify s = .next t ∧ t.flash = s.flash) ∧
  (∀ s n x, Settled s → stripe s n = some x → rewriteEligible s x = true → setGmus s n = [] →
    ∃ t, exec (.thresholdRewrite n) s = .next t ∧ stripe t n = some { x with victim := true, rewrite := false } ∧
      t.care.counts.rewrites = s.care.counts.rewrites + 1) ∧
  (∀ s n x, Settled s → stripe s n = some x → refreshEligible s x = true → (∀ e ∈ s.cur.sets, rewriteEligible s e.2 = false) →
    setGmus s n = [] →
    ∃ t, exec (.thresholdRewrite n) s = .next t ∧ stripe t n = some { x with victim := true, rewrite := false } ∧
      t.care.counts.refreshes = s.care.counts.refreshes + 1) ∧
  (∀ s temps, careRuns s = true →
    ∃ t, exec (.effectiveAgeTick temps) s = .next t ∧ ∀ n x, stripe s n = some x →
      stripe t n = some (if x.state = .open then x else { x with age := x.age + ageWeight (nandTemp s temps x.wing) })) ∧
  (∀ s temps, s.pwr.started = true → 3 ≤ s.pwr.ps →
    ∃ t, exec (.effectiveAgeTick temps) s = .next t ∧ t.cur = s.cur ∧ t.pwr.sleptHours = s.pwr.sleptHours + 1 ∧
      t.pwr.sleptWeight = s.pwr.sleptWeight + ageWeight (Tab.getD s.care.sensors 41 {}).temp) ∧
  (∀ s ch d group p x, CalMay s ch d group → s.care.cal = none → calibrationDue s (groupKey ch d group) = true → higherJob s 4 = false →
    groupPage s (groupKey ch d group) = some p →
    x = { op := 2, cls := 4, flags := 0, count := 0, psa := p, keyWord := 0, tag := groupKey ch d group % 2 ^ 32 } →
    (submitCheck ch x s).1 = none → (chan s ch).lost = false →
    ∃ t, exec (.blockGroupCalibration ch d group) s = .next t ∧
      (chan t ch).queue = (chan s ch).queue ++ [{ desc := x, origin := .calibrate (groupKey ch d group) }] ∧
      t.care.cal = some { group := groupKey ch d group, psa := p, offsets := groupOffsets s ch d group }) ∧
  (∀ s ch d group r, CalMay s ch d group → s.care.cal = some r → r.group = groupKey ch d group → 15 ≤ r.level → r.passed = true →
    ∃ t, exec (.blockGroupCalibration ch d group) s = .next t ∧ t.care.cal = none ∧
      Tab.get? (chan t ch).offsets (d * 256 + group) = some (((upTo 15).map fun i => signedByte (r.offsets.getD i 0)) ++ [1]) ∧
      Tab.get? t.care.live.calTimes (groupKey ch d group) = some s.tsc) ∧
  (∀ s ch d group r, CalMay s ch d group → s.care.cal = some r → r.group = groupKey ch d group → 15 ≤ r.level → r.passed = false →
    ∃ t, exec (.blockGroupCalibration ch d group) s = .next t ∧ chan t ch = chan s ch ∧
      hdr t 176 = captured (hdr s 176) 0x22 (pageAddr 176 0x54)) ∧
  (∀ (s : State) (r : CalRun), s.flash.geometry = none →
    (upTo 5).map (fun k => calTrial s { r with tries := List.replicate k (0, none) }) =
      (([-6, -3, 0, 3, 6] : List Int).map fun x => some (r.offsets.getD r.level 0 + x))) ∧
  (∀ s n, flashRetrainDue s n = true → higherJob s 5 = false → liveDiesOf s n ≠ [] →
    ∃ t, exec (.retrainTrigger false n) s = .next t ∧ chan t n = { chan s n with state := 4, cap := regField s (fchPage n) 0x40 2 0 } ∧
      t.care.counts.flashRetrains = s.care.counts.flashRetrains + 1) ∧
  (∀ s n, jobOn s 5 = true → n < (variant s).dram → pageRefuses s (drcPage n) = false → (drc s n).slice = none →
    (drc s n).state = 2 ∨ (drc s n).state = 3 →
    retrainDue s (regField s 176 0x58 31 24) (regField s 176 0x58 23 16) (Tab.getD s.care.live.trainTimes n 0)
      (Tab.getD s.care.live.trainTemps n 0) (sensor s (32 + n)).temp = true →
    ∃ t, exec (.retrainTrigger true n) s = .next t ∧ drc t n = { drc s n with slice := some 128, state := 4, retrainGo := true }) ∧
  (∀ s, careRuns s = true →
    ∃ t, exec .scheduleRecordWrite s = .next t ∧ t.care.saved = { s.care.live with ages := s.cur.sets.map fun e => (e.1, e.2.age) })

/-- Sensors, the thermal loop, clock levels and monitors (R302 to R312, R317, R320). What rests on the model's own readings and choices is in logs
29, 86, 87 and 88. -/
def Obligations.SensorsAndMonitors : Prop :=
  (∀ s n v, sensorPresent s n = true → v < 2231 ∨ 4231 < v → (sensor s n).valid = true →
    ∃ t, exec (.sensorInvalid n v) s = .next t ∧ sensor t n = { sensor s n with temp := v, valid := false, insideSince := none } ∧
      hdr t 176 = captured (hdr s 176) 0x21 (pageAddr 177 (0x40 + 4 * n))) ∧
  (∀ s n v, sensorPresent s n = true → 2231 ≤ v → v ≤ 4231 → (sensor s n).valid = false →
    ∃ t, exec (.sensorRevalid n v) s = .next t ∧ (sensor t n).valid = true ∧ (sensor t n).temp = v ∧
      t.tsc = max s.tsc ((sensor s n).insideSince.getD s.tsc + 10 * 10 ^ 9)) ∧
  (∀ s, s.pwr.on = true →
    ∃ t, exec (.thermalLoopTick []) s = .next t ∧
      t.care.coolTicks = (if atLeastC s (ceilingC s - 5) then 0 else s.care.coolTicks + 1) ∧ t.care.stage = nextStage s t.care.coolTicks ∧
      (t.pwr.thermLow = true ↔ 10 * ccTemp s ≤ composite s)) ∧
  (∀ s, s.pwr.on = true → atLeastC s (ceilingC s) = true → (∃ k, k < 8 ∧ kindLevel s k < 3) →
    ∃ t k, exec (.thermalLoopTick []) s = .next t ∧ t.care.stage = 2 ∧ k < 8 ∧ t.care.steps = s.care.steps ++ [k] ∧
      ∀ i ∈ presentIslands s, kindOf i < 8 → (isl t i).thermLevel = kindLevel t (kindOf i)) ∧
  (∀ s n v mv, s.pwr.on = true → sensorPresent s n = true → 2231 ≤ v → v ≤ 4231 → (sensor s n).valid = true →
    ∃ t, exec (.thermalLoopTick [(n, v, mv)]) s = .next t ∧ sensor t n = { sensor s n with temp := v, mv := mv, peak := max (sensor s n).peak v }) ∧
  (∀ s n i b, regBit s 176 0x40 6 = true → careRuns s = true → islandOfSensor n = some i → kindOf i ≤ 3 → islandPresent s i = true →
    (isl s i).power = 2 →
    ∃ t, exec (.utilisationDvfsEval [(n, b)]) s = .next t ∧
      isl t i = { isl s i with utilLevel := (if regField s 176 0x5C 15 8 ≤ b then 0
        else if b < regField s 176 0x5C 7 0 ∧ (isl s i).utilLevel < regField s 178 (0x40 + 4 * n) 9 8 then (isl s i).utilLevel + 1
        else (isl s i).utilLevel) }) ∧
  (∀ s src inst v, levelSource src = false →
    ∃ t, exec (.monitorEventSample src inst v) s = .next t ∧
      ∀ j, monitor t j = if (monitor s j).source = src ∧ (monitor s j).inst = inst ∧ (monitor s j).samples s = true then (monitor s j).take v
        else monitor s j) ∧
  (∀ s j, j < 128 → (monitor s j).samples s = true → levelSource (monitor s j).source = true → bits (monitor s j).period 15 0 ≠ 0 →
    ∃ t, exec (.monitorLevelSample j) s = .next t ∧
      monitor t j = (monitor s j).take (levelValue (monitor s j).source (monitor s j).inst s).1) ∧
  (∀ m v, (Monitor.take m v).last = min v 0xFFFFFFFF ∧ (Monitor.take m v).min = min m.min (min v 0xFFFFFFFF) ∧
    (Monitor.take m v).max = max m.max (min v 0xFFFFFFFF) ∧ (m.count < 2 ^ 64 - 1 → (Monitor.take m v).count = m.count + 1)) ∧
  (∀ s who j, j < 128 → MayWrite s who (monPage j) (monBase j + 0xC) →
    ∃ t, exec (.monClr who j) s = .next t ∧ monitor t j = { cfg := (monitor s j).cfg, bin := (monitor s j).bin, period := (monitor s j).period }) ∧
  (∀ s who j v, j < 128 → MayWrite s who (monPage j) (monBase j) →
    ∃ t, exec (.monitorConfigWrite who j 0 v) s = .next t ∧
      monitor t j = { cfg := v &&& 0x8001FFFF, bin := (monitor s j).bin, period := (monitor s j).period }) ∧
  (∀ s who j v, j < 128 → MayWrite s who (monPage j) (monBase j + 4) →
    ∃ t, exec (.monitorConfigWrite who j 1 v) s = .next t ∧
      monitor t j = { cfg := (monitor s j).cfg, bin := v &&& 0xFFFFFF1F, period := (monitor s j).period }) ∧
  (∀ s who j v, j < 128 → MayWrite s who (monPage j) (monBase j + 8) →
    ∃ t, exec (.monitorConfigWrite who j 2 v) s = .next t ∧ monitor t j = { monitor s j with period := v &&& 0xFFFF }) ∧
  (∀ s, ∃ t, exec .lifetimeValuesUpdate s = .next t ∧ t.care.lifetimeAt = s.tsc ∧
    ∀ n, n ∈ validSensors s → sensor t n = { sensor s n with
      sum := (sensor s n).sum + (sensor s n).temp, hours := (sensor s n).hours + 1,
      high := max (sensor s n).high (max (sensor s n).peak (sensor s n).temp), peak := (sensor s n).temp })

/-- Compression rings and jobs (R323, R326, R331, R337, R339, R341, R353 to R355). What rests on the model's own readings and choices is in logs
24, 25, 121, 122 and 152. -/
def Obligations.CompressionJobs : Prop :=
  (∀ s who c r v, MayWrite s who (ringPage c r) (ringBase r + 0xC) → bits v 11 0 < ringSize s c r →
    ∃ t, exec (.cmpRingTailWrite who c r v) s = .next t ∧ ringTail t c r = bits v 11 0) ∧
  (∀ s who c r v, MayWrite s who (ringPage c r) (ringBase r + 0xC) → ringSize s c r ≤ bits v 11 0 →
    ∃ t, exec (.cmpRingTailWrite who c r v) s = .next t ∧ ringTail t c r = ringTail s c r ∧
      hdr t (cmpPage c) = captured (hdr s (cmpPage c)) 0x21 (pageAddr (ringPage c r) (ringBase r + 0xC))) ∧
  (∀ s who c r v, MayWrite s who (ringPage c r) (ringBase r + 8) → 4 ≤ bits v 11 8 → bits v 11 8 ≤ 12 →
    bit v 31 = false ∨ Tab.get? s.mbx (bits v 24 16) = none →
    ∃ t, exec (.cmpRingEnable who c r v) s = .next t ∧ ringCfg t c r = v &&& 0x81FF0F07) ∧
  (∀ s who c r v, MayWrite s who (ringPage c r) (ringBase r + 8) → bits v 11 8 < 4 ∨ 12 < bits v 11 8 →
    ∃ t, exec (.cmpRingEnable who c r v) s = .next t ∧ ringCfg t c r = ringCfg s c r ∧
      hdr t (cmpPage c) = captured (hdr s (cmpPage c)) 0x21 (pageAddr (ringPage c r) (ringBase r + 8))) ∧
  (∀ s c r ans u d, cmpTakes s c = true → nextRing s c = some r → busRead (addrMask (ringAddr s c r + 64 * ringHead s c r)) 64 s = (ans, u) →
    ans.code = 0 → d = parseJob ans.bytes → d.invalid = false → recordBusy u d = false → jobShort u d = true →
    sharedFree u c (d.op == 2) = true → inlineWaits u (d.op == 2) = false → bits (ringCfg u c r) 11 8 ≤ 12 →
    ∃ t, exec (.cmpJobFetch c) s = .next t ∧ Tab.get? t.cmp.jobs u.cmp.nextJob = some { island := c, ring := r, desc := d } ∧
      t.cmp.nextJob = u.cmp.nextJob + 1 ∧ ringHead t c r = (ringHead u c r + 1) % ringSize u c r) ∧
  (∀ s c r ans u d, cmpTakes s c = true → nextRing s c = some r → busRead (addrMask (ringAddr s c r + 64 * ringHead s c r)) 64 s = (ans, u) →
    ans.code = 0 → d = parseJob ans.bytes → d.invalid = true → d.completion = 0 → d.irq = false → bit (word d.ticket) 31 = false →
    ∃ t, exec (.cmpJobFetch c) s = .next t ∧ t.cmp.jobs = u.cmp.jobs ∧
      hdr t (cmpPage c) = captured { hdr u (cmpPage c) with irqStat := (hdr u (cmpPage c)).irqStat ||| 0x200 } 0x20
        (addrMask (ringAddr s c r + 64 * ringHead s c r))) ∧
  (∀ s j job ans u bytes raw v, Tab.get? s.cmp.jobs j = some job → job.desc.op = 1 → job.result = none → job.desc.first = true →
    job.desc.format = 3 → jobInput job.desc s = (ans, u) → ans.code = 0 →
    mediaEncode job.desc.level (effectiveDepth job.desc.level job.desc.depth) ans.bytes = (bytes, raw) →
    bytes.take job.desc.outLen ≠ [] →
    busWrite job.desc.outAddr (bytes.take job.desc.outLen)
      (countCompression job.island ans.bytes.length (bytes.take job.desc.outLen).length (flag raw) u) = (0, v) →
    ∃ t, exec (.cmpJobCompress j) s = .next t ∧ t.mem = v.mem ∧ (Tab.get? t.cmp.jobs j).map (·.result) =
      some (some (if job.desc.outLen < bytes.length then 1 else 0, flag raw + (if job.desc.outLen < bytes.length then 0 else 2),
        ans.bytes.length, (bytes.take job.desc.outLen).length))) ∧
  (∀ s j job ans u, Tab.get? s.cmp.jobs j = some job → job.desc.op = 1 → job.result = none → job.desc.first = true →
    jobInput job.desc s = (ans, u) → ans.code ≠ 0 →
    ∃ t, exec (.cmpJobCompress j) s = .next t ∧ (Tab.get? t.cmp.jobs j).map (·.result) = some (some (0x16, 0, 0, 0)) ∧
      hdr t (cmpPage job.island) = captured (hdr u (cmpPage job.island)) 0x22 job.desc.inAddr) ∧
  (∀ s j job ans u v, Tab.get? s.cmp.jobs j = some job → job.desc.op = 2 → job.result = none → job.desc.first = true →
    job.desc.format = 3 → job.desc.rawIn = true → jobInput job.desc s = (ans, u) → ans.code = 0 → ans.bytes ≠ [] →
    ans.bytes.length ≤ job.desc.outLen →
    busWrite job.desc.outAddr ans.bytes (bumpReg64 (cmpPage job.island) 0x58 ans.bytes.length u) = (0, v) →
    ∃ t, exec (.cmpJobDecompress j) s = .next t ∧ t.mem = v.mem ∧
      (Tab.get? t.cmp.jobs j).map (·.result) = some (some (0, 2, ans.bytes.length, ans.bytes.length))) ∧
  (∀ s j job ans u st out, Tab.get? s.cmp.jobs j = some job → job.desc.op = 2 → job.result = none → job.desc.first = true →
    job.desc.format = 3 → job.desc.rawIn = false → jobInput job.desc s = (ans, u) → ans.code = 0 → ans.bytes ≠ [] →
    mediaDecode ans.bytes ans.bytes.length = (st, out) → st ≠ 0 →
    ∃ t, exec (.cmpJobDecompress j) s = .next t ∧ t.mem = u.mem ∧ (Tab.get? t.cmp.jobs j).map (·.result) = some (some (st, 0, 0, 0))) ∧
  (∀ s j job res, Tab.get? s.cmp.jobs j = some job → job.result = some res →
    ∃ t, exec (.cmpJobComplete j) s = .next t ∧ Tab.get? t.cmp.jobs j = none) ∧
  (∀ s j job st fl used made off, Tab.get? s.cmp.jobs j = some job → job.result = some (st, fl, used, made) → job.stream = none →
    job.desc.completion ≠ 0 → placeOf job.desc.completion = .keeperShared off → islandRefuses s .keeper = false →
    bit (word job.desc.ticket) 31 = false →
    ∃ t, exec (.cmpJobComplete j) s = .next t ∧
      t.mem = memPutBytes s.mem job.desc.completion
        (leBytes 4 job.desc.tag ++ leBytes 1 st ++ leBytes 1 fl ++ zeros 2 ++ leBytes 4 used ++ leBytes 4 made) ∧
      (job.desc.irq = true → (hdr t (cmpPage job.island)).irqStat &&& 0x100 = 0x100))

/-- The Catalogue: chains, commands, searches and the scrub (R466 to R471, R478 to R483, R488, R489). What rests on the model's own readings and
choices is in logs 15, 128 and 153. -/
def Obligations.CatalogueCommands : Prop :=
  (∀ s who c v, MayWrite s who 201 (0x40 + 4 * c) → chainEnabled s c = true → bit v 31 = true →
    ∃ t, exec (.catChainWrite who c v) s = .next t ∧ chainReg t c = chainReg s c ∧ hdr t 201 = captured (hdr s 201) 0x22 (pageAddr 201 (0x40 + 4 * c))) ∧
  (∀ s who c v, MayWrite s who 201 (0x40 + 4 * c) → chainEnabled s c = true → bit v 31 = false →
    ∃ t, exec (.catChainWrite who c v) s = .next t ∧ chainEnabled t c = false) ∧
  (∀ s who c v, MayWrite s who 201 (0x40 + 4 * c) → chainEnabled s c = false →
    bit v 31 = false ∨ (1 ≤ bits v 14 12 ∧ bits v 14 12 ≤ 4 ∧ 1 ≤ bits v 11 6 ∧ bits v 11 6 ≤ 32 ∧
      bits v 4 0 + bits v 14 12 * bits v 11 6 ≤ (variant s).banks ∧
      ∀ k, k < 16 → k ≠ c → chainEnabled s k = true →
        bits v 4 0 + bits v 14 12 * bits v 11 6 ≤ chainFirst s k ∨ chainFirst s k + chainWidth s k * chainDepth s k ≤ bits v 4 0) →
    ∃ t, exec (.catChainWrite who c v) s = .next t ∧ chainReg t c = v &&& 0x80FF7FDF) ∧
  (∀ s who c i, CatTakes s who c → i = regField s 200 0x48 16 0 →
    ∃ t, exec (.catWrite who c) s = .next t ∧ CatDone t ∧ ∀ k, k < chainWidth s c → entryRow t c i k =
      { value := BitVec.ofNat 144 (staged s 0x40 / 2 ^ (144 * k)), care := BitVec.ofNat 144 (staged s 0xC0 / 2 ^ (144 * k)),
        valid := bit (getReg s 202 0x140) 31, tag := bits (getReg s 202 0x140) 15 0 }) ∧
  (∀ s who c i, CatTakes s who c → i = regField s 200 0x48 16 0 →
    ∃ t, exec (.catInvalidate who c) s = .next t ∧ CatDone t ∧
      ∀ k, k < chainWidth s c → entryRow t c i k = { entryRow s c i k with valid := false, mark := false }) ∧
  (∀ s who c i j, CatTakes s who c → i = regField s 200 0x48 16 0 → j = regField s 200 0x4C 16 0 → j < chainEntries s c → 0 < chainWidth s c →
    (entryRow s c i 0).valid = true → (entryRow s c j 0).valid = false →
    ∃ t, exec (.catMove who c) s = .next t ∧ CatDone t ∧ ∀ k, k < chainWidth s c →
      entryRow t c j k = { entryRow s c i k with mark := false } ∧ entryRow t c i k = { entryRow s c i k with valid := false }) ∧
  (∀ s who c i j, CatTakes s who c → i = regField s 200 0x48 16 0 → j = regField s 200 0x4C 16 0 → j < chainEntries s c → 0 < chainWidth s c →
    (entryRow s c j 0).valid = true →
    ∃ t, exec (.catMove who c) s = .next t ∧ getReg t 200 0x50 = 3 ∧ t.cat.rows = s.cat.rows) ∧
  (∀ s who c i, CatTakes s who c → i = regField s 200 0x48 16 0 → chainWidth s c ≤ 4 → 0 < chainWidth s c →
    ∃ t, exec (.catRead who c []) s = .next t ∧ CatDone t ∧ staged t 0x40 = entryBits s c i CatRow.value % 2 ^ (144 * chainWidth s c) ∧
      staged t 0xC0 = entryBits s c i CatRow.care % 2 ^ (144 * chainWidth s c) ∧ t.cat.rows = s.cat.rows ∧
      getReg t 202 0x140 = BitVec.ofNat 32 ((if (entryRow s c i 0).valid then 2 ^ 31 else 0) + (entryRow s c i 0).tag)) ∧
  (∀ s who c, MayWrite s who 200 0x44 → s.cat.running = none → chainEnabled s c = true →
    ∃ t, exec (.catKeeperSearch who c) s = .next t ∧ CatDone t ∧ t.cat.rows = s.cat.rows ∧
      getReg t 200 0x54 = chainSearch s c (staged s 0x40) (regField s 202 0x140 15 0)) ∧
  (∀ s c key tag, (bit (chainSearch s c key tag) 31 = true ↔ ∃ i ∈ listedEntries s c, entryMatches s c i key tag = true)) ∧
  (∀ s who c, MayWrite s who 200 0x44 → s.cat.running = none → chainEnabled s c = true →
    ∃ t, exec (.catInvalidateTag who c) s = .next t ∧ t.cat.running = some (6, c, regField s 202 0x140 15 0) ∧ t.cat.rows = s.cat.rows) ∧
  (∀ s who c, MayWrite s who 200 0x44 → s.cat.running = none → chainEnabled s c = false →
    ∃ t, exec (.catInvalidateTag who c) s = .next t ∧ getReg t 200 0x50 = 1 ∧ t.cat = s.cat) ∧
  (∀ s c tag, s.cat.running = some (6, c, tag) →
    ∃ t, exec .catInvalidateTagEnd s = .next t ∧ CatDone t ∧ ∀ b r, chainHas s c b = true → r < 4096 →
      (catRow s b r).tag = tag → (catRow t b r).valid = false) ∧
  (∀ s who op c, MayWrite s who 200 0x44 → s.cat.running = none →
    ∃ t, exec (.catUndefinedOp who op c) s = .next t ∧ getReg t 200 0x50 = 5 ∧ t.cat = s.cat ∧
      hdr t 200 = captured { hdr s 200 with irqStat := (hdr s 200).irqStat ||| 0x400 } 0x23 (pageAddr 200 0x44)) ∧
  (∀ s, regField s 200 0x58 15 0 ≠ 0 → islandRefuses s .catalogue = false →
    exec (.catScrubTick []) s = .next { s with cat := { s.cat with scrubRow := (s.cat.scrubRow + 1) % 4096 } }) ∧
  (∀ s b, regField s 200 0x58 15 0 ≠ 0 → islandRefuses s .catalogue = false → b < (variant s).banks → (∀ c, c < 16 → chainEnabled s c = false) →
    ∃ t, exec (.catScrubTick [b]) s = .next t ∧ catRow t b s.cat.scrubRow = { catRow s b s.cat.scrubRow with valid := false } ∧
      (hdr t 200).irqStat &&& 0x101 = 0x101 ∧ ((hdr s 200).errCode = 0 → (hdr t 200).errCode = 0x21 ∧ (hdr t 200).errAddr = b * 4096 + s.cat.scrubRow))

/-- DRAM: bursts, the code, refresh, parity, training and zeroing (R491, R497 to R518, R525). What rests on the model's own readings and choices
is in logs 16, 56, 125, 132 and 133. -/
def Obligations.DramCommands : Prop :=
  (∀ s client a len symbols, OneBurst s client a (.read len) symbols → symbols ≤ 1 →
    ∃ t, exec (.dramAccess client a (.read len) symbols) s = .next t ∧ t.mem = s.mem ∧ t.out = s.out ++ [.coreRead (ofLe (readMem s a len))]) ∧
  (∀ s client a len symbols, OneBurst s client a (.read len) symbols → 2 ≤ symbols →
    ∃ t, exec (.dramAccess client a (.read len) symbols) s = .next t ∧ t.mem = s.mem ∧ t.out = s.out ++ [.errorResponse 9] ∧
      dramLocal s a / 64 ∈ (drc t (dramChannelOf s a)).poisoned) ∧
  (∀ s client a bs symbols, OneBurst s client a (.write bs) symbols → bs.length = 64 ∨ symbols ≤ 1 →
    ∃ t, exec (.dramAccess client a (.write bs) symbols) s = .next t ∧ t.mem = memPutBytes s.mem a bs ∧ t.out = s.out) ∧
  (∀ s client a op symbols n, n = dramChannelOf s a → (islandPresent s (.dram n) && islandAsleep s (.dram n)) = false →
    dramHolds { client := client, addr := a, op := op, symbols := symbols } s = true → (drc s n).waiting = [] →
    ∃ t, exec (.dramAccess client a op symbols) s = .next t ∧ t.mem = s.mem ∧ t.out = s.out ∧
      drc t n = { drc s n with waiting := [{ client := client, addr := a, op := op, symbols := symbols }] }) ∧
  (∀ s client a op symbols n, n = dramChannelOf s a → islandPresent s (.dram n) = true → islandAsleep s (.dram n) = true →
    ∃ t, exec (.dramAccess client a op symbols) s = .next t ∧ t.mem = s.mem ∧ t.out = s.out ∧ (isl t (.dram n)).wakePending = true ∧
      (drc t n).waiting = (drc s n).waiting ++ [{ client := client, addr := a, op := op, symbols := symbols }]) ∧
  (∀ s n x y, (drc s n).waiting = [x, y] → dramHolds x s = false → dramHolds y s = false → y.meets x = false → x.client.cls = 1 → y.client.cls = 0 →
    (drc s n).lastBank ≠ some (dramBank s y.addr) → nextAccess s n = some (y, false)) ∧
  (∀ s n x y, (drc s n).waiting = [x, y] → dramHolds x s = false → dramHolds y s = false → y.meets x = false → x.client.cls = 2 → y.client.cls ≠ 2 →
    (drc s n).bgCredit < 256 → nextAccess s n = some (y, false)) ∧
  (∀ s n x y, (drc s n).waiting = [x, y] → dramHolds x s = false → x.client.cls = 2 → 256 ≤ (drc s n).bgCredit → ∃ b, nextAccess s n = some (x, b)) ∧
  (∀ s n rank, (drc s n).state ≠ 0 → (drc s n).state ≠ 1 → (drc s n).state ≠ 5 →
    ∃ t, exec (.refreshDue n rank) s = .next t ∧ debtOf (drc t n) rank =
      if rtActive s (drc s n) rank then (if 4 ≤ debtOf (drc s n) rank + 1 then 3 else debtOf (drc s n) rank + 1) else 0) ∧
  (∀ s n rank ind, (drc s n).state ≠ 5 → ind ≠ indOf (drc s n) rank →
    ∃ t, exec (.refreshRatePoll n rank ind) s = .next t ∧ indOf (drc t n) rank = ind ∧ (hdr t (drcPage n)).irqStat &&& 0x100 = 0x100) ∧
  (∀ s n, 2 ≤ (drc s n).state → (drc s n).state ≠ 6 →
    ∃ t, exec (.caParityAlert n) s = .next t ∧
      drc t n = if (drc s n).replays < 3 then { drc s n with replays := (drc s n).replays + 1 } else { drc s n with caRetrain := true }) ∧
  (∀ s n, (drc s n).caRetrain = true → (drc s n).waiting = [] →
    ∃ t, exec (.caRetrainEnd n true) s = .next t ∧ drc t n = { drc s n with caRetrain := false, replays := 0 }) ∧
  (∀ s n, (drc s n).caRetrain = true → (drc s n).waiting = [] →
    ∃ t, exec (.caRetrainEnd n false) s = .next t ∧ drc t n = { drc s n with caRetrain := false, replays := 0, state := 6 } ∧
      hdr t (drcPage n) = captured { hdr s (drcPage n) with irqStat := (hdr s (drcPage n)).irqStat ||| 0x800 } 0x22 (pageAddr (drcPage n) 0x44)) ∧
  (∀ s n symbols, regField s (drcPage n) 0x4C 15 0 ≠ 0 → s.dram.stopped = false → drcTrained (drc s n) = true → (drc s n).state ≠ 5 →
    dramHolds { client := .scrub, addr := dramGlobal s n ((drc s n).scrubAt * 64), op := .read 64, symbols := symbols } s = false → channelBytes s ≠ 0 →
    ∃ t, exec (.dramScrubRead n symbols) s = .next t ∧ (drc t n).scrubAt = ((drc s n).scrubAt + 1) % (channelBytes s / 64)) ∧
  (∀ s n f, (drc s n).state = 1 → f.ok = true → f.width = s.boot.dramWidth → f.density = s.boot.dramDensity → f.ranks = s.boot.dramRanks →
    rankGiB f.width f.density ≠ 0 → (drc s n).heldGo = false →
    ∃ t, exec (.dramTrainingEnd n f) s = .next t ∧ drc t n = { drc s n with
      state := 2, rate := s.boot.dramRate, rowBits := rowBitsOf f.width f.density, ranks := f.ranks, density := f.density, width := f.width }) ∧
  (∀ s n f, (drc s n).state = 1 → f.ok = false →
    ∃ t, exec (.dramTrainingEnd n f) s = .next t ∧
      drc t n = (if 2 ≤ (drc s n).fails then { drc s n with fails := (drc s n).fails + 1, state := 0 } else { drc s n with fails := (drc s n).fails + 1 }) ∧
      (2 ≤ (drc s n).fails → hdr t (drcPage n) = captured (hdr s (drcPage n)) 0x20 (pageAddr (drcPage n) 0x44))) ∧
  (∀ s who n, MayWrite s who (drcPage n) 0x54 → (drc s n).slice = none → (drc s n).state = 2 ∨ (drc s n).state = 3 →
    ∃ t, exec (.drcRetrain who n) s = .next t ∧ drc t n = { drc s n with slice := some 128, state := 4, retrainGo := true }) ∧
  (∀ s who n, MayWrite s who (drcPage n) 0x54 → (drc s n).slice = none → (drc s n).state ≠ 2 → (drc s n).state ≠ 3 →
    ∃ t, exec (.drcRetrain who n) s = .next t ∧ drc t n = { drc s n with retrainGo := true }) ∧
  (∀ s n k, (drc s n).slice = some k → 1 < k → s.dram.stopped = false → rtActive s (drc s n) 0 = false → rtActive s (drc s n) 1 = false →
    justRefreshed s (drc s n) = false →
    ∃ t, exec (.retrainStep n true) s = .next t ∧ drc t n = { drc s n with slice := some (k - 1) }) ∧
  (∀ s n k ok, (drc s n).slice = some k → ok = false ∨ k ≤ 1 → s.dram.stopped = false → rtActive s (drc s n) 0 = false →
    rtActive s (drc s n) 1 = false → justRefreshed s (drc s n) = false →
    ∃ t, exec (.retrainStep n ok) s = .next t ∧ (drc t n).slice = none ∧ (drc t n).retrainGo = false ∧ (hdr t (drcPage n)).irqStat &&& 0x2000 = 0x2000) ∧
  (∀ s k n v, MayWrite s (.keeper k) (drcPage n) 0x68 → (drc s n).zeroing = false →
    ∃ t, exec (.drcInitSkip (.keeper k) n v) s = .next t ∧ regField t (drcPage n) 0x68 24 0 = bits v 24 0 ∧
      (bit v 31 = false → drc t n = drc s n) ∧
      (bit v 31 = true → drcTrained (drc s n) = true → (drc t n).zeroing = true ∧ (drc t n).skip = bits v 24 0 ∧
        ((drc s n).waiting = [] → (drc t n).frontier = bits v 24 0 * 64)) ∧
      (bit v 31 = true → drcTrained (drc s n) = false → drc t n = { drc s n with heldGo := true })) ∧
  (∀ s n, (drc s n).zeroing = true → (drc s n).initDone = false → s.dram.stopped = false →
    ∃ t, exec (.dramInitDone n) s = .next t ∧ (drc t n).initDone = true ∧ (drc t n).frontier = channelBytes s / 64 ∧
      (hdr t (drcPage n)).irqStat &&& 0x1000 = 0x1000) ∧
  (∀ s k, k < 4 → 2 * k < (variant s).dram →
    ∃ t, exec (.rankpwrEnable k) s = .next t ∧ t.pwr.rankPower = s.pwr.rankPower.set k true ∧
      drc t (2 * k) = { drc s (2 * k) with rank1Power := true } ∧ drc t (2 * k + 1) = { drc s (2 * k + 1) with rank1Power := true })

/-- Windows, the search port, the instruction cache and the cores of galleries and keepers (R371, R386 to R393, R404, R405, R413, R414, R472 to
R477). What rests on the model's own readings and choices is in logs 22, 41, 47, 48, 53, 54 and 101. -/
def Obligations.GalleryCommands : Prop :=
  (∀ s g k w h, coreRuns s (.docent g k) = true → claimable (window s g w) = some h →
    ∃ t, exec (.winClaimRead g k w) s = .next t ∧ (window t g w).half h = { (window s g w).half h with holder := some k } ∧
      t.out = s.out ++ [.coreRead (word (flag ((window s g w).half h).err * 2 ^ 30 + h * 65536 + ((window s g w).half h).data.length)).toNat]) ∧
  (∀ s g k w, coreRuns s (.docent g k) = true → claimable (window s g w) = none → (window s g w).bound = none ∨ (window s g w).ended = true →
    exec (.winClaimRead g k w) s = .next (emit (.coreRead 0x80000000) s)) ∧
  (∀ s g k w, coreRuns s (.docent g k) = true → claimable (window s g w) = none → (window s g w).bound ≠ none → (window s g w).ended = false →
    exec (.winClaimRead g k w) s = .next (setCore (.docent g k) (fun x => { x with stalled := true }) s)) ∧
  (∀ s g k w v, coreRuns s (.docent g k) = true → v &&& 0xFFFEFFFF = 0 → ((window s g w).half (bits v 16 16)).holder = some k →
    ∃ t, exec (.winReleaseWrite g k w v) s = .next t ∧ (window t g w).half (bits v 16 16) = {}) ∧
  (∀ s g k w v n tk, coreRuns s (.docent g k) = true → ((window s g w).half (bits v 16 16)).holder ≠ some k → ServesQuietly s g k n tk →
    ∃ t, exec (.winReleaseWrite g k w v) s = .next t ∧ (getCore t (.docent g k)).serving = none ∧
      (t.rgs.faults.head?).map (fun f => (f.code, f.core, f.slot, f.ea)) = some (6, k, n, 0x480004 + 16 * w)) ∧
  (∀ s g k off bytes, coreRuns s (.docent g k) = true → off + bytes.length ≤ 0x48 →
    exec (.catalogueKeyStore g k off bytes) s = .next (setCore (.docent g k) (fun x => { x with key := keyWith x.key off bytes }) s)) ∧
  (∀ s g k v r u, coreRuns s (.docent g k) = true → islandRefuses s .catalogue = false → (hdr s 200).quiesceReq = false →
    portSearch g v (getCore s (.docent g k)).key.toNat (servedDomain s g k) s = (r, u) →
    ∃ t, exec (.search g k v) s = .next t ∧ (getCore t (.docent g k)).searching = some r ∧ (getCore t (.docent g k)).result = none ∧ t.cat = u.cat) ∧
  (∀ s g k r, (getCore s (.docent g k)).searching = some r →
    ∃ t, exec (.searchResult g k) s = .next t ∧
      getCore t (.docent g k) = { getCore s (.docent g k) with searching := none, result := some r, stalled := false }) ∧
  (∀ s g k r, coreRuns s (.docent g k) = true → (getCore s (.docent g k)).searching = none → (getCore s (.docent g k)).result = some r →
    exec (.resultRead g k) s = .next (emit (.coreRead r.toNat) s)) ∧
  (∀ s g k r, coreRuns s (.docent g k) = true → (getCore s (.docent g k)).searching = some r →
    exec (.resultRead g k) s = .next (setCore (.docent g k) (fun x => { x with stalled := true }) s)) ∧
  (∀ s k g v, g < 16 → Serves s (.keeper k) (208 + g) true → v.getLsbD 0 = true →
    ∃ t, exec (.docIcacheInv (.keeper k) g v) s = .next t ∧ gal t g = { gal s g with icacheInvs := (gal s g).icacheInvs + 1 }) ∧
  (∀ s who k, k < 4 → MayWrite s who 224 0x40 → regBit s 224 0x40 k = false →
    ∃ t, exec (.keeperCoreStart who k) s = .next t ∧ regBit t 224 0x40 k = true ∧ (∀ j, j ≠ k → getCore t (.keeper j) = getCore s (.keeper j)) ∧
      bare (getCore t (.keeper k)) = bare { ({} : Core) with
        running := true, pc := BitVec.ofNat 48 (keeperLocalBase 0 + 4 * regField s 224 (0x48 + 4 * k) 31 2),
        pmcCycles := (getCore s (.keeper k)).pmcCycles, pmcSel := (getCore s (.keeper k)).pmcSel }) ∧
  (∀ s who k, k < 4 → MayWrite s who 224 0x40 → s.sec.owner ≠ k ∨ s.sec.msg = none →
    ∃ t, exec (.keeperCoreStop who k) s = .next t ∧ regBit t 224 0x40 k = false ∧
      getCore t (.keeper k) = { (getCore s (.keeper k)).drain with running := false, waiting := false, stalled := false } ∧
      t.sec = { s.sec with owner := if s.sec.owner = k then 0xFF else s.sec.owner }) ∧
  (∀ s who k, k < 4 → MayWrite s who 224 0x40 → s.sec.owner = k →
    ∃ t, exec (.keeperCoreStop who k) s = .next t ∧ t.sec.owner = 0xFF ∧ t.sec.msg = none) ∧
  (∀ s k, (getCore s (.keeper k)).running = true → (getCore s (.keeper k)).halted = false → (getCore s (.keeper k)).stalled = false →
    (getCore s (.keeper k)).ien = true → keeperEvent s k = true → islandRefuses s .keeper = false →
    ∃ t cause, exec (.keeperInterruptEntry k) s = .next t ∧
      (cause = 0x80 ∧ pageEvent s k = true ∨ cause = 0x81 ∧ mailboxPending s k = true) ∧
      getCore t (.keeper k) = { (getCore s (.keeper k)).drain with
        epc := (getCore s (.keeper k)).pc, efl := flagsWord (getCore s (.keeper k)), emask := (getCore s (.keeper k)).mask,
        ecause := BitVec.ofNat 32 (2 ^ 31 + cause), ien := false, pc := (getCore s (.keeper k)).vbase, waiting := false }) ∧
  (∀ s k, (getCore s (.keeper k)).ien = false ∨ keeperEvent s k = false → exec (.keeperInterruptEntry k) s = .next s) ∧
  (∀ s c w bs extra u z ok, Runs s c 0x30 { base := true } w → coreLoad c (effAddr c (found s c) w) 64 64 (landed s c) = .got bs extra u →
    islandAsleep u .registrar = false → registrarRefuses u = false → submitDesc c bs u = (ok, z) →
    ∃ t, exec (.opTkt c w) s = .next t ∧ t.rgs = z.rgs ∧ bare (getCore t c) = bare (retired z c none 1 { getCore z c with z := ok }))

/-- Programs, memory range sets, executions and subsystem local memory (R417, R419 to R425, R450, R451, R454). What rests on the model's own
readings and choices is in logs 36, 68, 69, 70, 71, 72, 73, 74 and 75. -/
def Obligations.ProgramCommands : Prop :=
  (∀ s r c n i img base, CmdRuns s r false 0x22 c → OnSet s c 4 n → i ≤ 63 → Tab.get? s.rgs.programs (c.nsid * 64 + i) = none →
    s.rgs.programs.length < 512 → imageSound s img = true →
    fitIn (codeSpans s) 0x100000 0x180000 (codeRun img).2 (runAlign img (codeRun img).1) = some base →
    ∃ t, exec (.loadProgram r i img) s = .next t ∧ Ended t r (succeeded 0) ∧ Tab.get? t.rgs.programs (c.nsid * 64 + i) =
      some { image := img, base := base, size := (codeRun img).2, sections := (codeRun img).1.map fun e => base + e.2 }) ∧
  (∀ s r c n i img, CmdRuns s r false 0x22 c → OnSet s c 4 n → i ≤ 63 → Tab.get? s.rgs.programs (c.nsid * 64 + i) = none →
    imageSound s img = false →
    ∃ t, exec (.loadProgram r i img) s = .next t ∧ Ended t r (statusOf 0 0x02) ∧ t.rgs = s.rgs ∧ t.mem = s.mem) ∧
  (∀ s r c n i img p ctx, CmdRuns s r false 0x22 c → OnSet s c 4 n → i ≤ 63 → Tab.get? s.rgs.programs (c.nsid * 64 + i) = some p → p.ctx = some ctx →
    ∃ t, exec (.loadProgram r i img) s = .next t ∧ Ended t r (statusOf 1 0xC4) ∧ t.rgs = s.rgs ∧ t.mem = s.mem) ∧
  (∀ s r c n i ctx rec p a, CmdRuns s r false 0x23 c → OnSet s c 4 n → i ≤ 63 → Tab.get? s.rgs.programs (c.nsid * 64 + i) = some p → p.ctx = none →
    ctx < 4096 → ctxState s ctx = 0 →
    fitIn (dataSpans s) 0x180000 0x300000 (sharedRun p.image).2 (runAlign p.image (sharedRun p.image).1) = some a →
    contextRefused s ctx (activeRecord r.ctl p a rec) = false →
    ∃ t, exec (.programActivate r i ctx rec) s = .next t ∧ Ended t r (succeeded 0) ∧
      Tab.get? t.rgs.programs (c.nsid * 64 + i) = some { p with ctx := some ctx, data := a, dataLen := (sharedRun p.image).2 } ∧
      Tab.get? t.rgs.contexts ctx = some (contextKept (activeRecord r.ctl p a rec))) ∧
  (∀ s r c n i ctx rec p, CmdRuns s r false 0x23 c → OnSet s c 4 n → i ≤ 63 → Tab.get? s.rgs.programs (c.nsid * 64 + i) = some p → p.ctx = none →
    ctx < 4096 → ctxState s ctx = 0 →
    fitIn (dataSpans s) 0x180000 0x300000 (sharedRun p.image).2 (runAlign p.image (sharedRun p.image).1) = none →
    ∃ t, exec (.programActivate r i ctx rec) s = .next t ∧ Ended t r (statusOf 1 0xC6) ∧ t.rgs = s.rgs ∧ t.mem = s.mem) ∧
  (∀ s r c n i p ctx, CmdRuns s r false 0x23 c → OnSet s c 4 n → i ≤ 63 → Tab.get? s.rgs.programs (c.nsid * 64 + i) = some p → p.ctx = some ctx →
    NoStopping s → execsOf s ctx = [] →
    ∃ t, exec (.programDeactivate r i) s = .next t ∧ Ended t r (succeeded 0) ∧ ctxState t ctx = 0 ∧
      Tab.get? t.rgs.programs (c.nsid * 64 + i) = some { p with ctx := none, dataLen := 0, stopping := none }) ∧
  (∀ s r c n i p ctx, CmdRuns s r false 0x23 c → OnSet s c 4 n → i ≤ 63 → Tab.get? s.rgs.programs (c.nsid * 64 + i) = some p → p.ctx = some ctx →
    NoStopping s → execsOf s ctx ≠ [] →
    ∃ t, exec (.programDeactivate r i) s = .next t ∧ Tab.get? t.rgs.programs (c.nsid * 64 + i) = some { p with stopping := some r }) ∧
  (∀ s r c n m nsid ranges, CmdRuns s r false 0x21 c → OnSet s c 4 n → ranges ≠ [] → ranges.length ≤ 16 → nsOf s nsid = some m → m.csi = 3 →
    (∀ x ∈ ranges, x.2 ≠ 0 ∧ x.1 + x.2 ≤ m.nsze) → nsid ∈ (ctlOf s r.ctl).attached →
    ∃ t, exec (.memoryRangeSetManagement r true 0 (ranges.map fun x => (nsid, x))) s = .next t ∧ Ended t r (succeeded s.rgs.nextRangeSet) ∧
      Tab.get? t.rgs.rangeSets s.rgs.nextRangeSet = some { nsid := nsid, ranges := ranges } ∧ t.rgs.nextRangeSet = s.rgs.nextRangeSet + 1) ∧
  (∀ s r c n rsid x, CmdRuns s r false 0x21 c → OnSet s c 4 n → Tab.get? s.rgs.rangeSets rsid = some x →
    ∃ t, exec (.memoryRangeSetManagement r false rsid []) s = .next t ∧ Ended t r (succeeded 0) ∧ Tab.get? t.rgs.rangeSets rsid = none) ∧
  (∀ s r c n i rsid params ctx x m, cmdOf s r = some c → executes s c = true → c.phase = .fetched → c.cpl = none →
    (∀ w ∈ s.rgs.waiting, w.ref ≠ r) → OnSet s c 4 n → execTarget s c.nsid i rsid = some (ctx, x, m) → i ≤ 63 → params.length ≤ 4096 →
    params.length ≤ (x.ranges.headD (0, 0)).2 → ctxSlotCount s ctx ≠ 0 →
    ∃ t, exec (.executeProgram r i rsid params) s = .next t ∧
      t.rgs.waiting = s.rgs.waiting ++ [{ ref := r, nsid := c.nsid, program := i, rangeSet := rsid, params := params }]) ∧
  (∀ s r c w ctx x n e slot u, awaitedOf s r = some c → s.rgs.waiting.find? (fun w => w.ref == r) = some w → sanitizing s = false →
    mayStart s c = true → headerRefusal s c = none → registrarRefuses s = false → execTarget s w.nsid w.program w.rangeSet = some (ctx, x, n) → freeExec s = some e →
    autoSlot s ctx = some slot →
    dramWrite 0 (n.slmBase + (x.ranges.headD (0, 0)).1) w.params
      (fetchParams r w.params (setAwaited r (fun c => { c with phase := .started }) (unwait r s))) = (0, u) →
    ∃ t tk, exec (.executionStart r) s = .next t ∧ Tab.get? t.rgs.execs e = some { ref := r, ctx := ctx, root := slot, start := u.tsc } ∧
      Tab.get? t.rgs.tickets slot = some tk ∧ tk.exec = e ∧ tk.desc.drop 16 = sliceBytes w.params 0 48) ∧
  (∀ s r c w st, awaitedOf s r = some c → s.rgs.waiting.find? (fun w => w.ref == r) = some w → sanitizing s = false → mayStart s c = true →
    registrarRefuses s = false → headerRefusal s c = some st →
    ∃ t, exec (.executionStart r) s = .next t ∧ Ended t r st ∧ t.rgs.execs = s.rgs.execs ∧ t.rgs.tickets = s.rgs.tickets ∧ t.mem = s.mem) ∧
  (∀ s e x, Tab.get? s.rgs.execs e = some x → ticketsOf s e = [] → movesOf s e = [] →
    ∃ t, exec (.executionEnd e) s = .next t ∧ Tab.get? t.rgs.execs e = none) ∧
  (∀ s e x c, Tab.get? s.rgs.execs e = some x → ticketsOf s e = [] → movesOf s e = [] → NoStopping s → cmdOf s x.ref = some c → c.silent = false →
    x.cancel = none →
    ∃ t, exec (.executionEnd e) s = .next t ∧
      Ended t x.ref { statusOf (flag (x.failed != 0)) (if x.failed = 0 then 0 else 0xC1) with dw0 := x.lastStatus % 256, dw1 := x.failed }) ∧
  (∀ s r c n off len ans u, CmdRuns s r false 0x02 c → OnSet s c 3 n → nsSet s c.nsid = 3 → len ≤ 262144 → off + len ≤ n.nsze →
    dramRead 0 (n.slmBase + off) len (taken s r) = (ans, u) → ans.code = 0 → ans.bytes ≠ [] → ctlUp u r.ctl = true →
    ∃ t, exec (.readMemory r off len) s = .next t ∧ Ended t r (succeeded 0) ∧ t.out = u.out ++ [.hostData r ans.bytes] ∧ t.mem = u.mem) ∧
  (∀ s r c n off len, CmdRuns s r false 0x02 c → OnSet s c 3 n → nsSet s c.nsid = 3 → len ≤ 262144 → n.nsze < off + len →
    ∃ t, exec (.readMemory r off len) s = .next t ∧ Ended t r (statusOf 0 0x80) ∧ t.out = s.out) ∧
  (∀ s r c n off data u, CmdRuns s r false 0x01 c → OnSet s c 3 n → nsSet s c.nsid = 3 → data.length ≤ 262144 → off + data.length ≤ n.nsze →
    dramWrite 0 (n.slmBase + off) data (taken s r) = (0, u) →
    ∃ t, exec (.writeMemory r off data) s = .next t ∧ Ended t r (succeeded 0) ∧ t.mem = u.mem) ∧
  (∀ s r c n off data, CmdRuns s r false 0x01 c → OnSet s c 3 n → nsSet s c.nsid = 3 → data.length ≤ 262144 → n.nsze < off + data.length →
    ∃ t, exec (.writeMemory r off data) s = .next t ∧ Ended t r (statusOf 0 0x80) ∧ t.mem = s.mem)

/-- Submissions, posts, moves, windows filled, dispatch and the ends of tickets (R393, R394, R426 to R432, R434 to R439, R441, R446 to R449,
R452). What rests on the model's own readings and choices is in logs 14, 20, 21, 23, 76, 118 and 152. -/
def Obligations.TicketCommands : Prop :=
  (∀ s c desc n, RegistrarServes s c → nbits (leAt desc 0 8) 43 43 = 0 → ticketReason s (submitterOf s c) desc = 0 →
    nbits (leAt desc 0 8) 39 39 = 0 → n = nbits (leAt desc 0 8) 17 0 →
    ∃ t tk, exec (.ticketSubmit c desc) s = .next t ∧ Tab.get? t.rgs.tickets n = some tk ∧ tk.ctx = nbits (leAt desc 0 8) 31 20 ∧
      tk.exec = ((submitterOf s c).map Prod.snd).getD 0 ∧ tk.desc.length = 64 ∧ tk.desc.drop 8 = (padTo 64 desc).drop 8 ∧
      tk.priority = max (nbits (leAt desc 0 8) 38 36) (ctxCeiling s tk.ctx % 8) ∧
      (nbits (leAt desc 0 8) 42 42 = 1 → 1 ≤ leAt desc 8 4 → tk.state = .held 0) ∧
      (nbits (leAt desc 0 8) 42 42 = 0 → nbits (leAt desc 0 8) 41 41 = 1 → 1 ≤ leAt desc 8 4 →
        tk.state = .delayed (nbits (leAt desc 0 8) 47 44)
          (((Tab.getD s.rgs.delays (nbits (leAt desc 0 8) 47 44) {}).ticks + leAt desc 8 4) % 2 ^ 32)) ∧
      (leAt desc 8 4 = 0 → nbits (leAt desc 0 8) 40 40 = 0 → NowReady s t n tk)) ∧
  (∀ s c desc n, RegistrarServes s c → nbits (leAt desc 0 8) 43 43 = 0 → ticketReason s (submitterOf s c) desc = 0 →
    nbits (leAt desc 0 8) 39 39 = 1 → autoSlot s (nbits (leAt desc 0 8) 31 20) = some n →
    ∃ t, exec (.ticketSubmit c desc) s = .next t ∧ slotLive s n = false ∧ Tab.has t.rgs.tickets n = true ∧
      ∀ m, slotInRange s (nbits (leAt desc 0 8) 31 20) m = true → n < m → slotLive s m = true) ∧
  (∀ s c desc, RegistrarServes s c → nbits (leAt desc 0 8) 43 43 = 0 → ticketReason s (submitterOf s c) desc ≠ 0 →
    ∃ t, exec (.ticketSubmit c desc) s = .next t ∧
      SubmissionRefused s t (nbits (leAt desc 0 8) 31 20) (ticketReason s (submitterOf s c) desc)) ∧
  (∀ s k desc, registrarRefuses s = true →
    ∃ t, exec (.ticketSubmit (.keeper k) desc) s = .next t ∧ t.rgs = s.rgs ∧ t.out = s.out ++ [.errorResponse 2] ∧
      hdr t 232 = captured (hdr s 232) 2 (pageAddr 232 0)) ∧
  (∀ s c desc n, RegistrarServes s c → nbits (leAt desc 0 8) 43 43 = 1 → moveReason s (submitterOf s c) desc = 0 →
    autoSlot s (nbits (leAt desc 0 8) 31 20) = some n → leAt desc 24 8 ≠ 0 →
    (outMoves s (nbits (leAt desc 0 8) 35 32) true = [] → outMoves s (nbits (leAt desc 0 8) 35 32) false = []) →
    ∃ t, exec (.moveSubmit c desc) s = .next t ∧
      Tab.get? t.rgs.moves n = some { moveOf desc (((submitterOf s c).map Prod.snd).getD 0) with
        order := s.rgs.nextOrder
        started := nbits (leAt desc 0 8) 41 40 == 2 && (outMoves s (nbits (leAt desc 0 8) 35 32) true).isEmpty } ∧
      (nbits (leAt desc 0 8) 41 40 ≠ 2 →
        window t (nbits (leAt desc 0 8) 35 32) (nbits (leAt desc 0 8) 38 36) = { bound := some n, ended := false }) ∧
      (nbits (leAt desc 0 8) 41 40 = 2 → t.gals = s.gals)) ∧
  (∀ s c desc, RegistrarServes s c → nbits (leAt desc 0 8) 43 43 = 1 → moveReason s (submitterOf s c) desc ≠ 0 →
    ∃ t, exec (.moveSubmit c desc) s = .next t ∧
      SubmissionRefused s t (nbits (leAt desc 0 8) 31 20) (moveReason s (submitterOf s c) desc)) ∧
  (∀ s g w n m h ok bs u len, (window s g w).bound = some n → Tab.get? s.rgs.moves n = some m → nextHalf (window s g w) = some h →
    (window s g w).ended = false → m.stopped = false → islandRefuses s (.gallery g) = false →
    len = min (32768 / m.recLen * m.recLen) (m.length - m.delivered) →
    (m.kind = 0 ∧ streamNs g w m.nsid (m.src + m.delivered) len s = (some (ok, bs), u)) ∨
      (m.kind ≠ 0 ∧ streamSlm (addrMask (ctxSlmBase s m.ctx + m.src + m.delivered)) len s = some (ok, bs, u)) →
    ∃ t, exec (.streamHalfFilled g w) s = .next t ∧
      (window t g w).half h = { filled := true, err := !ok, data := bs, order := (window s g w).fills } ∧
      (window t g w).fills = (window s g w).fills + 1 ∧ ((window t g w).ended = true ↔ m.length ≤ m.delivered + len) ∧
      Tab.get? t.rgs.moves n = some { m with
        delivered := m.delivered + len, failedHalves := m.failedHalves + flag (!ok), ended := decide (m.length ≤ m.delivered + len) }) ∧
  (∀ s g w n m h ns e ch x, (window s g w).bound = some n → Tab.get? s.rgs.moves n = some m → nextHalf (window s g w) = some h →
    (window s g w).ended = false → m.stopped = false → islandRefuses s (.gallery g) = false → m.kind = 0 → StreamNeeds s g w m ns e →
    ch = psaChannel (entryPsa e) →
    x = { op := 1, cls := 0, flags := if (variant s).crypto then 4 else 0, count := entrySlots e, psa := entryPsa e,
          keyWord := if (variant s).crypto then ns.keySlot else 0, tag := gmuOf ns (streamFirst m) % 2 ^ 32 } →
    (submitCheck ch x s).1 = none → (chan s ch).lost = false →
    ∃ t, exec (.streamHalfFilled g w) s = .next t ∧ t.gals = s.gals ∧ t.rgs = s.rgs ∧
      (chan t ch).queue.getLast? = some { desc := x, origin := .stream g w (gmuOf ns (streamFirst m)) }) ∧
  (∀ s g w n m, (window s g w).bound = some n → (window s g w).ended = true → (window s g w).half0.filled = false →
    (window s g w).half1.filled = false → Tab.get? s.rgs.moves n = some m → m.kind ≠ 2 →
    ∃ t, exec (.streamEnd g w) s = .next t ∧ window t g w = {} ∧ Tab.get? t.rgs.moves n = none ∧
      ∀ p tk a, m.post = some p → Tab.get? s.rgs.tickets p = some tk → tk.state = .held a → a + 1 < leAt tk.desc 8 4 →
        Tab.get? t.rgs.tickets p = some { tk with
          state := .held (a + 1), desc := overlay tk.desc 56 (leBytes 8 (postWord (if m.failedHalves = 0 then 0 else 1) 2 n m.failedHalves)) }) ∧
  (∀ s n m u, Tab.get? s.rgs.moves n = some m → m.kind = 2 → m.started = true →
    dramWrite 0 (addrMask (ctxSlmBase s m.ctx + m.dst)) (readMem s (galleryShareBase m.gallery + (m.src - 0x100000)) m.length) s = (0, u) →
    ∃ t, exec (.outMoveComplete n) s = .next t ∧ Tab.get? t.rgs.moves n = none ∧ t.mem = u.mem ∧
      (∀ p tk a, m.post = some p → Tab.get? s.rgs.tickets p = some tk → tk.state = .held a → a + 1 < leAt tk.desc 8 4 →
        Tab.get? t.rgs.tickets p = some { tk with state := .held (a + 1), desc := overlay tk.desc 56 (leBytes 8 (postWord 0 3 n m.length)) }) ∧
      (∀ j x, outMoves s m.gallery true = [(n, m)] → minBy (fun e => e.2.order) (outMoves s m.gallery false) = some (j, x) →
        Tab.get? s.rgs.moves j = some x → Tab.get? t.rgs.moves j = some { x with started := true })) ∧
  (∀ s n m, Tab.get? s.rgs.moves n = some m → m.kind = 2 → m.started = false → exec (.outMoveComplete n) s = .next s) ∧
  (∀ s n v tk a, Tab.get? s.rgs.tickets n = some tk → tk.state = .held a → a + 1 < leAt tk.desc 8 4 →
    ∃ t, exec (.ticketPost n v) s = .next t ∧
      Tab.get? t.rgs.tickets n = some { tk with desc := overlay tk.desc 56 (leBytes 8 v.toNat), state := .held (a + 1) } ∧ t.rgs.lists = s.rgs.lists) ∧
  (∀ s n v tk a, Tab.get? s.rgs.tickets n = some tk → tk.state = .held a → leAt tk.desc 8 4 ≤ a + 1 →
    ({ tk with desc := overlay tk.desc 56 (leBytes 8 v.toNat) } : Ticket).flow = none →
    ∃ t, exec (.ticketPost n v) s = .next t ∧ NowReady s t n { tk with desc := overlay tk.desc 56 (leBytes 8 v.toNat) }) ∧
  (∀ s n v, (∀ tk a, Tab.get? s.rgs.tickets n = some tk → tk.state ≠ .held a) →
    ∃ t, exec (.ticketPost n v) s = .next t ∧ t.rgs = s.rgs ∧
      hdr t 232 = captured { hdr s 232 with irqStat := (hdr s 232).irqStat ||| 0x400 } 0x21 (pageAddr 232 0x54)) ∧
  (∀ s p set n tk g k, registrarRefuses s = false → nextDispatch s = some (p, set, n) → Tab.get? s.rgs.tickets n = some tk →
    chooseCore s tk = some (g, k) →
    ∃ t, exec .ticketDispatch s = .next t ∧ Tab.get? t.rgs.tickets n = some { tk with state := .inService g k, dispatched := t.tsc } ∧
      Tab.getD t.rgs.lists (set * 8 + p) [] = (Tab.getD s.rgs.lists (set * 8 + p) []).tail ∧ t.rgs.lastGallery = g ∧
      bare (getCore t (.docent g k)) = bare { getCore s (.docent g k) with
        a := 0, mlo := 0, mhi := 0, z := false, n := false, c := false, v := false, mask := 0, lk := 0, products := [],
        pc := BitVec.ofNat 48 ((ctxCode s tk.ctx + 4 * ctxEntry s tk.ctx tk.entry) % 2 ^ 32), x := 0xFFC0, y := 0,
        g := BitVec.ofNat 48 (ctxG s tk.ctx), serving := some n, lastDomain := ctxDomain s tk.ctx, stopAt := none, stalled := false,
        key := 0, searching := none, result := none, postResult := 0 } ∧
      (Sound s → tk.desc.length = 64 →
        readMem t (docentLocalBase g k + 0xFFC0) 64 =
          overlay tk.desc 8 (leBytes 8 (tk.w1 - tk.w1 % 2 ^ 32 + k + g * 256 + if tk.redispatched > 0 then 4096 else 0))) ∧
      (Sound s → (getCore s (.docent g k)).lastDomain ≠ ctxDomain s tk.ctx →
        ∀ b, docentLocalBase g k ≤ b → b < docentLocalBase g k + 0xFFC0 → memGet t.mem b = 0)) ∧
  (∀ s, nextDispatch s = none → exec .ticketDispatch s = .next s) ∧
  (∀ s g k w n tk, Runs s (.docent g k) 0x2F {} w → w.disp.toNat < 0xFF → ServesQuietly s g k n tk →
    ∃ t, exec (.opEnd (.docent g k) w) s = .next t ∧ (getCore t (.docent g k)).serving = none ∧ (getCore t (.docent g k)).products = [] ∧
      (getCore t (.docent g k)).mlo = (found s (.docent g k)).drain.mlo ∧ Tab.get? t.rgs.tickets n = none ∧
      Tab.get? t.rgs.execs tk.exec = (Tab.get? s.rgs.execs tk.exec).map fun x =>
        { x with lastStatus := w.disp.toNat, failed := if 0x80 ≤ w.disp.toNat then satAdd 0xFFFFFFFF x.failed 1 else x.failed }) ∧
  (∀ s g k v n tk, v < 0xFF → ServesQuietly s g k n tk →
    ∃ t, exec (.ticketEnd g k v) s = .next t ∧ (getCore t (.docent g k)).serving = none ∧ Tab.get? t.rgs.tickets n = none ∧
      Tab.get? t.rgs.execs tk.exec = (Tab.get? s.rgs.execs tk.exec).map fun x =>
        { x with lastStatus := v, failed := if 0x80 ≤ v then satAdd 0xFFFFFFFF x.failed 1 else x.failed })

/-- Delay lists, budgets, fences, limits, cancels, contexts and the self-test (R425, R442 to R444, R453, R455 to R459, R461, R463). What rests on
the model's own readings and choices is in logs 29, 117, 119 and 120. -/
def Obligations.RegistrarCommands : Prop :=
  (∀ s i, regField s 235 (0x40 + 4 * i) 19 0 ≠ 0 →
    ∃ t, exec (.delayListTick i) s = .next t ∧ Tab.getD t.rgs.delays i {} = { Tab.getD s.rgs.delays i {} with
      ticks := ((Tab.getD s.rgs.delays i {}).ticks + 1) % 2 ^ 32, total := (Tab.getD s.rgs.delays i {}).total + 1 } ∧
      t.tsc = max s.tsc ((Tab.getD s.rgs.delays i {}).base + ((Tab.getD s.rgs.delays i {}).total + 1) * regField s 235 (0x40 + 4 * i) 19 0)) ∧
  (∀ s i n tk, expiredOn s i = [n] → Tab.get? s.rgs.tickets n = some tk → tk.flow = none →
    ∃ t, exec (.delayedTicketExpiry i) s = .next t ∧ NowReady s t n tk) ∧
  (∀ s i, expiredOn s i = [] → exec (.delayedTicketExpiry i) s = .next s) ∧
  (∀ s n tk g k, Tab.get? s.rgs.tickets n = some tk → tk.state = .inService g k → (getCore s (.docent g k)).stopAt = none →
    ∃ t, exec (.ticketBudgetExpiry n) s = .next t ∧ t.tsc = max s.tsc (tk.dispatched + ctxBudget s tk.ctx * 1000) ∧
      getCore t (.docent g k) = { getCore s (.docent g k) with stopAt := some t.tsc, stalled := false }) ∧
  (∀ s g k a n tk, (getCore s (.docent g k)).stopAt = some a → (getCore s (.docent g k)).serving = some n → Tab.get? s.rgs.tickets n = some tk →
    heldHalves s g k = [] → nbits tk.w1 45 44 = 0 →
    ∃ t, exec (.stopTimeoutFence g k) s = .next t ∧ t.tsc = max s.tsc (a + 2000) ∧ coreFenced t (.docent g k) = true ∧
      (getCore t (.docent g k)).serving = none ∧ (gal t g).spare = none ∧
      (gal t g).active = sortBy id ((gal s g).active.filter (· != k) ++ (gal s g).spare.toList) ∧
      (t.rgs.faults.head?).map (fun f => (f.code, f.gallery, f.core, f.pc, f.slot)) = some (0x80, g, k, (getCore s (.docent g k)).pc.toNat, n) ∧
      (hdr t 232).irqStat &&& 0x100 = 0x100 ∧
      (ctxIdempotent s tk.ctx = true → tk.redispatched < regField s 232 0x40 3 0 → execCancelled s tk.exec = false →
        Tab.get? t.rgs.tickets n = some { tk with state := .ready t.tsc, redispatched := tk.redispatched + 1 } ∧
          Tab.getD t.rgs.lists (listOf s tk) [] = n :: Tab.getD s.rgs.lists (listOf s tk) []) ∧
      (ctxIdempotent s tk.ctx = false → Tab.get? t.rgs.tickets n = none)) ∧
  (∀ s g k, coreFenced s (.docent g k) = true →
    ∃ t, exec (.fencedCoreRequest g k) s = .next t ∧ (gal t g).dropCaptured = true ∧
      getReg t 236 (0x80 + 4 * g) = word (min 0xFFFFFFFF ((getReg s 236 (0x80 + 4 * g)).toNat + 1)) ∧
      hdr t 232 = (if (gal s g).dropCaptured then hdr s 232
        else captured { hdr s 232 with irqStat := (hdr s 232).irqStat ||| 0x1000 } 0x23 (pageAddr 236 (0x80 + 4 * g)))) ∧
  (∀ s g k, coreFenced s (.docent g k) = false → exec (.fencedCoreRequest g k) s = .next s) ∧
  (∀ s e x, Tab.get? s.rgs.execs e = some x → x.cancel = none → ctxRunLimit s x.ctx ≠ 0 →
    ∃ t, exec (.runLimitExpiry e) s = .next t ∧ Tab.get? t.rgs.execs e = some { x with cancel := some .runLimit } ∧
      t.tsc = max s.tsc (x.start + ctxRunLimit s x.ctx * 1000000) ∧ (hdr t 232).irqStat &&& 0x800 = 0x800) ∧
  (∀ s e x, Tab.get? s.rgs.execs e = some x → ctxRunLimit s x.ctx = 0 → exec (.runLimitExpiry e) s = .next s) ∧
  (∀ s who v x, MayWrite s who 232 0x64 → bit v 31 = true → bits v 12 0 ≠ 0 → Tab.get? s.rgs.execs (bits v 12 0) = some x → x.cancel = none →
    ∃ t, exec (.rgsExecCancel who v) s = .next t ∧ Tab.get? t.rgs.execs (bits v 12 0) = some { x with cancel := some .register } ∧
      (hdr t 232).irqStat &&& 0x800 = 0x800) ∧
  (∀ s who v, MayWrite s who 232 0x64 → bit v 31 = true → bits v 12 0 = 0 ∨ Tab.get? s.rgs.execs (bits v 12 0) = none →
    exec (.rgsExecCancel who v) s = .next (setHdr 232 (fun h => captured h 0x24 (pageAddr 232 0x64)) s)) ∧
  (∀ s who v, MayWrite s who 232 0x68 → bit v 31 = true → slotWaits s (bits v 17 0) = true →
    ∃ t, exec (.rgsSlotCancel who v) s = .next t ∧ Tab.get? t.rgs.tickets (bits v 17 0) = none) ∧
  (∀ s who v, MayWrite s who 232 0x68 → bit v 31 = true → slotWaits s (bits v 17 0) = false →
    exec (.rgsSlotCancel who v) s = .next (setHdr 232 (fun h => captured h 0x24 (pageAddr 232 0x68)) s)) ∧
  (∀ s who rec, MayWrite s who 233 0x44 → rec = (upTo 32).flatMap (fun k => leBytes 4 (getReg s 233 (0x80 + 4 * k)).toNat) →
    contextRefused s (regField s 233 0x40 11 0) rec = false →
    ∃ t, exec (.contextWrite who) s = .next t ∧ Tab.get? t.rgs.contexts (regField s 233 0x40 11 0) = some (contextKept rec) ∧ getReg t 233 0x44 = 1) ∧
  (∀ s who rec, MayWrite s who 233 0x44 → rec = (upTo 32).flatMap (fun k => leBytes 4 (getReg s 233 (0x80 + 4 * k)).toNat) →
    contextRefused s (regField s 233 0x40 11 0) rec = true →
    ∃ t, exec (.contextWrite who) s = .next t ∧ t.rgs = s.rgs ∧ getReg t 233 0x44 = 0x101 ∧
      hdr t 232 = captured (hdr s 232) 0x25 (pageAddr 233 0x44)) ∧
  (∀ s who, MayWrite s who 233 0x44 →
    ∃ t, exec (.contextRead who) s = .next t ∧ t.rgs = s.rgs ∧ getReg t 233 0x44 = 2 ∧
      ∀ k, k < 32 → getReg t 233 (0x80 + 4 * k) = word (leAt (padTo 128 (Tab.getD s.rgs.contexts (regField s 233 0x40 11 0) [])) (4 * k) 4)) ∧
  (∀ s who i v, MayWrite s who 235 (0x40 + 4 * i) → delayedOn s i = [] → bits v 19 0 = 0 ∨ (50 ≤ bits v 19 0 ∧ bits v 19 0 ≤ 1000000) →
    ∃ t, exec (.delayListPeriodWrite who i v) s = .next t ∧ getReg t 235 (0x40 + 4 * i) = word (bits v 19 0) ∧
      Tab.get? t.rgs.delays i = some { base := s.tsc }) ∧
  (∀ s who i v, MayWrite s who 235 (0x40 + 4 * i) →
    delayedOn s i ≠ [] ∨ (bits v 19 0 ≠ 0 ∧ bits v 19 0 < 50) ∨ 1000000 < bits v 19 0 →
    exec (.delayListPeriodWrite who i v) s = .next (setHdr 232 (fun h => captured h 0x24 (pageAddr 235 (0x40 + 4 * i))) s)) ∧
  (∀ s g failed, ∃ t, exec (.gallerySelfTestDone g failed) s = .next t ∧ (gal t g).failedTest = failed ∧
    (∀ k ∈ (gal t g).active, k ∉ failed) ∧ (∀ k, (gal t g).spare = some k → k ∉ failed) ∧
    (∀ k ∈ (gal s g).active, k ∉ failed → k ∈ (gal t g).active) ∧
    (∀ k ∈ (gal s g).active, k ∈ failed → k ∈ (gal t g).fenced) ∧
    (∀ sp b, (gal s g).spare = some sp → sp ∉ failed → b ∈ (gal s g).active → b ∈ failed →
      sp ∈ (gal t g).active) ∧
    (∀ sp, (gal s g).spare = some sp → sp ∉ failed → (∀ b ∈ (gal s g).active, b ∉ failed) → (gal t g).spare = some sp) ∧
    (∀ k ∈ (gal s g).fenced, (gal s g).spare = none → k ∉ failed → ∃ j ∈ (gal s g).fenced, j ≤ k ∧ (gal t g).spare = some j) ∧
    (∀ k ∈ (gal s g).fenced, (gal t g).spare ≠ some k → k ∈ (gal t g).fenced))

/-- Key slots, the cipher engine, the digest engines, the fuses and the alarms (R530 to R533, R536 to R539, R544, R546, R547, R549 to R554, R559, R562 to
R568). What rests on the model's own readings and choices is in logs 18, 43, 44, 45, 46, 126, 127 and 153. -/
def Obligations.SecurityCommands : Prop :=
  (∀ s who cls kind len slot, MayWrite s who 250 0x40 → cls ≤ 1 → slotOutOfRange cls slot = false → s.sec.armed = true →
    (cls = 1 → slotInUse s slot = false) → kindLenOk cls kind len = true → equalHalves kind (drawRandom s len).1 = false →
    ∃ t k, exec (.keyGenerate who cls kind len slot) s = .next t ∧ Tab.get? t.sec.slots (slotIndex cls slot) = some k ∧
      k.kind = kind ∧ k.len = len ∧ k.key = (drawRandom s len).1 ∧ k.invoc = 0 ∧ t.sec.keyResult = 0 ∧ (hdr t 250).irqStat &&& 0x100 = 0x100) ∧
  (∀ s who cls slot, MayWrite s who 250 0x40 → cls ≤ 1 → slotOutOfRange cls slot = false → s.sec.armed = true →
    (cls = 1 → slotInUse s slot = false) →
    ∃ t, exec (.keyUnwrap who cls slot) s = .next t ∧
      (∀ l p, unwrapRecord s cls (keyWrapBytes s) (classLens cls) = some (l, p) → (p.getD (l + 1) 0).toNat = l →
        kindLenOk cls (p.getD l 0).toNat l = true → equalHalves (p.getD l 0).toNat (p.take l) = false →
        ∃ k, Tab.get? t.sec.slots (slotIndex cls slot) = some k ∧ k.kind = (p.getD l 0).toNat ∧ k.len = l ∧ k.key = p.take l ∧
          k.invoc = 0 ∧ t.sec.keyResult = 0) ∧
      (unwrapRecord s cls (keyWrapBytes s) (classLens cls) = none →
        t.sec = { s.sec with keyResult := 2 } ∧
          hdr t 250 = captured { hdr s 250 with irqStat := (hdr s 250).irqStat ||| 0x100 } 0x21 (pageAddr 250 0x40))) ∧
  (∀ s who cls slot, MayWrite s who 250 0x40 → cls ≤ 1 → slotOutOfRange cls slot = false → s.sec.armed = true →
    (cls = 1 → slotInUse s slot = false) →
    ∃ t, exec (.keyClear who cls slot) s = .next t ∧ Tab.get? t.sec.slots (slotIndex cls slot) = none ∧ t.sec.keyResult = 0 ∧
      ∀ j, j ≠ slotIndex cls slot → Tab.get? t.sec.slots j = Tab.get? s.sec.slots j) ∧
  (∀ s who slot, MayWrite s who 250 0x40 → slot ≤ 63 → s.sec.armed = true → slotInUse s slot = true →
    ∃ t, exec (.keyClear who 1 slot) s = .next t ∧ t.sec = { s.sec with keyResult := 5 }) ∧
  (∀ s who cls slot, MayWrite s who 250 0x40 → cls ≤ 1 → slotOutOfRange cls slot = false → s.sec.armed = true →
    ∃ t, exec (.keyStatus who cls slot) s = .next t ∧ t.sec = { s.sec with shown := keyShown cls slot s, keyResult := 0 }) ∧
  (∀ s who cls slot, MayWrite s who 250 0x40 → cls ≤ 1 → slotOutOfRange cls slot = false → s.sec.armed = false →
    ∃ t, exec (.keyStatus who cls slot) s = .next t ∧ t.sec = { s.sec with keyResult := 4 } ∧
      hdr t 250 = captured { hdr s 250 with irqStat := (hdr s 250).irqStat ||| 0x100 } 0x20 (pageAddr 250 0x40)) ∧
  (∀ s k, MayWrite s (.keeper k) 248 0x40 →
    exec (.sceAcquire k) s = .next (if s.sec.owner = 0xFF then { s with sec := { s.sec with owner := k } } else s)) ∧
  (∀ s k, MayWrite s (.keeper k) 248 0x40 → s.sec.owner = k →
    ∃ t, exec (.sceRelease k) s = .next t ∧ t.sec.owner = 0xFF ∧ t.sec.msg = none ∧
      (s.sec.msg ≠ none → t.sec.sceStatus = 0x15 ∧ (hdr t 248).irqStat &&& 0x200 = 0x200)) ∧
  (∀ s k, MayWrite s (.keeper k) 248 0x40 → s.sec.owner ≠ k → exec (.sceRelease k) s = .next s) ∧
  (∀ s who v, MayWrite s who 248 0x54 → bits v 31 16 = 0xF0CE → bit v 0 = true →
    ∃ t, exec (.sceForce who v) s = .next t ∧ t.sec.owner = 0xFF ∧ t.sec.msg = none) ∧
  (∀ s who v, MayWrite s who 248 0x54 → bits v 31 16 ≠ 0xF0CE ∨ bit v 0 = false → exec (.sceForce who v) s = .next s) ∧
  (∀ s k v key rd u, MayWrite s (.keeper k) 248 0x44 → s.sec.owner = k → s.sec.msg = none → (hdr s 249).quiesceReq = false →
    1 ≤ bits v 27 24 → bits v 27 24 ≤ 3 → (getReg s 248 0x4C).toNat ≠ 0 → sceSlot s (bits v 5 0) = some key →
    sceCheck (bits v 27 24) (bits v 5 0) (bit v 23) (bit v 22) (getReg s 248 0x4C).toNat (getReg s 248 0x50).toNat (regAddr s 248 0x60)
      (regAddr s 248 0x68) (if bit v 22 then 1 else ofBe ((regBlock s 248 0x80).drop 12)) s = 0 →
    busRead (regAddr s 248 0x60) (getReg s 248 0x4C).toNat (putReg 248 0x44 (v &&& sceCtrlBits) s) = (rd, u) → rd.code = 0 →
    ∃ t m, exec (.sceMessageStart k v) s = .next t ∧ t.sec.msg = some m ∧ m.slot = bits v 5 0 ∧ m.dst = regAddr s 248 0x68 ∧ m.status = 0 ∧
      m.bytes = (sceCompute (bits v 27 24) (bit v 23) key.key (sceIv (bits v 27 24) (bit v 22) key (regBlock s 248 0x80)) [] [] rd.bytes).2.1) ∧
  (∀ s k v, MayWrite s (.keeper k) 248 0x44 → s.sec.owner ≠ k →
    exec (.sceMessageStart k v) s = .next (setHdr 248 (fun h => captured h 0x20 (pageAddr 248 0x44)) s)) ∧
  (∀ s k v, MayWrite s (.keeper k) 248 0x44 → s.sec.owner = k → s.sec.msg ≠ none →
    exec (.sceMessageStart k v) s = .next (setHdr 248 (fun h => captured h 0x21 (pageAddr 248 0x44)) s)) ∧
  (∀ s m u, s.sec.msg = some m → m.status = 0 → m.bytes ≠ [] → busWrite m.dst m.bytes s = (0, u) →
    ∃ t, exec .sceMessageEnd s = .next t ∧ t.sec.msg = none ∧ t.sec.sceStatus = 0 ∧ t.mem = u.mem ∧ (hdr t 248).irqStat &&& 0x100 = 0x100) ∧
  (∀ s m, s.sec.msg = some m → m.status ≠ 0 →
    ∃ t, exec .sceMessageEnd s = .next t ∧ t.sec = { s.sec with msg := none, sceStatus := m.status } ∧ t.mem = s.mem ∧
      (m.status = 0x17 → regBlock t 248 0x80 = zeros 16 ∧ regBlock t 248 0x90 = zeros 16)) ∧
  (∀ s who e v, e < 2 → MayWrite s who 249 (dgeBase e) → (dge s e).busy = false → (hdr s 249).quiesceReq = false → 1 ≤ bits v 27 24 →
    bits v 27 24 ≤ 3 → bit v 23 = true → bit v 21 = true →
    ∃ t, exec (.dgeHashPart who e v) s = .next t ∧ dge t e = { dge s e with
      mode := bits v 27 24, chain := (shaOf (bits v 27 24)).init, outer := [], count := 0, part := [], busy := true, wordMode := true,
      last := bit v 22, status := 0 }) ∧
  (∀ s who e v, e < 2 → MayWrite s who 249 (dgeBase e) → (dge s e).busy = true → (hdr s 249).quiesceReq = false →
    ∃ t, exec (.dgeHashPart who e v) s = .next t ∧ dge t e = { dge s e with status := 0x10 } ∧
      (hdr t 249).irqStat &&& word (0x100 * 2 ^ e) = word (0x100 * 2 ^ e)) ∧
  (∀ s who e u, e < 2 → MayWrite s who 249 (dgeBase e) → (dge s e).busy = false → (dge s e).mode ≠ 0 → (dge s e).mode < 5 →
    regAddr s 249 (dgeBase e + 0x18) % 64 = 0 →
    busWrite (regAddr s 249 (dgeBase e + 0x18)) (dgeRecordHead (dge s e) [] ++ zeros 16) s = (0, u) →
    ∃ t, exec (.dgeSave who e) s = .next t ∧ t.mem = u.mem ∧ dge t e = { dge u e with status := 0 }) ∧
  (∀ s who e r u, e < 2 → MayWrite s who 249 (dgeBase e) → (dge s e).busy = false → regAddr s 249 (dgeBase e + 0x18) % 64 = 0 →
    busRead (regAddr s 249 (dgeBase e + 0x18)) 320 s = (r, u) → r.code = 0 → sliceBytes r.bytes 0 4 = ascii "QDGS" →
    1 ≤ leAt r.bytes 4 1 → leAt r.bytes 4 1 ≤ 3 → leAt r.bytes 5 1 % 2 = 0 →
    ∃ t, exec (.dgeRestore who e) s = .next t ∧ (dge t e).mode = leAt r.bytes 4 1 ∧ (dge t e).count = leAt r.bytes 8 8 ∧
      (dge t e).status = 0 ∧ (dge t e).part = sliceBytes (sliceBytes r.bytes 32 256) 128 (leAt r.bytes 6 1)) ∧
  (∀ s who e, e < 2 → MayWrite s who 249 (dgeBase e) → regAddr s 249 (dgeBase e + 0x18) % 64 ≠ 0 →
    ∃ t, exec (.dgeRestore who e) s = .next t ∧ dge t e = { dge s e with status := 0x10 }) ∧
  (∀ s e, e < 2 → (dge s e).busy = true → (dge s e).wordMode = false →
    ∃ t, exec (.dgePartEnd e) s = .next t ∧ (dge t e).busy = false ∧ (dge t e).status = 0 ∧
      ((dge s e).last = true → (dge t e).digest = ((dge s e).absorb (dge s e).input).digestOf) ∧
      ((dge s e).last = false → (dge t e).chain = ((dge s e).absorb (dge s e).input).chain ∧
        (dge t e).count = (dge s e).count + (dge s e).input.length)) ∧
  (∀ s who e v, e < 2 → MayWrite s who 249 (dgeBase e + 0x20) → (dge s e).busy = true → (dge s e).wordMode = true →
    ∃ t, exec (.dgeData who e v) s = .next t ∧ dge t e = (dge s e).absorb (beBytes 4 v.toNat)) ∧
  (∀ s who e v, e < 2 → MayWrite s who 249 (dgeBase e + 0x28) → (dge s e).busy = true → (dge s e).wordMode = true → (dge s e).last = true →
    ∃ t, exec (.dgeLast who e v) s = .next t ∧ (dge t e).busy = false ∧ (dge t e).status = 0 ∧
      (dge t e).digest = ((dge s e).absorb ((beBytes 4 v.toNat).take (regField s 249 (dgeBase e + 0x24) 2 0))).digestOf) ∧
  (∀ s who v, MayWrite s who 251 0xD0 → (∃ j, j < 4 ∧ bit v j = false ∧ j ∉ s.fuses.revoked) →
    ∃ t, exec (.keyPkRevoke who v) s = .next t ∧ ∀ j, j ∈ t.fuses.revoked ↔ j < 4 ∧ (bit v j = true ∨ j ∈ s.fuses.revoked)) ∧
  (∀ s who v, MayWrite s who 251 0xD0 → (∀ j, j < 4 → bit v j = true ∨ j ∈ s.fuses.revoked) →
    exec (.keyPkRevoke who v) s = .next (setHdr 251 (fun h => captured h 0x24 (pageAddr 251 0xD0)) s)) ∧
  (∀ s who v, MayWrite s who 250 0x58 → s.fuses.rollback ≤ bits v 5 0 →
    exec (.keyRollback who v) s = .next { s with fuses := { s.fuses with rollback := bits v 5 0 } }) ∧
  (∀ s who v, MayWrite s who 250 0x58 → bits v 5 0 < s.fuses.rollback →
    exec (.keyRollback who v) s = .next (setHdr 250 (fun h => captured h 0x24 (pageAddr 250 0x58)) s)) ∧
  (∀ s ev, s.sec.msg = none → (∀ c ∈ s.flash.chans, ∀ o ∈ c.2.queue, o.desc.xts = false) → Settled s →
    ∃ t, exec (.securityAlarm ev) s = .next t ∧ t.sec.slots = [] ∧ t.sec.armed = false ∧ t.sec.owner = 0xFF ∧ t.sec.dge0.mode = 0 ∧
      t.sec.dge1.mode = 0 ∧ ev.source ∈ t.sec.latched ∧ t.sec.count = min 255 (s.sec.count + 1) ∧ t.sec.lastSource = ev.source ∧
      t.sec.lastDetector = ev.detector ∧ t.sec.lastTsc = s.tsc ∧ (hdr t 2).irqStat &&& 0x100 = 0x100 ∧
      t.sec.log.head? = some { tsc := s.tsc, source := ev.source, detector := ev.detector, outcome := 0, owner := s.sec.owner, tscRearm := 0 }) ∧
  (∀ s who, MayWrite s who 2 0x48 → s.sec.live = [] → s.sec.count < 8 → s.sec.fuseAlarm = false →
    ∃ t, exec (.almRearm who) s = .next t ∧ t.sec.armed = true ∧ t.sec.latched = [] ∧ t.sec.rearmResult = 0 ∧
      (hdr t 2).irqStat &&& 0x200 = 0x200) ∧
  (∀ s who, MayWrite s who 2 0x48 → s.sec.live = [] → 8 ≤ s.sec.count →
    ∃ t, exec (.almRearm who) s = .next t ∧ t.sec.armed = s.sec.armed ∧ t.sec.latched = s.sec.latched ∧ t.sec.rearmResult = 2)

/-- A post from a fenced core is dropped at its isolation gate and reaches no channel: no channel, no core, no byte of memory changes (R580). -/
def Obligations.FencedPostIsDropped : Prop :=
  ∀ s c n v, coreFenced s c = true →
    ∃ t, exec (.mailboxPost c n v) s = .next t ∧ t.mbx = s.mbx ∧ (∀ d, getCore t d = getCore s d) ∧ t.mem = s.mem ∧ t.out = s.out

/-- Mailbox channels and performance counters (R572 to R576, R580, R582, R586, R587, R590, R591, R592, R594, R595). What rests on the model's own
readings and choices is in logs 29, 67 and 129. -/
def Obligations.MailboxAndCounterCommands : Prop :=
  (∀ s c n v, coreFenced s c = false → Tab.get? s.mbx n = none → ringsOfChannel s n = [] →
    ∃ t, exec (.mailboxPost c n v) s = .next t ∧ Tab.get? t.mbx n = some { word := v, stamp := c.stamp, since := s.tsc } ∧
      (c.isKeeper = false → (getCore t c).postResult = word (n * 65536 + 1)) ∧ ∀ m, m ≠ n → Tab.get? t.mbx m = Tab.get? s.mbx m) ∧
  (∀ s c n v m, coreFenced s c = false → Tab.get? s.mbx n = some m → ringsOfChannel s n = [] →
    ∃ t, exec (.mailboxPost c n v) s = .next t ∧ t.mbx = s.mbx ∧ (c.isKeeper = false → (getCore t c).postResult = word (n * 65536 + 2)) ∧
      hdr t 252 = captured { hdr s 252 with irqStat := (hdr s 252).irqStat ||| 0x200 } 0x20 (pageAddr (mbxPage n) (mbxBase n))) ∧
  (∀ s c n m, coreFenced s c = false → Tab.get? s.mbx n = some m →
    ∃ t, exec (.mailboxTake c n) s = .next t ∧ Tab.get? t.mbx n = none ∧
      t.out = s.out ++ [.coreRead (2 ^ 63 + m.stamp * 2 ^ 32 + m.word.toNat)]) ∧
  (∀ s c n, coreFenced s c = false → Tab.get? s.mbx n = none → exec (.mailboxTake c n) s = .next (emit (.coreRead 0) s)) ∧
  (∀ s n m, Tab.get? s.mbx n = some m → m.timedOut = false → bits (mbxCfg s n) 15 0 ≠ 0 →
    ∃ t, exec (.mailboxTimeout n) s = .next t ∧ Tab.get? t.mbx n = some { m with timedOut := true } ∧
      t.tsc = max s.tsc (m.since + bits (mbxCfg s n) 15 0 * 1000) ∧
      hdr t 252 = captured { hdr s 252 with irqStat := (hdr s 252).irqStat ||| 0x100 } 0x21 (pageAddr (mbxPage n) (mbxBase n + 4))) ∧
  (∀ s n, bits (mbxCfg s n) 15 0 = 0 → exec (.mailboxTimeout n) s = .next s) ∧
  (∀ s c n m, coreFenced s c = false → Tab.get? s.mbx n = some m → m.stamp = c.stamp →
    ∃ t, exec (.mailboxRecall c n) s = .next t ∧ Tab.get? t.mbx n = none ∧ hdr t 252 = hdr s 252) ∧
  (∀ s c n, coreFenced s c = false → (∀ m, Tab.get? s.mbx n = some m → m.stamp ≠ c.stamp) →
    exec (.mailboxRecall c n) s = .next (setHdr 252 (fun h => captured h 0x23 (pageAddr (mbxPage n) (mbxBase n))) s)) ∧
  (∀ s g k, coreFenced s (.docent g k) = false →
    exec (.postResultRead g k) s = .next (emit (.coreRead (getCore s (.docent g k)).postResult.toNat) s)) ∧
  (∀ s who n v, n < 512 → MayWrite s who (mbxPage n) (mbxBase n) → bits v 31 30 ≠ 3 → (bits v 31 30 = 1 → bits v 19 16 ≤ 3) →
    (bits v 31 30 = 2 → islandPresent s (.gallery (bits v 19 16)) = true) →
    ∃ t, exec (.mailboxConfigWrite who n v) s = .next t ∧ mbxCfg t n = v &&& 0xC00FFFFF ∧
      ∀ m, Tab.get? s.mbx n = some m → Tab.get? t.mbx n = some { m with since := s.tsc }) ∧
  (∀ s who n v, n < 512 → MayWrite s who (mbxPage n) (mbxBase n) → bits v 31 30 = 3 ∨ (bits v 31 30 = 1 ∧ 3 < bits v 19 16) →
    exec (.mailboxConfigWrite who n v) s = .next (setHdr 252 (fun h => captured h 0x24 (pageAddr (mbxPage n) (mbxBase n))) s)) ∧
  (∀ s who v, MayWrite s who 256 0x40 →
    ∃ t, exec (.pmcSelect who v) s = .next t ∧ getReg t 256 0x40 = v &&& 0x1F1F ∧
      hdr t 256 = (if coreExists s (pmcCore t) = true then hdr s 256 else captured (hdr s 256) 0x22 (pageAddr 256 0x40))) ∧
  (∀ s who high v, MayWrite s who 256 (if high then 0x4C else 0x48) → coreExists s (pmcCore s) = true →
    ∃ t, exec (.pmcEventSelect who high v) s = .next t ∧ ∀ j, j < 4 →
      Tab.getD (getCore t (pmcCore s)).pmcSel (j + if high then 4 else 0) 0 =
        if bits v (8 * j + 7) (8 * j) ≤ 0x17 then bits v (8 * j + 7) (8 * j)
        else Tab.getD (getCore s (pmcCore s)).pmcSel (j + if high then 4 else 0) 0) ∧
  (∀ s who v, MayWrite s who 256 0x9C → coreExists s (pmcCore s) = true →
    ∃ t, exec (.pmcClear who v) s = .next t ∧ (getCore t (pmcCore s)).pmcCycles = (if bit v 8 then 0 else (getCore s (pmcCore s)).pmcCycles) ∧
      ∀ i, i < 8 → Tab.getD (getCore t (pmcCore s)).pmc i 0 = if bit v i then 0 else Tab.getD (getCore s (pmcCore s)).pmc i 0) ∧
  (∀ s c i, Tab.getD (getCore s c).pmc i 0 + 1 = 2 ^ 48 →
    ∃ t, exec (.pmcCounterWrap c i) s = .next t ∧ Tab.get? (getCore t c).pmc i = some 0 ∧
      (getCore t c).pmcOvf = (getCore s c).pmcOvf ||| BitVec.ofNat 8 (2 ^ i) ∧
      (pmcCore s = c → (hdr t 256).irqStat &&& 0x100 = 0x100)) ∧
  (∀ s c i, Tab.getD (getCore s c).pmc i 0 + 1 ≠ 2 ^ 48 → exec (.pmcCounterWrap c i) s = .next s) ∧
  (∀ s g k instr lat f, Sound s → g < 16 → regField s 257 (0x44 + 16 * g) 19 0 ≠ 0 → regBit s 257 (0x40 + 16 * g) k = true →
    (getCore s (.docent g k)).sampleLeft = 0 →
    ∃ t, exec (.pmcSample g k instr lat f) s = .next t ∧
      readMem t (galleryShareBase g + 0x1FF000 + 16 * ((getReg s 257 (0x48 + 16 * g)).toNat % 256)) 16 =
        leBytes 4 (getCore s (.docent g k)).pc.toNat ++ leBytes 4 instr ++ leBytes 2 (min 0xFFFF lat) ++ leBytes 1 k ++ leBytes 1 (flag f) ++
          leBytes 4 s.tsc ∧
      getReg t 257 (0x48 + 16 * g) = getReg s 257 (0x48 + 16 * g) + 1 ∧
      regField s 257 (0x44 + 16 * g) 19 0 ≤ (getCore t (.docent g k)).sampleLeft ∧
      (getCore t (.docent g k)).sampleLeft ≤ regField s 257 (0x44 + 16 * g) 19 0 + 15) ∧
  (∀ s g k instr lat f, (getCore s (.docent g k)).sampleLeft ≠ 0 → exec (.pmcSample g k instr lat f) s = .next s)

/-- Power of islands, power states, the watchdog, the recovery ladder and the test access port (R24, R51, R124 to R126, R596, R597, R600 to R606, R613,
R614, R619 to R621, R636). What rests on the model's own readings and choices is in logs 29, 34, 78, 79, 80, 104, 105, 106, 151 and 153. -/
def Obligations.PowerStatesAndTestPort : Prop :=
  (∀ s who n i, MayWrite s who 1 (0x100 + 4 * n) → islandOfSensor n = some i → switchable i = true → islandPresent s i = true →
    (isl s i).power ≠ 0 → (hdr s i.primary).quiesced = true → (∀ c, i = .compress c → (isl s (.compress (1 - c))).power ≠ 0) →
    ∃ t, exec (.islandPowerOff who n) s = .next t ∧ (isl t i).power = 0 ∧ (hdr t 1).irqStat &&& 0x400 = 0x400) ∧
  (∀ s who n i, MayWrite s who 1 (0x100 + 4 * n) → islandOfSensor n = some i → switchable i = true → islandPresent s i = true →
    (isl s i).power ≠ 0 → (hdr s i.primary).quiesced = false →
    exec (.islandPowerOff who n) s = .next (setHdr 1 (fun h => captured h 0x21 (pageAddr 1 (0x100 + 4 * n))) s)) ∧
  (∀ s who n i, MayWrite s who 1 (0x100 + 4 * n) → islandOfSensor n = some i → switchable i = true → islandPresent s i = true →
    (isl s i).power = 0 → pagePresent s i.primary = true →
    ∃ t, exec (.islandPowerOn who n) s = .next t ∧ (isl t i).power = 1 ∧ (hdr t i.primary).busy = true ∧ (hdr t 1).irqStat &&& 0x400 = 0x400) ∧
  (∀ s who n, MayWrite s who 1 (0x100 + 4 * n) → (∀ i, islandOfSensor n = some i → switchable i = false ∨ islandPresent s i = false) →
    exec (.islandPowerOn who n) s = .next (setHdr 1 (fun h => captured h 0x20 (pageAddr 1 (0x100 + 4 * n))) s)) ∧
  (∀ s, s.pwr.ps < 3 → s.pwr.started = true → s.pwr.pfailN = true → s.pwr.busy = false → wantedState s = 3 → quietEnough s = true →
    channelsIdle s = true →
    ∃ t, exec (.psEntry 3) s = .next t ∧ t.pwr.ps = 3 ∧ t.pwr.busy = false ∧ t.pwr.sleptAt = s.tsc ∧ (hdr t 1).irqStat &&& 0x100 = 0x100 ∧
      ∀ i ∈ presentIslands s, i ≠ .alwaysOn → (isl s i).power = 2 → (isl t i).power = 3) ∧
  (∀ s, s.pwr.ps < 3 → s.pwr.started = true → s.pwr.pfailN = true → s.pwr.busy = false → wantedState s = 4 → quietEnough s = true →
    channelsIdle s = true → allDurable s = true →
    ∃ t, exec (.psEntry 4) s = .next t ∧ t.pwr.ps = 4 ∧ t.pwr.busy = false ∧ t.pwr.saved ≠ none ∧ t.gals = [] ∧ t.kprs = [] ∧
      t.sec.slots = [] ∧ t.sec.armed = false ∧ t.pwr.ret = retentionOn s ∧
      ∀ i ∈ presentIslands s, i ≠ .alwaysOn → (isl t i).power = 0) ∧
  (∀ s u, s.pwr.ps = 3 → s.pwr.started = true → s.pwr.pfailN = true → s.pwr.busy = false → wantedState s = 4 → quietEnough s = true →
    channelsIdle s = true → allDurable s = true → u = leavePs3 (ageForSleep s) →
    ∃ t, exec (.psEntry 4) s = .next t ∧ t.pwr.ps = 4 ∧ t.pwr.busy = false ∧ t.pwr.sleptAt = s.tsc ∧ t.pwr.ret = retentionOn u ∧
      t.cur.sets = u.cur.sets ∧ ∀ i ∈ presentIslands s, i ≠ .alwaysOn → (isl t i).power = 0) ∧
  (∀ s, s.pwr.started = true → s.pwr.pfailN = true → s.pwr.busy = true → s.pwr.target = 3 → wantedState s < 3 →
    exec (.psEntry 3) s = .next { s with pwr := { s.pwr with busy := false, target := s.pwr.ps } }) ∧
  (∀ s n, n = 3 ∨ n = 4 → s.pwr.ps < 3 → s.pwr.started = true → s.pwr.pfailN = true → s.pwr.busy = false → wantedState s = n →
    quietEnough s = true → channelsIdle s = false →
    exec (.psEntry n) s = .next { s with pwr := { s.pwr with busy := true, target := n } }) ∧
  (∀ s n, s.pwr.busy = false → wantedState s ≠ n ∨ quietEnough s = false → exec (.psEntry n) s = .next s) ∧
  (∀ s n, n ≤ 2 → s.pwr.ps ≤ 2 → s.pwr.busy = false → wantedState s = n →
    ∃ t, exec (.operationalStateChange n) s = .next t ∧ t.pwr.ps = n ∧ (∀ i ∈ presentIslands s, (isl t i).psLevel = psLevelOf n i) ∧
      (s.pwr.ps ≠ n → (hdr t 1).irqStat &&& 0x100 = 0x100)) ∧
  (∀ s, s.pwr.ps = 3 → s.pwr.busy = false → exitWanted s = true →
    ∃ u, exec .psExit s = .next (serveWoken s u) ∧ u.pwr.ps = exitState s ∧ u.pwr.exitAfter = false ∧
      (∀ i ∈ presentIslands s, (isl s i).power = 3 → (isl u i).power = 2) ∧
      ∀ n x, Tab.get? s.cur.sets n = some x → x.state ≠ .open → Tab.get? u.cur.sets n = some { x with age := x.age +
        (s.pwr.sleptWeight + ((s.tsc - s.pwr.sleptAt) / (3600 * 10 ^ 9) - s.pwr.sleptHours) * sleepWeight s) }) ∧
  (∀ s, exitWanted s = false → exec .psExit s = .next s ∧ exec .ps4Exit s = .next s) ∧
  (∀ s, s.pwr.ps = 4 → exitWanted s = true → s.sec.latched = [] → s.sec.fuseAlarm = false →
    ∃ u, exec .ps4Exit s = .next (serveWoken s u) ∧ u.pwr.ps = exitState s ∧ u.pwr.saved = none ∧ u.sec.armed = true ∧
      ∀ i ∈ presentIslands s, (isl u i).power = if switchedOff s i then 0 else 2) ∧
  (∀ s c e, e = (ctlOf s c).apst.getD s.pwr.ps 0 → (ctlOf s c).enabled = true → ctlFeat s c 0x0C 0 0 % 2 = 1 → e / 256 % 2 ^ 24 ≠ 0 →
    2 < e / 8 % 32 → (∀ k ∈ s.acc.cmds, k.ref.ctl = c → k.ref.sq = 0 ∧ k.opcode = 0x0C) →
    ∃ t, exec (.apstTransition c) s = .next t ∧ ctlOf t c = { ctlOf s c with apstState := some (e / 8 % 32) } ∧
      t.tsc = max s.tsc ((ctlOf s c).idleSince + e / 256 % 2 ^ 24 * 1000000)) ∧
  (∀ s who v, MayWrite s who 1 0x48 → bits v 31 16 = 0xA5D0 → bit v 0 = true → s.pwr.on = true → s.pwr.resetDump = none → s.pwr.started = true →
    ∃ t, exec (.pwrDevReset who v) s = .next t ∧ t.pwr.resetDump = some .keeper ∧ t.pwr.inReset = true) ∧
  (∀ s who v, MayWrite s who 1 0x48 → bits v 31 16 ≠ 0xA5D0 →
    exec (.pwrDevReset who v) s = .next (setHdr 1 (fun h => captured h 0x23 (pageAddr 1 0x48)) s)) ∧
  (∀ s who, MayWrite s who 1 0x4C →
    ∃ t, exec (.kwdogKick who) s = .next t ∧ t.pwr = { s.pwr with kicked := s.tsc } ∧ regField t 1 0x4C 15 0 = regField s 1 0x4C 15 0) ∧
  (∀ s, regField s 1 0x4C 15 0 ≠ 0 → s.pwr.started = true → s.pwr.ps < 3 → pagePresent s 224 = true →
    (s.pwr.expiries.filter fun x => decide (max s.tsc (s.pwr.kicked + regField s 1 0x4C 15 0 * 1000000) < x + 3600 * 10 ^ 9)).length < 2 →
    ∃ t, exec .kwdogExpiry s = .next t ∧ t.tsc = max s.tsc (s.pwr.kicked + regField s 1 0x4C 15 0 * 1000000) ∧ t.pwr.kicked = t.tsc ∧
      t.pwr.expiries.getLast? = some t.tsc ∧ (hdr t 224).busy = true ∧ (hdr t 1).irqStat &&& 0x200 = 0x200) ∧
  (∀ s, regField s 1 0x4C 15 0 ≠ 0 → s.pwr.started = true → s.pwr.ps < 3 → s.pwr.on = true → s.pwr.resetDump = none →
    2 ≤ (s.pwr.expiries.filter fun x => decide (max s.tsc (s.pwr.kicked + regField s 1 0x4C 15 0 * 1000000) < x + 3600 * 10 ^ 9)).length →
    ∃ t, exec .kwdogExpiry s = .next t ∧ t.pwr.resetDump = some .kwdog ∧ t.pwr.expiries = []) ∧
  (∀ s n i, islandOfSensor n = some i → i ≠ .alwaysOn → islandPresent s i = true → (hdr s i.primary).errCode ≠ 0 →
    (hdr s i.primary).quiesced = false → (hdr s i.primary).quiesceReq = false →
    ((isl s i).autoReinits.filter fun x => decide (s.tsc ≤ x + 3600 * 10 ^ 9)).length < 3 →
    ∃ t, exec (.keeperAutoReinit n) s = .next t ∧ (isl t i).epoch = (isl s i).epoch + 1 ∧
      (isl t i).autoReinits = ((isl s i).autoReinits.filter fun x => decide (s.tsc ≤ x + 3600 * 10 ^ 9)) ++ [s.tsc]) ∧
  (∀ s n i, islandOfSensor n = some i → i ≠ .alwaysOn → islandPresent s i = true → (hdr s i.primary).errCode ≠ 0 →
    (hdr s i.primary).quiesced = false → (hdr s i.primary).quiesceReq = false →
    3 ≤ ((isl s i).autoReinits.filter fun x => decide (s.tsc ≤ x + 3600 * 10 ^ 9)).length →
    ∃ t, exec (.keeperAutoReinit n) s = .next t ∧ (isl t i).epoch = (isl s i).epoch ∧
      ((hdr t i.primary).quiesceReq = true ↔ i ≠ .keeper ∧ pagePresent s i.primary = true) ∧
      (t.adm.islandRecords.getLast?).map (·.sensor) = some n) ∧
  (∀ s n i mv, islandOfSensor n = some i → islandPresent s i = true →
    exec (.supplySetpointRaise n mv) s = .next (setIsl i (fun h => { h with ageMv := min 30 (h.ageMv + mv) }) s)) ∧
  (∀ s, exec .tapReset s = .next { s with tap := {} }) ∧
  (∀ s, s.pwr.on = true →
    exec .tapIdcode s = .next { s with
      out := s.out ++ [.tdo (bitsLsb (idcode s) 32)], tap := { instr := .idcode, shift := bitsLsb (idcode s) 32, cells := s.tap.cells } }) ∧
  (∀ s, s.pwr.on = true →
    exec .tapBypass s = .next { s with
      out := s.out ++ [.tdo [false]], tap := { instr := .bypass, shift := [false], cells := s.tap.cells } }) ∧
  (∀ s pins cells, s.pwr.on = true →
    exec (.tapSamplePreload pins cells) s = .next { s with
      out := s.out ++ [.tdo pins], tap := { instr := .samplePreload, shift := pins, cells := cells } }) ∧
  (∀ s pins cells, s.pwr.on = true →
    exec (.tapExtest pins cells) s = .next { s with
      out := s.out ++ [.tdo pins], tap := { instr := .extest, shift := pins, cells := cells, driving := true } }) ∧
  (∀ s, s.pwr.on = true →
    exec .tapHighz s = .next { s with
      out := s.out ++ [.tdo [false]], tap := { instr := .highz, shift := [false], cells := s.tap.cells, floating := true } }) ∧
  (∀ s, s.pwr.on = true →
    exec .tapClamp s = .next { s with
      out := s.out ++ [.tdo [false]], tap := { instr := .clamp, shift := [false], cells := s.tap.cells, driving := true } }) ∧
  (∀ s cells, s.pwr.on = true →
    ∃ t, exec (.tapExtestPulse cells) s = .next t ∧ t.tap.instr = .extestPulse ∧ t.tap.cells = cells ∧ t.tap.driving = true ∧
      t.tap.shift.length = cells.length) ∧
  (∀ s cells, s.pwr.on = true →
    ∃ t, exec (.tapExtestTrain cells) s = .next t ∧ t.tap.instr = .extestTrain ∧ t.tap.cells = cells ∧ t.tap.driving = true ∧
      t.tap.shift.length = cells.length)

/-- A step takes the command at the front of the queue and runs it on the state with the rest. That an empty queue is a tick of the TSC is the
model's choice (log 5). -/
def Obligations.StepRunsTheFrontCommand : Prop :=
  (∀ s c rest, s.pending = c :: rest → step s = exec c { s with pending := rest }) ∧
  (∀ s, s.pending = [] → step s = .next { s with tsc := (s.tsc + 1) % 2 ^ 64 })

/-- What reset leaves (R9, R20, R404, R411, R547, R568, R620): sound memory, no command, no value sent, every register at its reset value, no core
running, and the registers of galleries, the cipher engine, the alarms and the mailboxes as the rules give them. That unwritten memory reads 0,
that the queue and what was sent are empty, and the values of registers whose reset the rules do not give are the model's choice (logs 2, 8, 12). -/
def Obligations.ResetLeaves : Prop :=
  Sound State.reset ∧ State.reset.pending = [] ∧ State.reset.out = [] ∧ State.reset.tsc = 0 ∧
    (∀ page off, getReg State.reset page off = regReset page off) ∧
    (∀ g, (gal State.reset g).active = [0, 1, 2, 3, 4, 5, 6, 7, 8, 9, 10, 11, 12, 13, 14, 15] ∧ (gal State.reset g).fenced = [] ∧
      (gal State.reset g).spare = some 16) ∧
    State.reset.sec.owner = 0xFF ∧ State.reset.sec.armed = false ∧ State.reset.sec.count = 0 ∧ State.reset.sec.lastSource = 0xFF ∧
    State.reset.pwr.ps = 0 ∧ State.reset.pwr.cause = .powerOn ∧ (∀ n, mbxStat State.reset n = 0) ∧
    ∀ c, coreRuns State.reset c = false

/-- Every command of the table completes in every state: none stops the block (R25, R30, R640). What rests on the model's own readings and choices
is in logs 11 and 28. -/
def Obligations.NoCommandStops : Prop := ∀ c s, answersNext (exec c s)

/-- The invariant of the data: every step keeps the memory in its canonical form, its addresses strictly rising and no zero byte listed. -/
def Obligations.StepsKeepMemorySound : Prop := ∀ s t, Sound s → step s = .next t → Sound t

/-- The words of the cores (R365, R366, R372): a word read as an instruction of a core and written again is the word, and an instruction of a
core written and read again is the instruction, with every field at every value. -/
def Obligations.CoreWordsRoundTrip : Prop :=
  (∀ c v, instrEncode (coreInstr c v) = some v ∧ instrCore (coreInstr c v) = some c) ∧
  (∀ i c, instrCore i = some c → (instrEncode i).map (coreInstr c) = some i) ∧
  (∀ i, instrCore i = none → instrEncode i = none)

/-- The frame of every command: where it completes, every part of the state outside its footprint is as it was. A command with which requests
that stand in a crossing are served (R23, R24) may change, besides, what such a request may change; with no request in a crossing it changes
its footprint alone. No command changes the queue of commands that wait, what boot finds, or, but for the port's own and a power-on, the test access port. Each of
the parts is one kind of state: memory, register pages and islands, links, controllers, flash, the Curator, cores and galleries, and so on. -/
def Obligations.CommandFrames : Prop :=
  (∀ c s t, exec c s = .next t → servesCrossing c = false ∨ s.fab.requests = [] → ∀ p, p ∉ footprint c → Part.same s t p) ∧
  (∀ c s t, exec c s = .next t → ∀ p, p ∉ footprint c → p ∉ servedParts → Part.same s t p) ∧
  (∀ c, .pending ∉ footprint c) ∧ .pending ∉ servedParts

end Statements
end

