-- ==== Sys2Proof/Laws/Lanes.lean ====
section
/-! SUPPORT. Lanes of the accumulator: what a lane reads after lanes were written (R360 to R363). -/

namespace Sys2Proof.Machine

theorem laneAt_testBit (v : BitVec 512) (w j i : Nat) : (laneAt v w j).testBit i = (decide (i < w) && v.getLsbD (j * w + i)) := by
  unfold laneAt
  rw [Nat.testBit_mod_two_pow, Nat.testBit_shiftRight]
  rfl

theorem setLane_getLsbD (v : BitVec 512) (w j x i : Nat) (hi : i < 512) :
    (setLane v w j x).getLsbD i =
      if j * w ≤ i ∧ i < j * w + w then (decide (i - j * w < w) && x.testBit (i - j * w)) else v.getLsbD i := by
  unfold setLane
  have hm : (BitVec.ofNat 512 ((2 ^ w - 1) <<< (j * w))).getLsbD i = (decide (j * w ≤ i) && decide (i - j * w < w)) := by
    rw [BitVec.getLsbD_ofNat, Nat.testBit_shiftLeft, Nat.testBit_two_pow_sub_one]
    simp [hi]
  have hx : (BitVec.ofNat 512 ((x % 2 ^ w) <<< (j * w))).getLsbD i = (decide (j * w ≤ i) && (decide (i - j * w < w) && x.testBit (i - j * w))) := by
    rw [BitVec.getLsbD_ofNat, Nat.testBit_shiftLeft, Nat.testBit_mod_two_pow]
    simp [hi]
  rw [BitVec.getLsbD_or, BitVec.getLsbD_and, BitVec.getLsbD_not, hm, hx]
  by_cases h1 : j * w ≤ i
  · by_cases h2 : i < j * w + w
    · have h3 : i - j * w < w := by omega
      simp [h1, h2, h3, hi]
    · have h3 : ¬ i - j * w < w := by omega
      simp [h1, h2, h3, hi]
  · simp [h1, hi]

/-- The lane that was written reads as written. -/
theorem laneAt_setLane_same (v : BitVec 512) (w j x : Nat) (h : j * w + w ≤ 512) : laneAt (setLane v w j x) w j = x % 2 ^ w := by
  apply Nat.eq_of_testBit_eq
  intro i
  rw [laneAt_testBit, Nat.testBit_mod_two_pow]
  by_cases hi : i < w
  · rw [setLane_getLsbD _ _ _ _ _ (by omega)]
    have h1 : j * w ≤ j * w + i ∧ j * w + i < j * w + w := by omega
    have h2 : j * w + i - j * w = i := by omega
    simp [h1, h2, hi]
  · simp [hi]

/-- Every other lane reads as before. -/
theorem laneAt_setLane_ne (v : BitVec 512) (w j k x : Nat) (h : k ≠ j) (hk : k * w + w ≤ 512) :
    laneAt (setLane v w j x) w k = laneAt v w k := by
  apply Nat.eq_of_testBit_eq
  intro i
  rw [laneAt_testBit, laneAt_testBit]
  by_cases hi : i < w
  · rw [setLane_getLsbD _ _ _ _ _ (by omega)]
    have h1 : ¬ (j * w ≤ k * w + i ∧ k * w + i < j * w + w) := by
      rintro ⟨h1, h2⟩
      rcases Nat.lt_or_gt_of_ne h with h3 | h3
      · have := Nat.mul_le_mul_right w (show k + 1 ≤ j from h3)
        rw [Nat.add_mul] at this
        omega
      · have := Nat.mul_le_mul_right w (show j + 1 ≤ k from h3)
        rw [Nat.add_mul] at this
        omega
    simp [h1]
  · simp [hi]

/-- What writing lanes leaves in each lane: the new value where the lane is listed and not masked off, else the old one. -/
theorem laneAt_writeLanes (a : BitVec 512) (mask : BitVec 64) (masked : Bool) (w : Nat) (lanes : List Nat) (f : Nat → Nat) (k : Nat)
    (hk : k * w + w ≤ 512) :
    laneAt (writeLanes a mask masked w lanes f) w k =
      if k ∈ lanes ∧ (masked = true → mask.getLsbD k = true) then f k % 2 ^ w else laneAt a w k := by
  induction lanes generalizing a with
  | nil => simp [writeLanes]
  | cons j js ih =>
    have step : writeLanes a mask masked w (j :: js) f =
        writeLanes (if masked && !mask.getLsbD j then a else setLane a w j (f j)) mask masked w js f := rfl
    rw [step, ih]
    by_cases hjs : k ∈ js ∧ (masked = true → mask.getLsbD k = true)
    · have : k ∈ j :: js := List.mem_cons_of_mem _ hjs.1
      rw [if_pos hjs, if_pos ⟨this, hjs.2⟩]
    · rw [if_neg hjs]
      by_cases hkj : k = j
      · subst hkj
        by_cases hm : masked = true → mask.getLsbD k = true
        · have hc : (masked && !mask.getLsbD k) = false := by
            cases masked <;> simp_all
          rw [hc, if_pos (And.intro (List.mem_cons_self ..) hm)]
          exact laneAt_setLane_same _ _ _ _ hk
        · have hc : (masked && !mask.getLsbD k) = true := by
            cases masked <;> simp_all
          have hn : ¬ (k ∈ k :: js ∧ (masked = true → mask.getLsbD k = true)) := fun h => hm h.2
          rw [hc, if_neg hn]
          rfl
      · have hne : ¬ (k ∈ j :: js ∧ (masked = true → mask.getLsbD k = true)) := by
          rintro ⟨h1, h2⟩
          rcases List.mem_cons.mp h1 with h3 | h3
          · exact hkj h3
          · exact hjs ⟨h3, h2⟩
        rw [if_neg hne]
        split
        · rfl
        · exact laneAt_setLane_ne _ _ _ _ _ hkj hk

/-- A lane below the lane count lies within the accumulator. -/
theorem lane_fits (sz : BitVec 2) (k : Nat) (h : k < laneCount (laneWidth sz)) : k * laneWidth sz + laneWidth sz ≤ 512 := by
  have h2 : (k + 1) * laneWidth sz ≤ 512 := by
    have h3 : k + 1 ≤ 512 / laneWidth sz := h
    exact Nat.le_trans (Nat.mul_le_mul_right _ h3) (Nat.div_mul_le_self 512 (laneWidth sz))
  rw [Nat.add_mul] at h2
  omega

end Sys2Proof.Machine
end

