-- ==== Sys2Proof/Laws/State.lean ====
section
/-! SUPPORT. What each update of the state leaves in each field: one lemma for each field and each update. -/

namespace Sys2Proof.Machine

/-! ## setLinkSt -/

@[simp] theorem setLinkSt_pending (f : HostLink → HostLink) (s : State) : (setLinkSt f s).pending = s.pending := (rfl)
@[simp] theorem setLinkSt_out (f : HostLink → HostLink) (s : State) : (setLinkSt f s).out = s.out := (rfl)
@[simp] theorem setLinkSt_tsc (f : HostLink → HostLink) (s : State) : (setLinkSt f s).tsc = s.tsc := (rfl)
@[simp] theorem setLinkSt_free (f : HostLink → HostLink) (s : State) : (setLinkSt f s).free = s.free := (rfl)
@[simp] theorem setLinkSt_fuses (f : HostLink → HostLink) (s : State) : (setLinkSt f s).fuses = s.fuses := (rfl)
@[simp] theorem setLinkSt_boot (f : HostLink → HostLink) (s : State) : (setLinkSt f s).boot = s.boot := (rfl)
@[simp] theorem setLinkSt_fab (f : HostLink → HostLink) (s : State) : (setLinkSt f s).fab = s.fab := (rfl)
@[simp] theorem setLinkSt_link (f : HostLink → HostLink) (s : State) : (setLinkSt f s).link = f s.link := (rfl)
@[simp] theorem setLinkSt_acc (f : HostLink → HostLink) (s : State) : (setLinkSt f s).acc = s.acc := (rfl)
@[simp] theorem setLinkSt_adm (f : HostLink → HostLink) (s : State) : (setLinkSt f s).adm = s.adm := (rfl)
@[simp] theorem setLinkSt_flash (f : HostLink → HostLink) (s : State) : (setLinkSt f s).flash = s.flash := (rfl)
@[simp] theorem setLinkSt_cur (f : HostLink → HostLink) (s : State) : (setLinkSt f s).cur = s.cur := (rfl)
@[simp] theorem setLinkSt_care (f : HostLink → HostLink) (s : State) : (setLinkSt f s).care = s.care := (rfl)
@[simp] theorem setLinkSt_cmp (f : HostLink → HostLink) (s : State) : (setLinkSt f s).cmp = s.cmp := (rfl)
@[simp] theorem setLinkSt_gals (f : HostLink → HostLink) (s : State) : (setLinkSt f s).gals = s.gals := (rfl)
@[simp] theorem setLinkSt_kprs (f : HostLink → HostLink) (s : State) : (setLinkSt f s).kprs = s.kprs := (rfl)
@[simp] theorem setLinkSt_rgs (f : HostLink → HostLink) (s : State) : (setLinkSt f s).rgs = s.rgs := (rfl)
@[simp] theorem setLinkSt_cat (f : HostLink → HostLink) (s : State) : (setLinkSt f s).cat = s.cat := (rfl)
@[simp] theorem setLinkSt_mbx (f : HostLink → HostLink) (s : State) : (setLinkSt f s).mbx = s.mbx := (rfl)
@[simp] theorem setLinkSt_dram (f : HostLink → HostLink) (s : State) : (setLinkSt f s).dram = s.dram := (rfl)
@[simp] theorem setLinkSt_sec (f : HostLink → HostLink) (s : State) : (setLinkSt f s).sec = s.sec := (rfl)
@[simp] theorem setLinkSt_pwr (f : HostLink → HostLink) (s : State) : (setLinkSt f s).pwr = s.pwr := (rfl)
@[simp] theorem setLinkSt_tap (f : HostLink → HostLink) (s : State) : (setLinkSt f s).tap = s.tap := (rfl)
@[simp] theorem setLinkSt_mem (f : HostLink → HostLink) (s : State) : (setLinkSt f s).mem = s.mem := (rfl)

/-! ## setAcc -/

@[simp] theorem setAcc_pending (f : Accession → Accession) (s : State) : (setAcc f s).pending = s.pending := (rfl)
@[simp] theorem setAcc_out (f : Accession → Accession) (s : State) : (setAcc f s).out = s.out := (rfl)
@[simp] theorem setAcc_tsc (f : Accession → Accession) (s : State) : (setAcc f s).tsc = s.tsc := (rfl)
@[simp] theorem setAcc_free (f : Accession → Accession) (s : State) : (setAcc f s).free = s.free := (rfl)
@[simp] theorem setAcc_fuses (f : Accession → Accession) (s : State) : (setAcc f s).fuses = s.fuses := (rfl)
@[simp] theorem setAcc_boot (f : Accession → Accession) (s : State) : (setAcc f s).boot = s.boot := (rfl)
@[simp] theorem setAcc_fab (f : Accession → Accession) (s : State) : (setAcc f s).fab = s.fab := (rfl)
@[simp] theorem setAcc_link (f : Accession → Accession) (s : State) : (setAcc f s).link = s.link := (rfl)
@[simp] theorem setAcc_acc (f : Accession → Accession) (s : State) : (setAcc f s).acc = f s.acc := (rfl)
@[simp] theorem setAcc_adm (f : Accession → Accession) (s : State) : (setAcc f s).adm = s.adm := (rfl)
@[simp] theorem setAcc_flash (f : Accession → Accession) (s : State) : (setAcc f s).flash = s.flash := (rfl)
@[simp] theorem setAcc_cur (f : Accession → Accession) (s : State) : (setAcc f s).cur = s.cur := (rfl)
@[simp] theorem setAcc_care (f : Accession → Accession) (s : State) : (setAcc f s).care = s.care := (rfl)
@[simp] theorem setAcc_cmp (f : Accession → Accession) (s : State) : (setAcc f s).cmp = s.cmp := (rfl)
@[simp] theorem setAcc_gals (f : Accession → Accession) (s : State) : (setAcc f s).gals = s.gals := (rfl)
@[simp] theorem setAcc_kprs (f : Accession → Accession) (s : State) : (setAcc f s).kprs = s.kprs := (rfl)
@[simp] theorem setAcc_rgs (f : Accession → Accession) (s : State) : (setAcc f s).rgs = s.rgs := (rfl)
@[simp] theorem setAcc_cat (f : Accession → Accession) (s : State) : (setAcc f s).cat = s.cat := (rfl)
@[simp] theorem setAcc_mbx (f : Accession → Accession) (s : State) : (setAcc f s).mbx = s.mbx := (rfl)
@[simp] theorem setAcc_dram (f : Accession → Accession) (s : State) : (setAcc f s).dram = s.dram := (rfl)
@[simp] theorem setAcc_sec (f : Accession → Accession) (s : State) : (setAcc f s).sec = s.sec := (rfl)
@[simp] theorem setAcc_pwr (f : Accession → Accession) (s : State) : (setAcc f s).pwr = s.pwr := (rfl)
@[simp] theorem setAcc_tap (f : Accession → Accession) (s : State) : (setAcc f s).tap = s.tap := (rfl)
@[simp] theorem setAcc_mem (f : Accession → Accession) (s : State) : (setAcc f s).mem = s.mem := (rfl)

/-! ## setAdm -/

@[simp] theorem setAdm_pending (f : Admin → Admin) (s : State) : (setAdm f s).pending = s.pending := (rfl)
@[simp] theorem setAdm_out (f : Admin → Admin) (s : State) : (setAdm f s).out = s.out := (rfl)
@[simp] theorem setAdm_tsc (f : Admin → Admin) (s : State) : (setAdm f s).tsc = s.tsc := (rfl)
@[simp] theorem setAdm_free (f : Admin → Admin) (s : State) : (setAdm f s).free = s.free := (rfl)
@[simp] theorem setAdm_fuses (f : Admin → Admin) (s : State) : (setAdm f s).fuses = s.fuses := (rfl)
@[simp] theorem setAdm_boot (f : Admin → Admin) (s : State) : (setAdm f s).boot = s.boot := (rfl)
@[simp] theorem setAdm_fab (f : Admin → Admin) (s : State) : (setAdm f s).fab = s.fab := (rfl)
@[simp] theorem setAdm_link (f : Admin → Admin) (s : State) : (setAdm f s).link = s.link := (rfl)
@[simp] theorem setAdm_acc (f : Admin → Admin) (s : State) : (setAdm f s).acc = s.acc := (rfl)
@[simp] theorem setAdm_adm (f : Admin → Admin) (s : State) : (setAdm f s).adm = f s.adm := (rfl)
@[simp] theorem setAdm_flash (f : Admin → Admin) (s : State) : (setAdm f s).flash = s.flash := (rfl)
@[simp] theorem setAdm_cur (f : Admin → Admin) (s : State) : (setAdm f s).cur = s.cur := (rfl)
@[simp] theorem setAdm_care (f : Admin → Admin) (s : State) : (setAdm f s).care = s.care := (rfl)
@[simp] theorem setAdm_cmp (f : Admin → Admin) (s : State) : (setAdm f s).cmp = s.cmp := (rfl)
@[simp] theorem setAdm_gals (f : Admin → Admin) (s : State) : (setAdm f s).gals = s.gals := (rfl)
@[simp] theorem setAdm_kprs (f : Admin → Admin) (s : State) : (setAdm f s).kprs = s.kprs := (rfl)
@[simp] theorem setAdm_rgs (f : Admin → Admin) (s : State) : (setAdm f s).rgs = s.rgs := (rfl)
@[simp] theorem setAdm_cat (f : Admin → Admin) (s : State) : (setAdm f s).cat = s.cat := (rfl)
@[simp] theorem setAdm_mbx (f : Admin → Admin) (s : State) : (setAdm f s).mbx = s.mbx := (rfl)
@[simp] theorem setAdm_dram (f : Admin → Admin) (s : State) : (setAdm f s).dram = s.dram := (rfl)
@[simp] theorem setAdm_sec (f : Admin → Admin) (s : State) : (setAdm f s).sec = s.sec := (rfl)
@[simp] theorem setAdm_pwr (f : Admin → Admin) (s : State) : (setAdm f s).pwr = s.pwr := (rfl)
@[simp] theorem setAdm_tap (f : Admin → Admin) (s : State) : (setAdm f s).tap = s.tap := (rfl)
@[simp] theorem setAdm_mem (f : Admin → Admin) (s : State) : (setAdm f s).mem = s.mem := (rfl)

/-! ## setFlash -/

@[simp] theorem setFlash_pending (f : Flash → Flash) (s : State) : (setFlash f s).pending = s.pending := (rfl)
@[simp] theorem setFlash_out (f : Flash → Flash) (s : State) : (setFlash f s).out = s.out := (rfl)
@[simp] theorem setFlash_tsc (f : Flash → Flash) (s : State) : (setFlash f s).tsc = s.tsc := (rfl)
@[simp] theorem setFlash_free (f : Flash → Flash) (s : State) : (setFlash f s).free = s.free := (rfl)
@[simp] theorem setFlash_fuses (f : Flash → Flash) (s : State) : (setFlash f s).fuses = s.fuses := (rfl)
@[simp] theorem setFlash_boot (f : Flash → Flash) (s : State) : (setFlash f s).boot = s.boot := (rfl)
@[simp] theorem setFlash_fab (f : Flash → Flash) (s : State) : (setFlash f s).fab = s.fab := (rfl)
@[simp] theorem setFlash_link (f : Flash → Flash) (s : State) : (setFlash f s).link = s.link := (rfl)
@[simp] theorem setFlash_acc (f : Flash → Flash) (s : State) : (setFlash f s).acc = s.acc := (rfl)
@[simp] theorem setFlash_adm (f : Flash → Flash) (s : State) : (setFlash f s).adm = s.adm := (rfl)
@[simp] theorem setFlash_flash (f : Flash → Flash) (s : State) : (setFlash f s).flash = f s.flash := (rfl)
@[simp] theorem setFlash_cur (f : Flash → Flash) (s : State) : (setFlash f s).cur = s.cur := (rfl)
@[simp] theorem setFlash_care (f : Flash → Flash) (s : State) : (setFlash f s).care = s.care := (rfl)
@[simp] theorem setFlash_cmp (f : Flash → Flash) (s : State) : (setFlash f s).cmp = s.cmp := (rfl)
@[simp] theorem setFlash_gals (f : Flash → Flash) (s : State) : (setFlash f s).gals = s.gals := (rfl)
@[simp] theorem setFlash_kprs (f : Flash → Flash) (s : State) : (setFlash f s).kprs = s.kprs := (rfl)
@[simp] theorem setFlash_rgs (f : Flash → Flash) (s : State) : (setFlash f s).rgs = s.rgs := (rfl)
@[simp] theorem setFlash_cat (f : Flash → Flash) (s : State) : (setFlash f s).cat = s.cat := (rfl)
@[simp] theorem setFlash_mbx (f : Flash → Flash) (s : State) : (setFlash f s).mbx = s.mbx := (rfl)
@[simp] theorem setFlash_dram (f : Flash → Flash) (s : State) : (setFlash f s).dram = s.dram := (rfl)
@[simp] theorem setFlash_sec (f : Flash → Flash) (s : State) : (setFlash f s).sec = s.sec := (rfl)
@[simp] theorem setFlash_pwr (f : Flash → Flash) (s : State) : (setFlash f s).pwr = s.pwr := (rfl)
@[simp] theorem setFlash_tap (f : Flash → Flash) (s : State) : (setFlash f s).tap = s.tap := (rfl)
@[simp] theorem setFlash_mem (f : Flash → Flash) (s : State) : (setFlash f s).mem = s.mem := (rfl)

/-! ## setCur -/

@[simp] theorem setCur_pending (f : Curator → Curator) (s : State) : (setCur f s).pending = s.pending := (rfl)
@[simp] theorem setCur_out (f : Curator → Curator) (s : State) : (setCur f s).out = s.out := (rfl)
@[simp] theorem setCur_tsc (f : Curator → Curator) (s : State) : (setCur f s).tsc = s.tsc := (rfl)
@[simp] theorem setCur_free (f : Curator → Curator) (s : State) : (setCur f s).free = s.free := (rfl)
@[simp] theorem setCur_fuses (f : Curator → Curator) (s : State) : (setCur f s).fuses = s.fuses := (rfl)
@[simp] theorem setCur_boot (f : Curator → Curator) (s : State) : (setCur f s).boot = s.boot := (rfl)
@[simp] theorem setCur_fab (f : Curator → Curator) (s : State) : (setCur f s).fab = s.fab := (rfl)
@[simp] theorem setCur_link (f : Curator → Curator) (s : State) : (setCur f s).link = s.link := (rfl)
@[simp] theorem setCur_acc (f : Curator → Curator) (s : State) : (setCur f s).acc = s.acc := (rfl)
@[simp] theorem setCur_adm (f : Curator → Curator) (s : State) : (setCur f s).adm = s.adm := (rfl)
@[simp] theorem setCur_flash (f : Curator → Curator) (s : State) : (setCur f s).flash = s.flash := (rfl)
@[simp] theorem setCur_cur (f : Curator → Curator) (s : State) : (setCur f s).cur = f s.cur := (rfl)
@[simp] theorem setCur_care (f : Curator → Curator) (s : State) : (setCur f s).care = s.care := (rfl)
@[simp] theorem setCur_cmp (f : Curator → Curator) (s : State) : (setCur f s).cmp = s.cmp := (rfl)
@[simp] theorem setCur_gals (f : Curator → Curator) (s : State) : (setCur f s).gals = s.gals := (rfl)
@[simp] theorem setCur_kprs (f : Curator → Curator) (s : State) : (setCur f s).kprs = s.kprs := (rfl)
@[simp] theorem setCur_rgs (f : Curator → Curator) (s : State) : (setCur f s).rgs = s.rgs := (rfl)
@[simp] theorem setCur_cat (f : Curator → Curator) (s : State) : (setCur f s).cat = s.cat := (rfl)
@[simp] theorem setCur_mbx (f : Curator → Curator) (s : State) : (setCur f s).mbx = s.mbx := (rfl)
@[simp] theorem setCur_dram (f : Curator → Curator) (s : State) : (setCur f s).dram = s.dram := (rfl)
@[simp] theorem setCur_sec (f : Curator → Curator) (s : State) : (setCur f s).sec = s.sec := (rfl)
@[simp] theorem setCur_pwr (f : Curator → Curator) (s : State) : (setCur f s).pwr = s.pwr := (rfl)
@[simp] theorem setCur_tap (f : Curator → Curator) (s : State) : (setCur f s).tap = s.tap := (rfl)
@[simp] theorem setCur_mem (f : Curator → Curator) (s : State) : (setCur f s).mem = s.mem := (rfl)

/-! ## setCare -/

@[simp] theorem setCare_pending (f : Care → Care) (s : State) : (setCare f s).pending = s.pending := (rfl)
@[simp] theorem setCare_out (f : Care → Care) (s : State) : (setCare f s).out = s.out := (rfl)
@[simp] theorem setCare_tsc (f : Care → Care) (s : State) : (setCare f s).tsc = s.tsc := (rfl)
@[simp] theorem setCare_free (f : Care → Care) (s : State) : (setCare f s).free = s.free := (rfl)
@[simp] theorem setCare_fuses (f : Care → Care) (s : State) : (setCare f s).fuses = s.fuses := (rfl)
@[simp] theorem setCare_boot (f : Care → Care) (s : State) : (setCare f s).boot = s.boot := (rfl)
@[simp] theorem setCare_fab (f : Care → Care) (s : State) : (setCare f s).fab = s.fab := (rfl)
@[simp] theorem setCare_link (f : Care → Care) (s : State) : (setCare f s).link = s.link := (rfl)
@[simp] theorem setCare_acc (f : Care → Care) (s : State) : (setCare f s).acc = s.acc := (rfl)
@[simp] theorem setCare_adm (f : Care → Care) (s : State) : (setCare f s).adm = s.adm := (rfl)
@[simp] theorem setCare_flash (f : Care → Care) (s : State) : (setCare f s).flash = s.flash := (rfl)
@[simp] theorem setCare_cur (f : Care → Care) (s : State) : (setCare f s).cur = s.cur := (rfl)
@[simp] theorem setCare_care (f : Care → Care) (s : State) : (setCare f s).care = f s.care := (rfl)
@[simp] theorem setCare_cmp (f : Care → Care) (s : State) : (setCare f s).cmp = s.cmp := (rfl)
@[simp] theorem setCare_gals (f : Care → Care) (s : State) : (setCare f s).gals = s.gals := (rfl)
@[simp] theorem setCare_kprs (f : Care → Care) (s : State) : (setCare f s).kprs = s.kprs := (rfl)
@[simp] theorem setCare_rgs (f : Care → Care) (s : State) : (setCare f s).rgs = s.rgs := (rfl)
@[simp] theorem setCare_cat (f : Care → Care) (s : State) : (setCare f s).cat = s.cat := (rfl)
@[simp] theorem setCare_mbx (f : Care → Care) (s : State) : (setCare f s).mbx = s.mbx := (rfl)
@[simp] theorem setCare_dram (f : Care → Care) (s : State) : (setCare f s).dram = s.dram := (rfl)
@[simp] theorem setCare_sec (f : Care → Care) (s : State) : (setCare f s).sec = s.sec := (rfl)
@[simp] theorem setCare_pwr (f : Care → Care) (s : State) : (setCare f s).pwr = s.pwr := (rfl)
@[simp] theorem setCare_tap (f : Care → Care) (s : State) : (setCare f s).tap = s.tap := (rfl)
@[simp] theorem setCare_mem (f : Care → Care) (s : State) : (setCare f s).mem = s.mem := (rfl)

/-! ## setCmp -/

@[simp] theorem setCmp_pending (f : Compress → Compress) (s : State) : (setCmp f s).pending = s.pending := (rfl)
@[simp] theorem setCmp_out (f : Compress → Compress) (s : State) : (setCmp f s).out = s.out := (rfl)
@[simp] theorem setCmp_tsc (f : Compress → Compress) (s : State) : (setCmp f s).tsc = s.tsc := (rfl)
@[simp] theorem setCmp_free (f : Compress → Compress) (s : State) : (setCmp f s).free = s.free := (rfl)
@[simp] theorem setCmp_fuses (f : Compress → Compress) (s : State) : (setCmp f s).fuses = s.fuses := (rfl)
@[simp] theorem setCmp_boot (f : Compress → Compress) (s : State) : (setCmp f s).boot = s.boot := (rfl)
@[simp] theorem setCmp_fab (f : Compress → Compress) (s : State) : (setCmp f s).fab = s.fab := (rfl)
@[simp] theorem setCmp_link (f : Compress → Compress) (s : State) : (setCmp f s).link = s.link := (rfl)
@[simp] theorem setCmp_acc (f : Compress → Compress) (s : State) : (setCmp f s).acc = s.acc := (rfl)
@[simp] theorem setCmp_adm (f : Compress → Compress) (s : State) : (setCmp f s).adm = s.adm := (rfl)
@[simp] theorem setCmp_flash (f : Compress → Compress) (s : State) : (setCmp f s).flash = s.flash := (rfl)
@[simp] theorem setCmp_cur (f : Compress → Compress) (s : State) : (setCmp f s).cur = s.cur := (rfl)
@[simp] theorem setCmp_care (f : Compress → Compress) (s : State) : (setCmp f s).care = s.care := (rfl)
@[simp] theorem setCmp_cmp (f : Compress → Compress) (s : State) : (setCmp f s).cmp = f s.cmp := (rfl)
@[simp] theorem setCmp_gals (f : Compress → Compress) (s : State) : (setCmp f s).gals = s.gals := (rfl)
@[simp] theorem setCmp_kprs (f : Compress → Compress) (s : State) : (setCmp f s).kprs = s.kprs := (rfl)
@[simp] theorem setCmp_rgs (f : Compress → Compress) (s : State) : (setCmp f s).rgs = s.rgs := (rfl)
@[simp] theorem setCmp_cat (f : Compress → Compress) (s : State) : (setCmp f s).cat = s.cat := (rfl)
@[simp] theorem setCmp_mbx (f : Compress → Compress) (s : State) : (setCmp f s).mbx = s.mbx := (rfl)
@[simp] theorem setCmp_dram (f : Compress → Compress) (s : State) : (setCmp f s).dram = s.dram := (rfl)
@[simp] theorem setCmp_sec (f : Compress → Compress) (s : State) : (setCmp f s).sec = s.sec := (rfl)
@[simp] theorem setCmp_pwr (f : Compress → Compress) (s : State) : (setCmp f s).pwr = s.pwr := (rfl)
@[simp] theorem setCmp_tap (f : Compress → Compress) (s : State) : (setCmp f s).tap = s.tap := (rfl)
@[simp] theorem setCmp_mem (f : Compress → Compress) (s : State) : (setCmp f s).mem = s.mem := (rfl)

/-! ## setRgs -/

@[simp] theorem setRgs_pending (f : Registrar → Registrar) (s : State) : (setRgs f s).pending = s.pending := (rfl)
@[simp] theorem setRgs_out (f : Registrar → Registrar) (s : State) : (setRgs f s).out = s.out := (rfl)
@[simp] theorem setRgs_tsc (f : Registrar → Registrar) (s : State) : (setRgs f s).tsc = s.tsc := (rfl)
@[simp] theorem setRgs_free (f : Registrar → Registrar) (s : State) : (setRgs f s).free = s.free := (rfl)
@[simp] theorem setRgs_fuses (f : Registrar → Registrar) (s : State) : (setRgs f s).fuses = s.fuses := (rfl)
@[simp] theorem setRgs_boot (f : Registrar → Registrar) (s : State) : (setRgs f s).boot = s.boot := (rfl)
@[simp] theorem setRgs_fab (f : Registrar → Registrar) (s : State) : (setRgs f s).fab = s.fab := (rfl)
@[simp] theorem setRgs_link (f : Registrar → Registrar) (s : State) : (setRgs f s).link = s.link := (rfl)
@[simp] theorem setRgs_acc (f : Registrar → Registrar) (s : State) : (setRgs f s).acc = s.acc := (rfl)
@[simp] theorem setRgs_adm (f : Registrar → Registrar) (s : State) : (setRgs f s).adm = s.adm := (rfl)
@[simp] theorem setRgs_flash (f : Registrar → Registrar) (s : State) : (setRgs f s).flash = s.flash := (rfl)
@[simp] theorem setRgs_cur (f : Registrar → Registrar) (s : State) : (setRgs f s).cur = s.cur := (rfl)
@[simp] theorem setRgs_care (f : Registrar → Registrar) (s : State) : (setRgs f s).care = s.care := (rfl)
@[simp] theorem setRgs_cmp (f : Registrar → Registrar) (s : State) : (setRgs f s).cmp = s.cmp := (rfl)
@[simp] theorem setRgs_gals (f : Registrar → Registrar) (s : State) : (setRgs f s).gals = s.gals := (rfl)
@[simp] theorem setRgs_kprs (f : Registrar → Registrar) (s : State) : (setRgs f s).kprs = s.kprs := (rfl)
@[simp] theorem setRgs_rgs (f : Registrar → Registrar) (s : State) : (setRgs f s).rgs = f s.rgs := (rfl)
@[simp] theorem setRgs_cat (f : Registrar → Registrar) (s : State) : (setRgs f s).cat = s.cat := (rfl)
@[simp] theorem setRgs_mbx (f : Registrar → Registrar) (s : State) : (setRgs f s).mbx = s.mbx := (rfl)
@[simp] theorem setRgs_dram (f : Registrar → Registrar) (s : State) : (setRgs f s).dram = s.dram := (rfl)
@[simp] theorem setRgs_sec (f : Registrar → Registrar) (s : State) : (setRgs f s).sec = s.sec := (rfl)
@[simp] theorem setRgs_pwr (f : Registrar → Registrar) (s : State) : (setRgs f s).pwr = s.pwr := (rfl)
@[simp] theorem setRgs_tap (f : Registrar → Registrar) (s : State) : (setRgs f s).tap = s.tap := (rfl)
@[simp] theorem setRgs_mem (f : Registrar → Registrar) (s : State) : (setRgs f s).mem = s.mem := (rfl)

/-! ## setCat -/

@[simp] theorem setCat_pending (f : Catalogue → Catalogue) (s : State) : (setCat f s).pending = s.pending := (rfl)
@[simp] theorem setCat_out (f : Catalogue → Catalogue) (s : State) : (setCat f s).out = s.out := (rfl)
@[simp] theorem setCat_tsc (f : Catalogue → Catalogue) (s : State) : (setCat f s).tsc = s.tsc := (rfl)
@[simp] theorem setCat_free (f : Catalogue → Catalogue) (s : State) : (setCat f s).free = s.free := (rfl)
@[simp] theorem setCat_fuses (f : Catalogue → Catalogue) (s : State) : (setCat f s).fuses = s.fuses := (rfl)
@[simp] theorem setCat_boot (f : Catalogue → Catalogue) (s : State) : (setCat f s).boot = s.boot := (rfl)
@[simp] theorem setCat_fab (f : Catalogue → Catalogue) (s : State) : (setCat f s).fab = s.fab := (rfl)
@[simp] theorem setCat_link (f : Catalogue → Catalogue) (s : State) : (setCat f s).link = s.link := (rfl)
@[simp] theorem setCat_acc (f : Catalogue → Catalogue) (s : State) : (setCat f s).acc = s.acc := (rfl)
@[simp] theorem setCat_adm (f : Catalogue → Catalogue) (s : State) : (setCat f s).adm = s.adm := (rfl)
@[simp] theorem setCat_flash (f : Catalogue → Catalogue) (s : State) : (setCat f s).flash = s.flash := (rfl)
@[simp] theorem setCat_cur (f : Catalogue → Catalogue) (s : State) : (setCat f s).cur = s.cur := (rfl)
@[simp] theorem setCat_care (f : Catalogue → Catalogue) (s : State) : (setCat f s).care = s.care := (rfl)
@[simp] theorem setCat_cmp (f : Catalogue → Catalogue) (s : State) : (setCat f s).cmp = s.cmp := (rfl)
@[simp] theorem setCat_gals (f : Catalogue → Catalogue) (s : State) : (setCat f s).gals = s.gals := (rfl)
@[simp] theorem setCat_kprs (f : Catalogue → Catalogue) (s : State) : (setCat f s).kprs = s.kprs := (rfl)
@[simp] theorem setCat_rgs (f : Catalogue → Catalogue) (s : State) : (setCat f s).rgs = s.rgs := (rfl)
@[simp] theorem setCat_cat (f : Catalogue → Catalogue) (s : State) : (setCat f s).cat = f s.cat := (rfl)
@[simp] theorem setCat_mbx (f : Catalogue → Catalogue) (s : State) : (setCat f s).mbx = s.mbx := (rfl)
@[simp] theorem setCat_dram (f : Catalogue → Catalogue) (s : State) : (setCat f s).dram = s.dram := (rfl)
@[simp] theorem setCat_sec (f : Catalogue → Catalogue) (s : State) : (setCat f s).sec = s.sec := (rfl)
@[simp] theorem setCat_pwr (f : Catalogue → Catalogue) (s : State) : (setCat f s).pwr = s.pwr := (rfl)
@[simp] theorem setCat_tap (f : Catalogue → Catalogue) (s : State) : (setCat f s).tap = s.tap := (rfl)
@[simp] theorem setCat_mem (f : Catalogue → Catalogue) (s : State) : (setCat f s).mem = s.mem := (rfl)

/-! ## setSec -/

@[simp] theorem setSec_pending (f : Security → Security) (s : State) : (setSec f s).pending = s.pending := (rfl)
@[simp] theorem setSec_out (f : Security → Security) (s : State) : (setSec f s).out = s.out := (rfl)
@[simp] theorem setSec_tsc (f : Security → Security) (s : State) : (setSec f s).tsc = s.tsc := (rfl)
@[simp] theorem setSec_free (f : Security → Security) (s : State) : (setSec f s).free = s.free := (rfl)
@[simp] theorem setSec_fuses (f : Security → Security) (s : State) : (setSec f s).fuses = s.fuses := (rfl)
@[simp] theorem setSec_boot (f : Security → Security) (s : State) : (setSec f s).boot = s.boot := (rfl)
@[simp] theorem setSec_fab (f : Security → Security) (s : State) : (setSec f s).fab = s.fab := (rfl)
@[simp] theorem setSec_link (f : Security → Security) (s : State) : (setSec f s).link = s.link := (rfl)
@[simp] theorem setSec_acc (f : Security → Security) (s : State) : (setSec f s).acc = s.acc := (rfl)
@[simp] theorem setSec_adm (f : Security → Security) (s : State) : (setSec f s).adm = s.adm := (rfl)
@[simp] theorem setSec_flash (f : Security → Security) (s : State) : (setSec f s).flash = s.flash := (rfl)
@[simp] theorem setSec_cur (f : Security → Security) (s : State) : (setSec f s).cur = s.cur := (rfl)
@[simp] theorem setSec_care (f : Security → Security) (s : State) : (setSec f s).care = s.care := (rfl)
@[simp] theorem setSec_cmp (f : Security → Security) (s : State) : (setSec f s).cmp = s.cmp := (rfl)
@[simp] theorem setSec_gals (f : Security → Security) (s : State) : (setSec f s).gals = s.gals := (rfl)
@[simp] theorem setSec_kprs (f : Security → Security) (s : State) : (setSec f s).kprs = s.kprs := (rfl)
@[simp] theorem setSec_rgs (f : Security → Security) (s : State) : (setSec f s).rgs = s.rgs := (rfl)
@[simp] theorem setSec_cat (f : Security → Security) (s : State) : (setSec f s).cat = s.cat := (rfl)
@[simp] theorem setSec_mbx (f : Security → Security) (s : State) : (setSec f s).mbx = s.mbx := (rfl)
@[simp] theorem setSec_dram (f : Security → Security) (s : State) : (setSec f s).dram = s.dram := (rfl)
@[simp] theorem setSec_sec (f : Security → Security) (s : State) : (setSec f s).sec = f s.sec := (rfl)
@[simp] theorem setSec_pwr (f : Security → Security) (s : State) : (setSec f s).pwr = s.pwr := (rfl)
@[simp] theorem setSec_tap (f : Security → Security) (s : State) : (setSec f s).tap = s.tap := (rfl)
@[simp] theorem setSec_mem (f : Security → Security) (s : State) : (setSec f s).mem = s.mem := (rfl)

/-! ## setPwr -/

@[simp] theorem setPwr_pending (f : Power → Power) (s : State) : (setPwr f s).pending = s.pending := (rfl)
@[simp] theorem setPwr_out (f : Power → Power) (s : State) : (setPwr f s).out = s.out := (rfl)
@[simp] theorem setPwr_tsc (f : Power → Power) (s : State) : (setPwr f s).tsc = s.tsc := (rfl)
@[simp] theorem setPwr_free (f : Power → Power) (s : State) : (setPwr f s).free = s.free := (rfl)
@[simp] theorem setPwr_fuses (f : Power → Power) (s : State) : (setPwr f s).fuses = s.fuses := (rfl)
@[simp] theorem setPwr_boot (f : Power → Power) (s : State) : (setPwr f s).boot = s.boot := (rfl)
@[simp] theorem setPwr_fab (f : Power → Power) (s : State) : (setPwr f s).fab = s.fab := (rfl)
@[simp] theorem setPwr_link (f : Power → Power) (s : State) : (setPwr f s).link = s.link := (rfl)
@[simp] theorem setPwr_acc (f : Power → Power) (s : State) : (setPwr f s).acc = s.acc := (rfl)
@[simp] theorem setPwr_adm (f : Power → Power) (s : State) : (setPwr f s).adm = s.adm := (rfl)
@[simp] theorem setPwr_flash (f : Power → Power) (s : State) : (setPwr f s).flash = s.flash := (rfl)
@[simp] theorem setPwr_cur (f : Power → Power) (s : State) : (setPwr f s).cur = s.cur := (rfl)
@[simp] theorem setPwr_care (f : Power → Power) (s : State) : (setPwr f s).care = s.care := (rfl)
@[simp] theorem setPwr_cmp (f : Power → Power) (s : State) : (setPwr f s).cmp = s.cmp := (rfl)
@[simp] theorem setPwr_gals (f : Power → Power) (s : State) : (setPwr f s).gals = s.gals := (rfl)
@[simp] theorem setPwr_kprs (f : Power → Power) (s : State) : (setPwr f s).kprs = s.kprs := (rfl)
@[simp] theorem setPwr_rgs (f : Power → Power) (s : State) : (setPwr f s).rgs = s.rgs := (rfl)
@[simp] theorem setPwr_cat (f : Power → Power) (s : State) : (setPwr f s).cat = s.cat := (rfl)
@[simp] theorem setPwr_mbx (f : Power → Power) (s : State) : (setPwr f s).mbx = s.mbx := (rfl)
@[simp] theorem setPwr_dram (f : Power → Power) (s : State) : (setPwr f s).dram = s.dram := (rfl)
@[simp] theorem setPwr_sec (f : Power → Power) (s : State) : (setPwr f s).sec = s.sec := (rfl)
@[simp] theorem setPwr_pwr (f : Power → Power) (s : State) : (setPwr f s).pwr = f s.pwr := (rfl)
@[simp] theorem setPwr_tap (f : Power → Power) (s : State) : (setPwr f s).tap = s.tap := (rfl)
@[simp] theorem setPwr_mem (f : Power → Power) (s : State) : (setPwr f s).mem = s.mem := (rfl)

/-! ## setFab -/

@[simp] theorem setFab_pending (f : Fabric → Fabric) (s : State) : (setFab f s).pending = s.pending := (rfl)
@[simp] theorem setFab_out (f : Fabric → Fabric) (s : State) : (setFab f s).out = s.out := (rfl)
@[simp] theorem setFab_tsc (f : Fabric → Fabric) (s : State) : (setFab f s).tsc = s.tsc := (rfl)
@[simp] theorem setFab_free (f : Fabric → Fabric) (s : State) : (setFab f s).free = s.free := (rfl)
@[simp] theorem setFab_fuses (f : Fabric → Fabric) (s : State) : (setFab f s).fuses = s.fuses := (rfl)
@[simp] theorem setFab_boot (f : Fabric → Fabric) (s : State) : (setFab f s).boot = s.boot := (rfl)
@[simp] theorem setFab_fab (f : Fabric → Fabric) (s : State) : (setFab f s).fab = f s.fab := (rfl)
@[simp] theorem setFab_link (f : Fabric → Fabric) (s : State) : (setFab f s).link = s.link := (rfl)
@[simp] theorem setFab_acc (f : Fabric → Fabric) (s : State) : (setFab f s).acc = s.acc := (rfl)
@[simp] theorem setFab_adm (f : Fabric → Fabric) (s : State) : (setFab f s).adm = s.adm := (rfl)
@[simp] theorem setFab_flash (f : Fabric → Fabric) (s : State) : (setFab f s).flash = s.flash := (rfl)
@[simp] theorem setFab_cur (f : Fabric → Fabric) (s : State) : (setFab f s).cur = s.cur := (rfl)
@[simp] theorem setFab_care (f : Fabric → Fabric) (s : State) : (setFab f s).care = s.care := (rfl)
@[simp] theorem setFab_cmp (f : Fabric → Fabric) (s : State) : (setFab f s).cmp = s.cmp := (rfl)
@[simp] theorem setFab_gals (f : Fabric → Fabric) (s : State) : (setFab f s).gals = s.gals := (rfl)
@[simp] theorem setFab_kprs (f : Fabric → Fabric) (s : State) : (setFab f s).kprs = s.kprs := (rfl)
@[simp] theorem setFab_rgs (f : Fabric → Fabric) (s : State) : (setFab f s).rgs = s.rgs := (rfl)
@[simp] theorem setFab_cat (f : Fabric → Fabric) (s : State) : (setFab f s).cat = s.cat := (rfl)
@[simp] theorem setFab_mbx (f : Fabric → Fabric) (s : State) : (setFab f s).mbx = s.mbx := (rfl)
@[simp] theorem setFab_dram (f : Fabric → Fabric) (s : State) : (setFab f s).dram = s.dram := (rfl)
@[simp] theorem setFab_sec (f : Fabric → Fabric) (s : State) : (setFab f s).sec = s.sec := (rfl)
@[simp] theorem setFab_pwr (f : Fabric → Fabric) (s : State) : (setFab f s).pwr = s.pwr := (rfl)
@[simp] theorem setFab_tap (f : Fabric → Fabric) (s : State) : (setFab f s).tap = s.tap := (rfl)
@[simp] theorem setFab_mem (f : Fabric → Fabric) (s : State) : (setFab f s).mem = s.mem := (rfl)

/-! ## setHu -/

@[simp] theorem setHu_pending (f : HoldUp → HoldUp) (s : State) : (setHu f s).pending = s.pending := (rfl)
@[simp] theorem setHu_out (f : HoldUp → HoldUp) (s : State) : (setHu f s).out = s.out := (rfl)
@[simp] theorem setHu_tsc (f : HoldUp → HoldUp) (s : State) : (setHu f s).tsc = s.tsc := (rfl)
@[simp] theorem setHu_free (f : HoldUp → HoldUp) (s : State) : (setHu f s).free = s.free := (rfl)
@[simp] theorem setHu_fuses (f : HoldUp → HoldUp) (s : State) : (setHu f s).fuses = s.fuses := (rfl)
@[simp] theorem setHu_boot (f : HoldUp → HoldUp) (s : State) : (setHu f s).boot = s.boot := (rfl)
@[simp] theorem setHu_fab (f : HoldUp → HoldUp) (s : State) : (setHu f s).fab = s.fab := (rfl)
@[simp] theorem setHu_link (f : HoldUp → HoldUp) (s : State) : (setHu f s).link = s.link := (rfl)
@[simp] theorem setHu_acc (f : HoldUp → HoldUp) (s : State) : (setHu f s).acc = s.acc := (rfl)
@[simp] theorem setHu_adm (f : HoldUp → HoldUp) (s : State) : (setHu f s).adm = s.adm := (rfl)
@[simp] theorem setHu_flash (f : HoldUp → HoldUp) (s : State) : (setHu f s).flash = s.flash := (rfl)
@[simp] theorem setHu_cur (f : HoldUp → HoldUp) (s : State) : (setHu f s).cur = { s.cur with holdup := f s.cur.holdup } := (rfl)
@[simp] theorem setHu_care (f : HoldUp → HoldUp) (s : State) : (setHu f s).care = s.care := (rfl)
@[simp] theorem setHu_cmp (f : HoldUp → HoldUp) (s : State) : (setHu f s).cmp = s.cmp := (rfl)
@[simp] theorem setHu_gals (f : HoldUp → HoldUp) (s : State) : (setHu f s).gals = s.gals := (rfl)
@[simp] theorem setHu_kprs (f : HoldUp → HoldUp) (s : State) : (setHu f s).kprs = s.kprs := (rfl)
@[simp] theorem setHu_rgs (f : HoldUp → HoldUp) (s : State) : (setHu f s).rgs = s.rgs := (rfl)
@[simp] theorem setHu_cat (f : HoldUp → HoldUp) (s : State) : (setHu f s).cat = s.cat := (rfl)
@[simp] theorem setHu_mbx (f : HoldUp → HoldUp) (s : State) : (setHu f s).mbx = s.mbx := (rfl)
@[simp] theorem setHu_dram (f : HoldUp → HoldUp) (s : State) : (setHu f s).dram = s.dram := (rfl)
@[simp] theorem setHu_sec (f : HoldUp → HoldUp) (s : State) : (setHu f s).sec = s.sec := (rfl)
@[simp] theorem setHu_pwr (f : HoldUp → HoldUp) (s : State) : (setHu f s).pwr = s.pwr := (rfl)
@[simp] theorem setHu_tap (f : HoldUp → HoldUp) (s : State) : (setHu f s).tap = s.tap := (rfl)
@[simp] theorem setHu_mem (f : HoldUp → HoldUp) (s : State) : (setHu f s).mem = s.mem := (rfl)

/-! ## setDrc -/

@[simp] theorem setDrc_pending (n : Nat) (f : DramChan → DramChan) (s : State) : (setDrc n f s).pending = s.pending := (rfl)
@[simp] theorem setDrc_out (n : Nat) (f : DramChan → DramChan) (s : State) : (setDrc n f s).out = s.out := (rfl)
@[simp] theorem setDrc_tsc (n : Nat) (f : DramChan → DramChan) (s : State) : (setDrc n f s).tsc = s.tsc := (rfl)
@[simp] theorem setDrc_free (n : Nat) (f : DramChan → DramChan) (s : State) : (setDrc n f s).free = s.free := (rfl)
@[simp] theorem setDrc_fuses (n : Nat) (f : DramChan → DramChan) (s : State) : (setDrc n f s).fuses = s.fuses := (rfl)
@[simp] theorem setDrc_boot (n : Nat) (f : DramChan → DramChan) (s : State) : (setDrc n f s).boot = s.boot := (rfl)
@[simp] theorem setDrc_fab (n : Nat) (f : DramChan → DramChan) (s : State) : (setDrc n f s).fab = s.fab := (rfl)
@[simp] theorem setDrc_link (n : Nat) (f : DramChan → DramChan) (s : State) : (setDrc n f s).link = s.link := (rfl)
@[simp] theorem setDrc_acc (n : Nat) (f : DramChan → DramChan) (s : State) : (setDrc n f s).acc = s.acc := (rfl)
@[simp] theorem setDrc_adm (n : Nat) (f : DramChan → DramChan) (s : State) : (setDrc n f s).adm = s.adm := (rfl)
@[simp] theorem setDrc_flash (n : Nat) (f : DramChan → DramChan) (s : State) : (setDrc n f s).flash = s.flash := (rfl)
@[simp] theorem setDrc_cur (n : Nat) (f : DramChan → DramChan) (s : State) : (setDrc n f s).cur = s.cur := (rfl)
@[simp] theorem setDrc_care (n : Nat) (f : DramChan → DramChan) (s : State) : (setDrc n f s).care = s.care := (rfl)
@[simp] theorem setDrc_cmp (n : Nat) (f : DramChan → DramChan) (s : State) : (setDrc n f s).cmp = s.cmp := (rfl)
@[simp] theorem setDrc_gals (n : Nat) (f : DramChan → DramChan) (s : State) : (setDrc n f s).gals = s.gals := (rfl)
@[simp] theorem setDrc_kprs (n : Nat) (f : DramChan → DramChan) (s : State) : (setDrc n f s).kprs = s.kprs := (rfl)
@[simp] theorem setDrc_rgs (n : Nat) (f : DramChan → DramChan) (s : State) : (setDrc n f s).rgs = s.rgs := (rfl)
@[simp] theorem setDrc_cat (n : Nat) (f : DramChan → DramChan) (s : State) : (setDrc n f s).cat = s.cat := (rfl)
@[simp] theorem setDrc_mbx (n : Nat) (f : DramChan → DramChan) (s : State) : (setDrc n f s).mbx = s.mbx := (rfl)
@[simp] theorem setDrc_dram (n : Nat) (f : DramChan → DramChan) (s : State) : (setDrc n f s).dram = { s.dram with chans := Tab.update s.dram.chans n {} f } := (rfl)
@[simp] theorem setDrc_sec (n : Nat) (f : DramChan → DramChan) (s : State) : (setDrc n f s).sec = s.sec := (rfl)
@[simp] theorem setDrc_pwr (n : Nat) (f : DramChan → DramChan) (s : State) : (setDrc n f s).pwr = s.pwr := (rfl)
@[simp] theorem setDrc_tap (n : Nat) (f : DramChan → DramChan) (s : State) : (setDrc n f s).tap = s.tap := (rfl)
@[simp] theorem setDrc_mem (n : Nat) (f : DramChan → DramChan) (s : State) : (setDrc n f s).mem = s.mem := (rfl)

/-! ## setCtl -/

@[simp] theorem setCtl_pending (n : Nat) (f : Controller → Controller) (s : State) : (setCtl n f s).pending = s.pending := (rfl)
@[simp] theorem setCtl_out (n : Nat) (f : Controller → Controller) (s : State) : (setCtl n f s).out = s.out := (rfl)
@[simp] theorem setCtl_tsc (n : Nat) (f : Controller → Controller) (s : State) : (setCtl n f s).tsc = s.tsc := (rfl)
@[simp] theorem setCtl_free (n : Nat) (f : Controller → Controller) (s : State) : (setCtl n f s).free = s.free := (rfl)
@[simp] theorem setCtl_fuses (n : Nat) (f : Controller → Controller) (s : State) : (setCtl n f s).fuses = s.fuses := (rfl)
@[simp] theorem setCtl_boot (n : Nat) (f : Controller → Controller) (s : State) : (setCtl n f s).boot = s.boot := (rfl)
@[simp] theorem setCtl_fab (n : Nat) (f : Controller → Controller) (s : State) : (setCtl n f s).fab = s.fab := (rfl)
@[simp] theorem setCtl_link (n : Nat) (f : Controller → Controller) (s : State) : (setCtl n f s).link = s.link := (rfl)
@[simp] theorem setCtl_acc (n : Nat) (f : Controller → Controller) (s : State) : (setCtl n f s).acc = { s.acc with ctls := Tab.update s.acc.ctls n {} f } := (rfl)
@[simp] theorem setCtl_adm (n : Nat) (f : Controller → Controller) (s : State) : (setCtl n f s).adm = s.adm := (rfl)
@[simp] theorem setCtl_flash (n : Nat) (f : Controller → Controller) (s : State) : (setCtl n f s).flash = s.flash := (rfl)
@[simp] theorem setCtl_cur (n : Nat) (f : Controller → Controller) (s : State) : (setCtl n f s).cur = s.cur := (rfl)
@[simp] theorem setCtl_care (n : Nat) (f : Controller → Controller) (s : State) : (setCtl n f s).care = s.care := (rfl)
@[simp] theorem setCtl_cmp (n : Nat) (f : Controller → Controller) (s : State) : (setCtl n f s).cmp = s.cmp := (rfl)
@[simp] theorem setCtl_gals (n : Nat) (f : Controller → Controller) (s : State) : (setCtl n f s).gals = s.gals := (rfl)
@[simp] theorem setCtl_kprs (n : Nat) (f : Controller → Controller) (s : State) : (setCtl n f s).kprs = s.kprs := (rfl)
@[simp] theorem setCtl_rgs (n : Nat) (f : Controller → Controller) (s : State) : (setCtl n f s).rgs = s.rgs := (rfl)
@[simp] theorem setCtl_cat (n : Nat) (f : Controller → Controller) (s : State) : (setCtl n f s).cat = s.cat := (rfl)
@[simp] theorem setCtl_mbx (n : Nat) (f : Controller → Controller) (s : State) : (setCtl n f s).mbx = s.mbx := (rfl)
@[simp] theorem setCtl_dram (n : Nat) (f : Controller → Controller) (s : State) : (setCtl n f s).dram = s.dram := (rfl)
@[simp] theorem setCtl_sec (n : Nat) (f : Controller → Controller) (s : State) : (setCtl n f s).sec = s.sec := (rfl)
@[simp] theorem setCtl_pwr (n : Nat) (f : Controller → Controller) (s : State) : (setCtl n f s).pwr = s.pwr := (rfl)
@[simp] theorem setCtl_tap (n : Nat) (f : Controller → Controller) (s : State) : (setCtl n f s).tap = s.tap := (rfl)
@[simp] theorem setCtl_mem (n : Nat) (f : Controller → Controller) (s : State) : (setCtl n f s).mem = s.mem := (rfl)

/-! ## setHdr -/

@[simp] theorem setHdr_pending (n : Nat) (f : PageHdr → PageHdr) (s : State) : (setHdr n f s).pending = s.pending := (rfl)
@[simp] theorem setHdr_out (n : Nat) (f : PageHdr → PageHdr) (s : State) : (setHdr n f s).out = s.out := (rfl)
@[simp] theorem setHdr_tsc (n : Nat) (f : PageHdr → PageHdr) (s : State) : (setHdr n f s).tsc = s.tsc := (rfl)
@[simp] theorem setHdr_free (n : Nat) (f : PageHdr → PageHdr) (s : State) : (setHdr n f s).free = s.free := (rfl)
@[simp] theorem setHdr_fuses (n : Nat) (f : PageHdr → PageHdr) (s : State) : (setHdr n f s).fuses = s.fuses := (rfl)
@[simp] theorem setHdr_boot (n : Nat) (f : PageHdr → PageHdr) (s : State) : (setHdr n f s).boot = s.boot := (rfl)
@[simp] theorem setHdr_fab (n : Nat) (f : PageHdr → PageHdr) (s : State) : (setHdr n f s).fab = { s.fab with pages := Tab.update s.fab.pages n {} f } := (rfl)
@[simp] theorem setHdr_link (n : Nat) (f : PageHdr → PageHdr) (s : State) : (setHdr n f s).link = s.link := (rfl)
@[simp] theorem setHdr_acc (n : Nat) (f : PageHdr → PageHdr) (s : State) : (setHdr n f s).acc = s.acc := (rfl)
@[simp] theorem setHdr_adm (n : Nat) (f : PageHdr → PageHdr) (s : State) : (setHdr n f s).adm = s.adm := (rfl)
@[simp] theorem setHdr_flash (n : Nat) (f : PageHdr → PageHdr) (s : State) : (setHdr n f s).flash = s.flash := (rfl)
@[simp] theorem setHdr_cur (n : Nat) (f : PageHdr → PageHdr) (s : State) : (setHdr n f s).cur = s.cur := (rfl)
@[simp] theorem setHdr_care (n : Nat) (f : PageHdr → PageHdr) (s : State) : (setHdr n f s).care = s.care := (rfl)
@[simp] theorem setHdr_cmp (n : Nat) (f : PageHdr → PageHdr) (s : State) : (setHdr n f s).cmp = s.cmp := (rfl)
@[simp] theorem setHdr_gals (n : Nat) (f : PageHdr → PageHdr) (s : State) : (setHdr n f s).gals = s.gals := (rfl)
@[simp] theorem setHdr_kprs (n : Nat) (f : PageHdr → PageHdr) (s : State) : (setHdr n f s).kprs = s.kprs := (rfl)
@[simp] theorem setHdr_rgs (n : Nat) (f : PageHdr → PageHdr) (s : State) : (setHdr n f s).rgs = s.rgs := (rfl)
@[simp] theorem setHdr_cat (n : Nat) (f : PageHdr → PageHdr) (s : State) : (setHdr n f s).cat = s.cat := (rfl)
@[simp] theorem setHdr_mbx (n : Nat) (f : PageHdr → PageHdr) (s : State) : (setHdr n f s).mbx = s.mbx := (rfl)
@[simp] theorem setHdr_dram (n : Nat) (f : PageHdr → PageHdr) (s : State) : (setHdr n f s).dram = s.dram := (rfl)
@[simp] theorem setHdr_sec (n : Nat) (f : PageHdr → PageHdr) (s : State) : (setHdr n f s).sec = s.sec := (rfl)
@[simp] theorem setHdr_pwr (n : Nat) (f : PageHdr → PageHdr) (s : State) : (setHdr n f s).pwr = s.pwr := (rfl)
@[simp] theorem setHdr_tap (n : Nat) (f : PageHdr → PageHdr) (s : State) : (setHdr n f s).tap = s.tap := (rfl)
@[simp] theorem setHdr_mem (n : Nat) (f : PageHdr → PageHdr) (s : State) : (setHdr n f s).mem = s.mem := (rfl)

/-! ## setIsl -/

@[simp] theorem setIsl_pending (i : Island) (f : IslandHdr → IslandHdr) (s : State) : (setIsl i f s).pending = s.pending := (rfl)
@[simp] theorem setIsl_out (i : Island) (f : IslandHdr → IslandHdr) (s : State) : (setIsl i f s).out = s.out := (rfl)
@[simp] theorem setIsl_tsc (i : Island) (f : IslandHdr → IslandHdr) (s : State) : (setIsl i f s).tsc = s.tsc := (rfl)
@[simp] theorem setIsl_free (i : Island) (f : IslandHdr → IslandHdr) (s : State) : (setIsl i f s).free = s.free := (rfl)
@[simp] theorem setIsl_fuses (i : Island) (f : IslandHdr → IslandHdr) (s : State) : (setIsl i f s).fuses = s.fuses := (rfl)
@[simp] theorem setIsl_boot (i : Island) (f : IslandHdr → IslandHdr) (s : State) : (setIsl i f s).boot = s.boot := (rfl)
@[simp] theorem setIsl_fab (i : Island) (f : IslandHdr → IslandHdr) (s : State) : (setIsl i f s).fab = { s.fab with islands := Tab.update s.fab.islands i.sensor {} f } := (rfl)
@[simp] theorem setIsl_link (i : Island) (f : IslandHdr → IslandHdr) (s : State) : (setIsl i f s).link = s.link := (rfl)
@[simp] theorem setIsl_acc (i : Island) (f : IslandHdr → IslandHdr) (s : State) : (setIsl i f s).acc = s.acc := (rfl)
@[simp] theorem setIsl_adm (i : Island) (f : IslandHdr → IslandHdr) (s : State) : (setIsl i f s).adm = s.adm := (rfl)
@[simp] theorem setIsl_flash (i : Island) (f : IslandHdr → IslandHdr) (s : State) : (setIsl i f s).flash = s.flash := (rfl)
@[simp] theorem setIsl_cur (i : Island) (f : IslandHdr → IslandHdr) (s : State) : (setIsl i f s).cur = s.cur := (rfl)
@[simp] theorem setIsl_care (i : Island) (f : IslandHdr → IslandHdr) (s : State) : (setIsl i f s).care = s.care := (rfl)
@[simp] theorem setIsl_cmp (i : Island) (f : IslandHdr → IslandHdr) (s : State) : (setIsl i f s).cmp = s.cmp := (rfl)
@[simp] theorem setIsl_gals (i : Island) (f : IslandHdr → IslandHdr) (s : State) : (setIsl i f s).gals = s.gals := (rfl)
@[simp] theorem setIsl_kprs (i : Island) (f : IslandHdr → IslandHdr) (s : State) : (setIsl i f s).kprs = s.kprs := (rfl)
@[simp] theorem setIsl_rgs (i : Island) (f : IslandHdr → IslandHdr) (s : State) : (setIsl i f s).rgs = s.rgs := (rfl)
@[simp] theorem setIsl_cat (i : Island) (f : IslandHdr → IslandHdr) (s : State) : (setIsl i f s).cat = s.cat := (rfl)
@[simp] theorem setIsl_mbx (i : Island) (f : IslandHdr → IslandHdr) (s : State) : (setIsl i f s).mbx = s.mbx := (rfl)
@[simp] theorem setIsl_dram (i : Island) (f : IslandHdr → IslandHdr) (s : State) : (setIsl i f s).dram = s.dram := (rfl)
@[simp] theorem setIsl_sec (i : Island) (f : IslandHdr → IslandHdr) (s : State) : (setIsl i f s).sec = s.sec := (rfl)
@[simp] theorem setIsl_pwr (i : Island) (f : IslandHdr → IslandHdr) (s : State) : (setIsl i f s).pwr = s.pwr := (rfl)
@[simp] theorem setIsl_tap (i : Island) (f : IslandHdr → IslandHdr) (s : State) : (setIsl i f s).tap = s.tap := (rfl)
@[simp] theorem setIsl_mem (i : Island) (f : IslandHdr → IslandHdr) (s : State) : (setIsl i f s).mem = s.mem := (rfl)

/-! ## setGal -/

@[simp] theorem setGal_pending (n : Nat) (f : Gallery → Gallery) (s : State) : (setGal n f s).pending = s.pending := (rfl)
@[simp] theorem setGal_out (n : Nat) (f : Gallery → Gallery) (s : State) : (setGal n f s).out = s.out := (rfl)
@[simp] theorem setGal_tsc (n : Nat) (f : Gallery → Gallery) (s : State) : (setGal n f s).tsc = s.tsc := (rfl)
@[simp] theorem setGal_free (n : Nat) (f : Gallery → Gallery) (s : State) : (setGal n f s).free = s.free := (rfl)
@[simp] theorem setGal_fuses (n : Nat) (f : Gallery → Gallery) (s : State) : (setGal n f s).fuses = s.fuses := (rfl)
@[simp] theorem setGal_boot (n : Nat) (f : Gallery → Gallery) (s : State) : (setGal n f s).boot = s.boot := (rfl)
@[simp] theorem setGal_fab (n : Nat) (f : Gallery → Gallery) (s : State) : (setGal n f s).fab = s.fab := (rfl)
@[simp] theorem setGal_link (n : Nat) (f : Gallery → Gallery) (s : State) : (setGal n f s).link = s.link := (rfl)
@[simp] theorem setGal_acc (n : Nat) (f : Gallery → Gallery) (s : State) : (setGal n f s).acc = s.acc := (rfl)
@[simp] theorem setGal_adm (n : Nat) (f : Gallery → Gallery) (s : State) : (setGal n f s).adm = s.adm := (rfl)
@[simp] theorem setGal_flash (n : Nat) (f : Gallery → Gallery) (s : State) : (setGal n f s).flash = s.flash := (rfl)
@[simp] theorem setGal_cur (n : Nat) (f : Gallery → Gallery) (s : State) : (setGal n f s).cur = s.cur := (rfl)
@[simp] theorem setGal_care (n : Nat) (f : Gallery → Gallery) (s : State) : (setGal n f s).care = s.care := (rfl)
@[simp] theorem setGal_cmp (n : Nat) (f : Gallery → Gallery) (s : State) : (setGal n f s).cmp = s.cmp := (rfl)
@[simp] theorem setGal_gals (n : Nat) (f : Gallery → Gallery) (s : State) : (setGal n f s).gals = Tab.update s.gals n {} f := (rfl)
@[simp] theorem setGal_kprs (n : Nat) (f : Gallery → Gallery) (s : State) : (setGal n f s).kprs = s.kprs := (rfl)
@[simp] theorem setGal_rgs (n : Nat) (f : Gallery → Gallery) (s : State) : (setGal n f s).rgs = s.rgs := (rfl)
@[simp] theorem setGal_cat (n : Nat) (f : Gallery → Gallery) (s : State) : (setGal n f s).cat = s.cat := (rfl)
@[simp] theorem setGal_mbx (n : Nat) (f : Gallery → Gallery) (s : State) : (setGal n f s).mbx = s.mbx := (rfl)
@[simp] theorem setGal_dram (n : Nat) (f : Gallery → Gallery) (s : State) : (setGal n f s).dram = s.dram := (rfl)
@[simp] theorem setGal_sec (n : Nat) (f : Gallery → Gallery) (s : State) : (setGal n f s).sec = s.sec := (rfl)
@[simp] theorem setGal_pwr (n : Nat) (f : Gallery → Gallery) (s : State) : (setGal n f s).pwr = s.pwr := (rfl)
@[simp] theorem setGal_tap (n : Nat) (f : Gallery → Gallery) (s : State) : (setGal n f s).tap = s.tap := (rfl)
@[simp] theorem setGal_mem (n : Nat) (f : Gallery → Gallery) (s : State) : (setGal n f s).mem = s.mem := (rfl)

/-! ## putReg -/

@[simp] theorem putReg_pending (p o : Nat) (w : Word) (s : State) : (putReg p o w s).pending = s.pending := (rfl)
@[simp] theorem putReg_out (p o : Nat) (w : Word) (s : State) : (putReg p o w s).out = s.out := (rfl)
@[simp] theorem putReg_tsc (p o : Nat) (w : Word) (s : State) : (putReg p o w s).tsc = s.tsc := (rfl)
@[simp] theorem putReg_free (p o : Nat) (w : Word) (s : State) : (putReg p o w s).free = s.free := (rfl)
@[simp] theorem putReg_fuses (p o : Nat) (w : Word) (s : State) : (putReg p o w s).fuses = s.fuses := (rfl)
@[simp] theorem putReg_boot (p o : Nat) (w : Word) (s : State) : (putReg p o w s).boot = s.boot := (rfl)
@[simp] theorem putReg_fab (p o : Nat) (w : Word) (s : State) : (putReg p o w s).fab = { s.fab with regs := Tab.put s.fab.regs (regKey p o) (if w = regReset p o then none else some w) } := (rfl)
@[simp] theorem putReg_link (p o : Nat) (w : Word) (s : State) : (putReg p o w s).link = s.link := (rfl)
@[simp] theorem putReg_acc (p o : Nat) (w : Word) (s : State) : (putReg p o w s).acc = s.acc := (rfl)
@[simp] theorem putReg_adm (p o : Nat) (w : Word) (s : State) : (putReg p o w s).adm = s.adm := (rfl)
@[simp] theorem putReg_flash (p o : Nat) (w : Word) (s : State) : (putReg p o w s).flash = s.flash := (rfl)
@[simp] theorem putReg_cur (p o : Nat) (w : Word) (s : State) : (putReg p o w s).cur = s.cur := (rfl)
@[simp] theorem putReg_care (p o : Nat) (w : Word) (s : State) : (putReg p o w s).care = s.care := (rfl)
@[simp] theorem putReg_cmp (p o : Nat) (w : Word) (s : State) : (putReg p o w s).cmp = s.cmp := (rfl)
@[simp] theorem putReg_gals (p o : Nat) (w : Word) (s : State) : (putReg p o w s).gals = s.gals := (rfl)
@[simp] theorem putReg_kprs (p o : Nat) (w : Word) (s : State) : (putReg p o w s).kprs = s.kprs := (rfl)
@[simp] theorem putReg_rgs (p o : Nat) (w : Word) (s : State) : (putReg p o w s).rgs = s.rgs := (rfl)
@[simp] theorem putReg_cat (p o : Nat) (w : Word) (s : State) : (putReg p o w s).cat = s.cat := (rfl)
@[simp] theorem putReg_mbx (p o : Nat) (w : Word) (s : State) : (putReg p o w s).mbx = s.mbx := (rfl)
@[simp] theorem putReg_dram (p o : Nat) (w : Word) (s : State) : (putReg p o w s).dram = s.dram := (rfl)
@[simp] theorem putReg_sec (p o : Nat) (w : Word) (s : State) : (putReg p o w s).sec = s.sec := (rfl)
@[simp] theorem putReg_pwr (p o : Nat) (w : Word) (s : State) : (putReg p o w s).pwr = s.pwr := (rfl)
@[simp] theorem putReg_tap (p o : Nat) (w : Word) (s : State) : (putReg p o w s).tap = s.tap := (rfl)
@[simp] theorem putReg_mem (p o : Nat) (w : Word) (s : State) : (putReg p o w s).mem = s.mem := (rfl)

/-! ## emit -/

@[simp] theorem emit_pending (o : Out) (s : State) : (emit o s).pending = s.pending := (rfl)
@[simp] theorem emit_out (o : Out) (s : State) : (emit o s).out = s.out ++ [o] := (rfl)
@[simp] theorem emit_tsc (o : Out) (s : State) : (emit o s).tsc = s.tsc := (rfl)
@[simp] theorem emit_free (o : Out) (s : State) : (emit o s).free = s.free := (rfl)
@[simp] theorem emit_fuses (o : Out) (s : State) : (emit o s).fuses = s.fuses := (rfl)
@[simp] theorem emit_boot (o : Out) (s : State) : (emit o s).boot = s.boot := (rfl)
@[simp] theorem emit_fab (o : Out) (s : State) : (emit o s).fab = s.fab := (rfl)
@[simp] theorem emit_link (o : Out) (s : State) : (emit o s).link = s.link := (rfl)
@[simp] theorem emit_acc (o : Out) (s : State) : (emit o s).acc = s.acc := (rfl)
@[simp] theorem emit_adm (o : Out) (s : State) : (emit o s).adm = s.adm := (rfl)
@[simp] theorem emit_flash (o : Out) (s : State) : (emit o s).flash = s.flash := (rfl)
@[simp] theorem emit_cur (o : Out) (s : State) : (emit o s).cur = s.cur := (rfl)
@[simp] theorem emit_care (o : Out) (s : State) : (emit o s).care = s.care := (rfl)
@[simp] theorem emit_cmp (o : Out) (s : State) : (emit o s).cmp = s.cmp := (rfl)
@[simp] theorem emit_gals (o : Out) (s : State) : (emit o s).gals = s.gals := (rfl)
@[simp] theorem emit_kprs (o : Out) (s : State) : (emit o s).kprs = s.kprs := (rfl)
@[simp] theorem emit_rgs (o : Out) (s : State) : (emit o s).rgs = s.rgs := (rfl)
@[simp] theorem emit_cat (o : Out) (s : State) : (emit o s).cat = s.cat := (rfl)
@[simp] theorem emit_mbx (o : Out) (s : State) : (emit o s).mbx = s.mbx := (rfl)
@[simp] theorem emit_dram (o : Out) (s : State) : (emit o s).dram = s.dram := (rfl)
@[simp] theorem emit_sec (o : Out) (s : State) : (emit o s).sec = s.sec := (rfl)
@[simp] theorem emit_pwr (o : Out) (s : State) : (emit o s).pwr = s.pwr := (rfl)
@[simp] theorem emit_tap (o : Out) (s : State) : (emit o s).tap = s.tap := (rfl)
@[simp] theorem emit_mem (o : Out) (s : State) : (emit o s).mem = s.mem := (rfl)

/-! ## advanceTo -/

@[simp] theorem advanceTo_pending (n : Nat) (s : State) : (advanceTo n s).pending = s.pending := (rfl)
@[simp] theorem advanceTo_out (n : Nat) (s : State) : (advanceTo n s).out = s.out := (rfl)
@[simp] theorem advanceTo_tsc (n : Nat) (s : State) : (advanceTo n s).tsc = max s.tsc n := (rfl)
@[simp] theorem advanceTo_free (n : Nat) (s : State) : (advanceTo n s).free = s.free := (rfl)
@[simp] theorem advanceTo_fuses (n : Nat) (s : State) : (advanceTo n s).fuses = s.fuses := (rfl)
@[simp] theorem advanceTo_boot (n : Nat) (s : State) : (advanceTo n s).boot = s.boot := (rfl)
@[simp] theorem advanceTo_fab (n : Nat) (s : State) : (advanceTo n s).fab = s.fab := (rfl)
@[simp] theorem advanceTo_link (n : Nat) (s : State) : (advanceTo n s).link = s.link := (rfl)
@[simp] theorem advanceTo_acc (n : Nat) (s : State) : (advanceTo n s).acc = s.acc := (rfl)
@[simp] theorem advanceTo_adm (n : Nat) (s : State) : (advanceTo n s).adm = s.adm := (rfl)
@[simp] theorem advanceTo_flash (n : Nat) (s : State) : (advanceTo n s).flash = s.flash := (rfl)
@[simp] theorem advanceTo_cur (n : Nat) (s : State) : (advanceTo n s).cur = s.cur := (rfl)
@[simp] theorem advanceTo_care (n : Nat) (s : State) : (advanceTo n s).care = s.care := (rfl)
@[simp] theorem advanceTo_cmp (n : Nat) (s : State) : (advanceTo n s).cmp = s.cmp := (rfl)
@[simp] theorem advanceTo_gals (n : Nat) (s : State) : (advanceTo n s).gals = s.gals := (rfl)
@[simp] theorem advanceTo_kprs (n : Nat) (s : State) : (advanceTo n s).kprs = s.kprs := (rfl)
@[simp] theorem advanceTo_rgs (n : Nat) (s : State) : (advanceTo n s).rgs = s.rgs := (rfl)
@[simp] theorem advanceTo_cat (n : Nat) (s : State) : (advanceTo n s).cat = s.cat := (rfl)
@[simp] theorem advanceTo_mbx (n : Nat) (s : State) : (advanceTo n s).mbx = s.mbx := (rfl)
@[simp] theorem advanceTo_dram (n : Nat) (s : State) : (advanceTo n s).dram = s.dram := (rfl)
@[simp] theorem advanceTo_sec (n : Nat) (s : State) : (advanceTo n s).sec = s.sec := (rfl)
@[simp] theorem advanceTo_pwr (n : Nat) (s : State) : (advanceTo n s).pwr = s.pwr := (rfl)
@[simp] theorem advanceTo_tap (n : Nat) (s : State) : (advanceTo n s).tap = s.tap := (rfl)
@[simp] theorem advanceTo_mem (n : Nat) (s : State) : (advanceTo n s).mem = s.mem := (rfl)

/-! ## writeMem -/

@[simp] theorem writeMem_pending (a : Nat) (bs : List Byte) (s : State) : (writeMem a bs s).pending = s.pending := (rfl)
@[simp] theorem writeMem_out (a : Nat) (bs : List Byte) (s : State) : (writeMem a bs s).out = s.out := (rfl)
@[simp] theorem writeMem_tsc (a : Nat) (bs : List Byte) (s : State) : (writeMem a bs s).tsc = s.tsc := (rfl)
@[simp] theorem writeMem_free (a : Nat) (bs : List Byte) (s : State) : (writeMem a bs s).free = s.free := (rfl)
@[simp] theorem writeMem_fuses (a : Nat) (bs : List Byte) (s : State) : (writeMem a bs s).fuses = s.fuses := (rfl)
@[simp] theorem writeMem_boot (a : Nat) (bs : List Byte) (s : State) : (writeMem a bs s).boot = s.boot := (rfl)
@[simp] theorem writeMem_fab (a : Nat) (bs : List Byte) (s : State) : (writeMem a bs s).fab = s.fab := (rfl)
@[simp] theorem writeMem_link (a : Nat) (bs : List Byte) (s : State) : (writeMem a bs s).link = s.link := (rfl)
@[simp] theorem writeMem_acc (a : Nat) (bs : List Byte) (s : State) : (writeMem a bs s).acc = s.acc := (rfl)
@[simp] theorem writeMem_adm (a : Nat) (bs : List Byte) (s : State) : (writeMem a bs s).adm = s.adm := (rfl)
@[simp] theorem writeMem_flash (a : Nat) (bs : List Byte) (s : State) : (writeMem a bs s).flash = s.flash := (rfl)
@[simp] theorem writeMem_cur (a : Nat) (bs : List Byte) (s : State) : (writeMem a bs s).cur = s.cur := (rfl)
@[simp] theorem writeMem_care (a : Nat) (bs : List Byte) (s : State) : (writeMem a bs s).care = s.care := (rfl)
@[simp] theorem writeMem_cmp (a : Nat) (bs : List Byte) (s : State) : (writeMem a bs s).cmp = s.cmp := (rfl)
@[simp] theorem writeMem_gals (a : Nat) (bs : List Byte) (s : State) : (writeMem a bs s).gals = s.gals := (rfl)
@[simp] theorem writeMem_kprs (a : Nat) (bs : List Byte) (s : State) : (writeMem a bs s).kprs = s.kprs := (rfl)
@[simp] theorem writeMem_rgs (a : Nat) (bs : List Byte) (s : State) : (writeMem a bs s).rgs = s.rgs := (rfl)
@[simp] theorem writeMem_cat (a : Nat) (bs : List Byte) (s : State) : (writeMem a bs s).cat = s.cat := (rfl)
@[simp] theorem writeMem_mbx (a : Nat) (bs : List Byte) (s : State) : (writeMem a bs s).mbx = s.mbx := (rfl)
@[simp] theorem writeMem_dram (a : Nat) (bs : List Byte) (s : State) : (writeMem a bs s).dram = s.dram := (rfl)
@[simp] theorem writeMem_sec (a : Nat) (bs : List Byte) (s : State) : (writeMem a bs s).sec = s.sec := (rfl)
@[simp] theorem writeMem_pwr (a : Nat) (bs : List Byte) (s : State) : (writeMem a bs s).pwr = s.pwr := (rfl)
@[simp] theorem writeMem_tap (a : Nat) (bs : List Byte) (s : State) : (writeMem a bs s).tap = s.tap := (rfl)
@[simp] theorem writeMem_mem (a : Nat) (bs : List Byte) (s : State) : (writeMem a bs s).mem = memPutBytes s.mem a bs := (rfl)

/-! ## clearMem -/

@[simp] theorem clearMem_pending (a b : Nat) (s : State) : (clearMem a b s).pending = s.pending := (rfl)
@[simp] theorem clearMem_out (a b : Nat) (s : State) : (clearMem a b s).out = s.out := (rfl)
@[simp] theorem clearMem_tsc (a b : Nat) (s : State) : (clearMem a b s).tsc = s.tsc := (rfl)
@[simp] theorem clearMem_free (a b : Nat) (s : State) : (clearMem a b s).free = s.free := (rfl)
@[simp] theorem clearMem_fuses (a b : Nat) (s : State) : (clearMem a b s).fuses = s.fuses := (rfl)
@[simp] theorem clearMem_boot (a b : Nat) (s : State) : (clearMem a b s).boot = s.boot := (rfl)
@[simp] theorem clearMem_fab (a b : Nat) (s : State) : (clearMem a b s).fab = s.fab := (rfl)
@[simp] theorem clearMem_link (a b : Nat) (s : State) : (clearMem a b s).link = s.link := (rfl)
@[simp] theorem clearMem_acc (a b : Nat) (s : State) : (clearMem a b s).acc = s.acc := (rfl)
@[simp] theorem clearMem_adm (a b : Nat) (s : State) : (clearMem a b s).adm = s.adm := (rfl)
@[simp] theorem clearMem_flash (a b : Nat) (s : State) : (clearMem a b s).flash = s.flash := (rfl)
@[simp] theorem clearMem_cur (a b : Nat) (s : State) : (clearMem a b s).cur = s.cur := (rfl)
@[simp] theorem clearMem_care (a b : Nat) (s : State) : (clearMem a b s).care = s.care := (rfl)
@[simp] theorem clearMem_cmp (a b : Nat) (s : State) : (clearMem a b s).cmp = s.cmp := (rfl)
@[simp] theorem clearMem_gals (a b : Nat) (s : State) : (clearMem a b s).gals = s.gals := (rfl)
@[simp] theorem clearMem_kprs (a b : Nat) (s : State) : (clearMem a b s).kprs = s.kprs := (rfl)
@[simp] theorem clearMem_rgs (a b : Nat) (s : State) : (clearMem a b s).rgs = s.rgs := (rfl)
@[simp] theorem clearMem_cat (a b : Nat) (s : State) : (clearMem a b s).cat = s.cat := (rfl)
@[simp] theorem clearMem_mbx (a b : Nat) (s : State) : (clearMem a b s).mbx = s.mbx := (rfl)
@[simp] theorem clearMem_dram (a b : Nat) (s : State) : (clearMem a b s).dram = s.dram := (rfl)
@[simp] theorem clearMem_sec (a b : Nat) (s : State) : (clearMem a b s).sec = s.sec := (rfl)
@[simp] theorem clearMem_pwr (a b : Nat) (s : State) : (clearMem a b s).pwr = s.pwr := (rfl)
@[simp] theorem clearMem_tap (a b : Nat) (s : State) : (clearMem a b s).tap = s.tap := (rfl)
@[simp] theorem clearMem_mem (a b : Nat) (s : State) : (clearMem a b s).mem = memClear s.mem a b := (rfl)

/-! ## draw -/

@[simp] theorem draw_pending (s : State) : (draw s).2.pending = s.pending := (rfl)
@[simp] theorem draw_out (s : State) : (draw s).2.out = s.out := (rfl)
@[simp] theorem draw_tsc (s : State) : (draw s).2.tsc = s.tsc := (rfl)
@[simp] theorem draw_free (s : State) : (draw s).2.free = s.free + 1 := (rfl)
@[simp] theorem draw_fuses (s : State) : (draw s).2.fuses = s.fuses := (rfl)
@[simp] theorem draw_boot (s : State) : (draw s).2.boot = s.boot := (rfl)
@[simp] theorem draw_fab (s : State) : (draw s).2.fab = s.fab := (rfl)
@[simp] theorem draw_link (s : State) : (draw s).2.link = s.link := (rfl)
@[simp] theorem draw_acc (s : State) : (draw s).2.acc = s.acc := (rfl)
@[simp] theorem draw_adm (s : State) : (draw s).2.adm = s.adm := (rfl)
@[simp] theorem draw_flash (s : State) : (draw s).2.flash = s.flash := (rfl)
@[simp] theorem draw_cur (s : State) : (draw s).2.cur = s.cur := (rfl)
@[simp] theorem draw_care (s : State) : (draw s).2.care = s.care := (rfl)
@[simp] theorem draw_cmp (s : State) : (draw s).2.cmp = s.cmp := (rfl)
@[simp] theorem draw_gals (s : State) : (draw s).2.gals = s.gals := (rfl)
@[simp] theorem draw_kprs (s : State) : (draw s).2.kprs = s.kprs := (rfl)
@[simp] theorem draw_rgs (s : State) : (draw s).2.rgs = s.rgs := (rfl)
@[simp] theorem draw_cat (s : State) : (draw s).2.cat = s.cat := (rfl)
@[simp] theorem draw_mbx (s : State) : (draw s).2.mbx = s.mbx := (rfl)
@[simp] theorem draw_dram (s : State) : (draw s).2.dram = s.dram := (rfl)
@[simp] theorem draw_sec (s : State) : (draw s).2.sec = s.sec := (rfl)
@[simp] theorem draw_pwr (s : State) : (draw s).2.pwr = s.pwr := (rfl)
@[simp] theorem draw_tap (s : State) : (draw s).2.tap = s.tap := (rfl)
@[simp] theorem draw_mem (s : State) : (draw s).2.mem = s.mem := (rfl)

/-! ## drawBytes -/

@[simp] theorem drawBytes_pending (k : Nat) (s : State) : (drawBytes s k).2.pending = s.pending := (rfl)
@[simp] theorem drawBytes_out (k : Nat) (s : State) : (drawBytes s k).2.out = s.out := (rfl)
@[simp] theorem drawBytes_tsc (k : Nat) (s : State) : (drawBytes s k).2.tsc = s.tsc := (rfl)
@[simp] theorem drawBytes_free (k : Nat) (s : State) : (drawBytes s k).2.free = s.free + 1 := (rfl)
@[simp] theorem drawBytes_fuses (k : Nat) (s : State) : (drawBytes s k).2.fuses = s.fuses := (rfl)
@[simp] theorem drawBytes_boot (k : Nat) (s : State) : (drawBytes s k).2.boot = s.boot := (rfl)
@[simp] theorem drawBytes_fab (k : Nat) (s : State) : (drawBytes s k).2.fab = s.fab := (rfl)
@[simp] theorem drawBytes_link (k : Nat) (s : State) : (drawBytes s k).2.link = s.link := (rfl)
@[simp] theorem drawBytes_acc (k : Nat) (s : State) : (drawBytes s k).2.acc = s.acc := (rfl)
@[simp] theorem drawBytes_adm (k : Nat) (s : State) : (drawBytes s k).2.adm = s.adm := (rfl)
@[simp] theorem drawBytes_flash (k : Nat) (s : State) : (drawBytes s k).2.flash = s.flash := (rfl)
@[simp] theorem drawBytes_cur (k : Nat) (s : State) : (drawBytes s k).2.cur = s.cur := (rfl)
@[simp] theorem drawBytes_care (k : Nat) (s : State) : (drawBytes s k).2.care = s.care := (rfl)
@[simp] theorem drawBytes_cmp (k : Nat) (s : State) : (drawBytes s k).2.cmp = s.cmp := (rfl)
@[simp] theorem drawBytes_gals (k : Nat) (s : State) : (drawBytes s k).2.gals = s.gals := (rfl)
@[simp] theorem drawBytes_kprs (k : Nat) (s : State) : (drawBytes s k).2.kprs = s.kprs := (rfl)
@[simp] theorem drawBytes_rgs (k : Nat) (s : State) : (drawBytes s k).2.rgs = s.rgs := (rfl)
@[simp] theorem drawBytes_cat (k : Nat) (s : State) : (drawBytes s k).2.cat = s.cat := (rfl)
@[simp] theorem drawBytes_mbx (k : Nat) (s : State) : (drawBytes s k).2.mbx = s.mbx := (rfl)
@[simp] theorem drawBytes_dram (k : Nat) (s : State) : (drawBytes s k).2.dram = s.dram := (rfl)
@[simp] theorem drawBytes_sec (k : Nat) (s : State) : (drawBytes s k).2.sec = s.sec := (rfl)
@[simp] theorem drawBytes_pwr (k : Nat) (s : State) : (drawBytes s k).2.pwr = s.pwr := (rfl)
@[simp] theorem drawBytes_tap (k : Nat) (s : State) : (drawBytes s k).2.tap = s.tap := (rfl)
@[simp] theorem drawBytes_mem (k : Nat) (s : State) : (drawBytes s k).2.mem = s.mem := (rfl)

/-! ## drawRandom -/

@[simp] theorem drawRandom_pending (k : Nat) (s : State) : (drawRandom s k).2.pending = s.pending := (rfl)
@[simp] theorem drawRandom_out (k : Nat) (s : State) : (drawRandom s k).2.out = s.out := (rfl)
@[simp] theorem drawRandom_tsc (k : Nat) (s : State) : (drawRandom s k).2.tsc = s.tsc := (rfl)
@[simp] theorem drawRandom_free (k : Nat) (s : State) : (drawRandom s k).2.free = s.free + 1 := (rfl)
@[simp] theorem drawRandom_fuses (k : Nat) (s : State) : (drawRandom s k).2.fuses = s.fuses := (rfl)
@[simp] theorem drawRandom_boot (k : Nat) (s : State) : (drawRandom s k).2.boot = s.boot := (rfl)
@[simp] theorem drawRandom_fab (k : Nat) (s : State) : (drawRandom s k).2.fab = s.fab := (rfl)
@[simp] theorem drawRandom_link (k : Nat) (s : State) : (drawRandom s k).2.link = s.link := (rfl)
@[simp] theorem drawRandom_acc (k : Nat) (s : State) : (drawRandom s k).2.acc = s.acc := (rfl)
@[simp] theorem drawRandom_adm (k : Nat) (s : State) : (drawRandom s k).2.adm = s.adm := (rfl)
@[simp] theorem drawRandom_flash (k : Nat) (s : State) : (drawRandom s k).2.flash = s.flash := (rfl)
@[simp] theorem drawRandom_cur (k : Nat) (s : State) : (drawRandom s k).2.cur = s.cur := (rfl)
@[simp] theorem drawRandom_care (k : Nat) (s : State) : (drawRandom s k).2.care = s.care := (rfl)
@[simp] theorem drawRandom_cmp (k : Nat) (s : State) : (drawRandom s k).2.cmp = s.cmp := (rfl)
@[simp] theorem drawRandom_gals (k : Nat) (s : State) : (drawRandom s k).2.gals = s.gals := (rfl)
@[simp] theorem drawRandom_kprs (k : Nat) (s : State) : (drawRandom s k).2.kprs = s.kprs := (rfl)
@[simp] theorem drawRandom_rgs (k : Nat) (s : State) : (drawRandom s k).2.rgs = s.rgs := (rfl)
@[simp] theorem drawRandom_cat (k : Nat) (s : State) : (drawRandom s k).2.cat = s.cat := (rfl)
@[simp] theorem drawRandom_mbx (k : Nat) (s : State) : (drawRandom s k).2.mbx = s.mbx := (rfl)
@[simp] theorem drawRandom_dram (k : Nat) (s : State) : (drawRandom s k).2.dram = s.dram := (rfl)
@[simp] theorem drawRandom_sec (k : Nat) (s : State) : (drawRandom s k).2.sec = s.sec := (rfl)
@[simp] theorem drawRandom_pwr (k : Nat) (s : State) : (drawRandom s k).2.pwr = s.pwr := (rfl)
@[simp] theorem drawRandom_tap (k : Nat) (s : State) : (drawRandom s k).2.tap = s.tap := (rfl)
@[simp] theorem drawRandom_mem (k : Nat) (s : State) : (drawRandom s k).2.mem = s.mem := (rfl)

/-! ## setCore -/

@[simp] theorem setCore_pending (c : CoreId) (f : Core → Core) (s : State) : (setCore c f s).pending = s.pending := by cases c <;> rfl
@[simp] theorem setCore_out (c : CoreId) (f : Core → Core) (s : State) : (setCore c f s).out = s.out := by cases c <;> rfl
@[simp] theorem setCore_tsc (c : CoreId) (f : Core → Core) (s : State) : (setCore c f s).tsc = s.tsc := by cases c <;> rfl
@[simp] theorem setCore_free (c : CoreId) (f : Core → Core) (s : State) : (setCore c f s).free = s.free := by cases c <;> rfl
@[simp] theorem setCore_fuses (c : CoreId) (f : Core → Core) (s : State) : (setCore c f s).fuses = s.fuses := by cases c <;> rfl
@[simp] theorem setCore_boot (c : CoreId) (f : Core → Core) (s : State) : (setCore c f s).boot = s.boot := by cases c <;> rfl
@[simp] theorem setCore_fab (c : CoreId) (f : Core → Core) (s : State) : (setCore c f s).fab = s.fab := by cases c <;> rfl
@[simp] theorem setCore_link (c : CoreId) (f : Core → Core) (s : State) : (setCore c f s).link = s.link := by cases c <;> rfl
@[simp] theorem setCore_acc (c : CoreId) (f : Core → Core) (s : State) : (setCore c f s).acc = s.acc := by cases c <;> rfl
@[simp] theorem setCore_adm (c : CoreId) (f : Core → Core) (s : State) : (setCore c f s).adm = s.adm := by cases c <;> rfl
@[simp] theorem setCore_flash (c : CoreId) (f : Core → Core) (s : State) : (setCore c f s).flash = s.flash := by cases c <;> rfl
@[simp] theorem setCore_cur (c : CoreId) (f : Core → Core) (s : State) : (setCore c f s).cur = s.cur := by cases c <;> rfl
@[simp] theorem setCore_care (c : CoreId) (f : Core → Core) (s : State) : (setCore c f s).care = s.care := by cases c <;> rfl
@[simp] theorem setCore_cmp (c : CoreId) (f : Core → Core) (s : State) : (setCore c f s).cmp = s.cmp := by cases c <;> rfl
@[simp] theorem setCore_rgs (c : CoreId) (f : Core → Core) (s : State) : (setCore c f s).rgs = s.rgs := by cases c <;> rfl
@[simp] theorem setCore_cat (c : CoreId) (f : Core → Core) (s : State) : (setCore c f s).cat = s.cat := by cases c <;> rfl
@[simp] theorem setCore_mbx (c : CoreId) (f : Core → Core) (s : State) : (setCore c f s).mbx = s.mbx := by cases c <;> rfl
@[simp] theorem setCore_dram (c : CoreId) (f : Core → Core) (s : State) : (setCore c f s).dram = s.dram := by cases c <;> rfl
@[simp] theorem setCore_sec (c : CoreId) (f : Core → Core) (s : State) : (setCore c f s).sec = s.sec := by cases c <;> rfl
@[simp] theorem setCore_pwr (c : CoreId) (f : Core → Core) (s : State) : (setCore c f s).pwr = s.pwr := by cases c <;> rfl
@[simp] theorem setCore_tap (c : CoreId) (f : Core → Core) (s : State) : (setCore c f s).tap = s.tap := by cases c <;> rfl
@[simp] theorem setCore_mem (c : CoreId) (f : Core → Core) (s : State) : (setCore c f s).mem = s.mem := by cases c <;> rfl

end Sys2Proof.Machine
end

