-- ==== Sys2Proof/Laws/Tab.lean ====
section
/-! SUPPORT. Tables: what a read gives after a write. -/

namespace Sys2Proof.Machine

@[simp] theorem Tab.get?_nil {α : Type} (q : Nat) : Tab.get? ([] : Tab α) q = none := rfl

@[simp] theorem Tab.getD_nil {α : Type} (q : Nat) (d : α) : Tab.getD ([] : Tab α) q d = d := rfl

@[simp] theorem Tab.get?_set_same {α : Type} (t : Tab α) (q : Nat) (x : α) : Tab.get? (Tab.set t q x) q = some x := by
  induction t with
  | nil => simp [Tab.set, Tab.get?]
  | cons e t ih =>
    obtain ⟨k, v⟩ := e
    by_cases h : q < k
    · simp [Tab.set, Tab.get?, h]
    · by_cases h2 : q = k
      · simp [Tab.set, Tab.get?, h2]
      · have : k ≠ q := fun h' => h2 h'.symm
        simp [Tab.set, Tab.get?, h, h2, this, ih]

theorem Tab.get?_set_ne {α : Type} (t : Tab α) (q r : Nat) (x : α) (h : r ≠ q) : Tab.get? (Tab.set t q x) r = Tab.get? t r := by
  induction t with
  | nil => simp [Tab.set, Tab.get?, h.symm]
  | cons e t ih =>
    obtain ⟨k, v⟩ := e
    by_cases h1 : q < k
    · simp [Tab.set, Tab.get?, h1, h.symm]
    · by_cases h2 : q = k
      · subst h2
        simp [Tab.set, Tab.get?, h.symm]
      · simp only [Tab.set, h1, h2, if_false, Tab.get?, ih]

@[simp] theorem Tab.getD_set_same {α : Type} (t : Tab α) (q : Nat) (x d : α) : Tab.getD (Tab.set t q x) q d = x := by
  simp [Tab.getD]

theorem Tab.getD_set_ne {α : Type} (t : Tab α) (q r : Nat) (x d : α) (h : r ≠ q) : Tab.getD (Tab.set t q x) r d = Tab.getD t r d := by
  simp [Tab.getD, Tab.get?_set_ne t q r x h]

@[simp] theorem Tab.getD_update_same {α : Type} (t : Tab α) (q : Nat) (d : α) (f : α → α) :
    Tab.getD (Tab.update t q d f) q d = f (Tab.getD t q d) := by
  simp [Tab.update]

theorem Tab.getD_update_ne {α : Type} (t : Tab α) (q r : Nat) (d d' : α) (f : α → α) (h : r ≠ q) :
    Tab.getD (Tab.update t q d f) r d' = Tab.getD t r d' := by
  simp [Tab.update, Tab.getD_set_ne _ _ _ _ _ h]

@[simp] theorem Tab.has_set_same {α : Type} (t : Tab α) (q : Nat) (x : α) : Tab.has (Tab.set t q x) q = true := by
  simp [Tab.has]

@[simp] theorem Tab.get?_adjust_same {α : Type} (t : Tab α) (q : Nat) (f : α → α) : Tab.get? (Tab.adjust t q f) q = (Tab.get? t q).map f := by
  unfold Tab.adjust
  split
  · rename_i h
    simp [h]
  · rename_i x h
    simp [h]

theorem Tab.get?_adjust_ne {α : Type} (t : Tab α) (q r : Nat) (f : α → α) (h : r ≠ q) : Tab.get? (Tab.adjust t q f) r = Tab.get? t r := by
  unfold Tab.adjust
  split
  · rfl
  · exact Tab.get?_set_ne _ _ _ _ h

end Sys2Proof.Machine
end

