-- ==== Sys2Proof/Laws/Core.lean ====
section
/-! SUPPORT. Cores: reads after writes, what counting an event can do, and how an instruction that runs to its end leaves its core. -/

namespace Sys2Proof

open Machine

/-! ## One core after another was changed -/

@[simp] theorem getCore_setCore_same (c : CoreId) (f : Core → Core) (s : State) : getCore (setCore c f s) c = f (getCore s c) := by
  cases c <;> simp [getCore, setCore, setGal, gal]

theorem getCore_setCore_ne (c d : CoreId) (f : Core → Core) (s : State) (h : d ≠ c) : getCore (setCore c f s) d = getCore s d := by
  cases c with
  | docent g k =>
    cases d with
    | docent g' k' =>
      by_cases hg : g' = g
      · subst hg
        have hk : k' ≠ k := fun hk => h (by rw [hk])
        simp [getCore, setCore, setGal, gal, Tab.getD_update_ne _ _ _ _ _ _ hk]
      · simp [getCore, setCore, setGal, gal, Tab.getD_update_ne _ _ _ _ _ _ hg]
    | keeper k' => rfl
  | keeper k =>
    cases d with
    | docent g' k' => rfl
    | keeper k' =>
      have hk : k' ≠ k := fun hk => h (by rw [hk])
      simp [getCore, setCore, Tab.getD_update_ne _ _ _ _ _ _ hk]

theorem gal_setCore (c : CoreId) (f : Core → Core) (s : State) (g : Nat) :
    { gal (setCore c f s) g with cores := [] } = { gal s g with cores := [] } := by
  cases c with
  | docent g' k =>
    by_cases h : g = g'
    · subst h
      simp [setCore, setGal, gal]
    · simp [setCore, setGal, gal, Tab.getD_update_ne _ _ _ _ _ _ h]
  | keeper k => rfl

@[simp] theorem getCore_setHdr (p : Nat) (f : PageHdr → PageHdr) (s : State) (c : CoreId) : getCore (setHdr p f s) c = getCore s c := by
  cases c <;> rfl

@[simp] theorem gal_setHdr (p : Nat) (f : PageHdr → PageHdr) (s : State) (g : Nat) : gal (setHdr p f s) g = gal s g := rfl

@[simp] theorem hdr_setCore (c : CoreId) (f : Core → Core) (s : State) (p : Nat) : hdr (setCore c f s) p = hdr s p := by
  simp [hdr]

@[simp] theorem hdr_setHdr_same (p : Nat) (f : PageHdr → PageHdr) (s : State) : hdr (setHdr p f s) p = f (hdr s p) := by
  simp [hdr, setHdr]

theorem hdr_setHdr_ne (p q : Nat) (f : PageHdr → PageHdr) (s : State) (h : q ≠ p) : hdr (setHdr p f s) q = hdr s q := by
  simp [hdr, setHdr, Tab.getD_update_ne _ _ _ _ _ _ h]

/-! ## Nothing but one core -/

theorem OnlyCore.refl (c : CoreId) (s : State) : OnlyCore c s s := ⟨rfl, fun _ _ => rfl, fun _ => rfl, fun _ _ => rfl⟩

theorem OnlyCore.trans {c : CoreId} {s t u : State} (h1 : OnlyCore c s t) (h2 : OnlyCore c t u) : OnlyCore c s u := by
  obtain ⟨a1, b1, d1, e1⟩ := h1
  obtain ⟨a2, b2, d2, e2⟩ := h2
  refine ⟨?_, fun d hd => (b2 d hd).trans (b1 d hd), fun g => (d2 g).trans (d1 g), fun p hp => (e2 p hp).trans (e1 p hp)⟩
  exact (congrArg (fun v : State => { v with gals := s.gals, kprs := s.kprs, fab := { v.fab with pages := s.fab.pages } }) a2).trans a1

theorem onlyCore_setCore (c : CoreId) (f : Core → Core) (s : State) : OnlyCore c s (setCore c f s) := by
  refine ⟨?_, fun d hd => getCore_setCore_ne c d f s hd, gal_setCore c f s, fun p _ => hdr_setCore c f s p⟩
  cases c <;> rfl

theorem onlyCore_raise (c : CoreId) (w : Word) (s : State) : OnlyCore c s (raiseIrq 256 w s) :=
  ⟨rfl, fun d _ => getCore_setHdr _ _ s d, fun g => by rw [raiseIrq, gal_setHdr], fun p hp => hdr_setHdr_ne 256 p _ s hp⟩

/-! ## Counting an event -/

theorem onlyCore_iteRaise {c : CoreId} {s t : State} (b : Bool) (w : Word) (h : OnlyCore c s t) :
    OnlyCore c s (if b = true then raiseIrq 256 w t else t) := by
  cases b
  · exact h
  · exact h.trans (onlyCore_raise c w t)

theorem getCore_iteRaise (c : CoreId) (t : State) (b : Bool) (p : Nat) (w : Word) :
    getCore (if b = true then raiseIrq p w t else t) c = getCore t c := by
  cases b
  · rfl
  · exact getCore_setHdr _ _ t c

theorem onlyCore_pmcCount (c : CoreId) (i : Nat) (s : State) : OnlyCore c s (pmcCount c i s) :=
  onlyCore_iteRaise _ _ (onlyCore_setCore c _ s)

theorem bare_pmcCount (c : CoreId) (i : Nat) (s : State) : bare (getCore (pmcCount c i s) c) = bare (getCore s c) := by
  refine (congrArg bare (getCore_iteRaise c _ _ _ _)).trans ?_
  rw [getCore_setCore_same]
  rfl

theorem onlyCore_doAll {α : Type} (c : CoreId) (f : α → State → State) (h : ∀ x s, OnlyCore c s (f x s)) (xs : List α) (s : State) :
    OnlyCore c s (doAll f xs s) := by
  induction xs generalizing s with
  | nil => exact OnlyCore.refl c s
  | cons x xs ih => exact (h x s).trans (ih (f x s))

theorem onlyCore_pmcEvent (c : CoreId) (e : Nat) (s : State) : OnlyCore c s (pmcEvent c e s) :=
  onlyCore_doAll c _ (fun i t => onlyCore_pmcCount c i t) _ s

theorem bare_pmcEvent (c : CoreId) (e : Nat) (s : State) : bare (getCore (pmcEvent c e s) c) = bare (getCore s c) := by
  unfold pmcEvent
  generalize (upTo 8).filter (fun i => Tab.getD (getCore s c).pmcSel i 0 == e) = xs
  induction xs generalizing s with
  | nil => rfl
  | cons i xs ih => exact (ih (pmcCount c i s)).trans (bare_pmcCount c i s)

theorem sampleCount_congr (s t : State) (c : CoreId) (n : Nat) (h : t.fab.regs = s.fab.regs) : sampleCount t c n = sampleCount s c n := by
  have hg : ∀ p o, getReg t p o = getReg s p o := fun p o => by simp only [getReg, h]
  cases c with
  | docent g k => exact if_congr (by simp only [regField, regBit, hg]) rfl rfl
  | keeper k => rfl

theorem OnlyCore.regs {c : CoreId} {s t : State} (h : OnlyCore c s t) : t.fab.regs = s.fab.regs := by
  have h1 := h.1
  have h2 := congrArg (fun u : State => u.fab.regs) h1
  exact h2

/-! ## An instruction that runs to its end -/

/-- What retiring leaves of the core. -/
theorem retire_core (c : CoreId) (pc : Option (BitVec 48)) (cost : Nat) (s : State) :
    bare (getCore (retire c pc cost s) c) = bare (retired s c pc cost (getCore s c)) := by
  simp [retire, bare_pmcEvent, retired]

theorem onlyCore_retire (c : CoreId) (pc : Option (BitVec 48)) (cost : Nat) (s : State) : OnlyCore c s (retire c pc cost s) :=
  (onlyCore_setCore c _ s).trans (onlyCore_pmcEvent c _ _)

/-- An instruction that runs does what its body does, on the state in which the products that are due have landed. -/
theorem runInstr_eq (c : CoreId) (op : Nat) (acc : Accepts) (w : Fields) (body : Core → State → IsaRes) (s : State) (h : Runs s c op acc w) :
    runInstr c op acc w body s =
      match body (found s c) (setCore c Core.land s) with
      | .done t pc cost => retire c pc cost t
      | .sleep t => setCore c (fun x => { x with waiting := true }) (retire c none 1 t)
      | .fault code sub t => coreFault c code sub (instrWord op w) (if code = 1 then 0 else if acc.base then effAddr c (found s c) w else 0) t
      | .stall t => setCore c (fun x => { x with stalled := true }) t := by
  obtain ⟨h1, h2, h3, h4⟩ := h
  have hpc : (getCore s c).land.pc = (getCore s c).pc := rfl
  have h5 : (decide (0x33 ≤ op) && !c.isKeeper) = false := by
    rcases h3 with h3 | h3
    · have : ¬ 0x33 ≤ op := by omega
      simp [this]
    · simp [h3]
  simp only [runInstr, h1, getCore_setCore_same, hpc, h2, h5, h4, found]
  rfl

/-- An instruction that only changes its core: the core afterwards, and that nothing else has changed. -/
theorem runInstr_coreOnly (c : CoreId) (op : Nat) (acc : Accepts) (w : Fields) (body : Core → State → IsaRes) (s : State) (h : Runs s c op acc w)
    (pc : Option (BitVec 48)) (cost : Nat) (f : Core → Core)
    (hb : body (found s c) (setCore c Core.land s) = .done (setCore c f (setCore c Core.land s)) pc cost) :
    bare (getCore (runInstr c op acc w body s) c) = bare (retired s c pc cost (f (found s c))) ∧ OnlyCore c s (runInstr c op acc w body s) := by
  rw [runInstr_eq c op acc w body s h, hb]
  have h1 : OnlyCore c s (setCore c f (setCore c Core.land s)) := (onlyCore_setCore c _ s).trans (onlyCore_setCore c _ _)
  refine ⟨?_, h1.trans (onlyCore_retire c pc cost _)⟩
  refine (retire_core c pc cost _).trans ?_
  rw [getCore_setCore_same, getCore_setCore_same]
  simp only [retired, found, sampleCount_congr _ _ c _ h1.regs]

/-! ## Results on lanes -/

theorem getCore_landed (s : State) (c : CoreId) : getCore (landed s c) c = found s c := by simp [landed, found]

theorem onlyCore_landed (s : State) (c : CoreId) : OnlyCore c s (landed s c) := onlyCore_setCore c _ s

theorem bare_retired (s u : State) (c : CoreId) (pc : Option (BitVec 48)) (cost : Nat) (p q : Core) (h : bare p = bare q) (hs : u.fab.regs = s.fab.regs) :
    bare (retired u c pc cost p) = bare (retired s c pc cost q) := by
  have h1 : bare (retired u c pc cost p) = bare (retired s c pc cost p) := by simp only [retired, sampleCount_congr s u c _ hs]
  have h2 : ∀ y, bare (retired s c pc cost y) = bare (retired s c pc cost (bare y)) := fun _ => rfl
  rw [h1, h2 p, h2 q, h]

/-- What a core is after an instruction that changes only it retires. -/
theorem coreBecomes_retire (c : CoreId) (u : State) (pc : Option (BitVec 48)) (cost : Nat) (f : Core → Core) :
    CoreBecomes u (retire c pc cost (setCore c f u)) c pc cost (f (getCore u c)) := by
  refine ⟨?_, (onlyCore_setCore c f u).trans (onlyCore_retire c pc cost _)⟩
  rw [retire_core, getCore_setCore_same]
  exact bare_retired u _ c pc cost _ _ rfl (onlyCore_setCore c f u).regs

theorem CoreBecomes.from {s u t : State} {c : CoreId} {pc : Option (BitVec 48)} {cost : Nat} {y : Core} (h : CoreBecomes u t c pc cost y) (hs : OnlyCore c s u) :
    CoreBecomes s t c pc cost y := ⟨h.1.trans (bare_retired s u c pc cost y y rfl hs.regs), hs.trans h.2⟩

theorem lanesBecome_put (x : Core) (w : Fields) (f : Nat → Nat) : LanesBecome w x.mask x.a (putLanes w f x).a f :=
  fun j hj => laneAt_writeLanes x.a x.mask w.m w.width w.lanes f j (lane_fits w.sz j hj)

theorem laneResult_alu (fl : CarryFlags) (w : Fields) (b : BitVec 512) (op : Nat → Nat → LaneRes) (x : Core) :
    LaneResult x (alu fl w b op x) w fl fun j => op (laneAt x.a w.width j) (laneAt b w.width j) := by
  have h := lanesBecome_put x w (fun j => (op (laneAt x.a w.width j) (laneAt b w.width j)).val)
  cases hf : w.f <;> rcases fl with ⟨c, v⟩ <;> cases c <;> cases v <;>
    simp [LaneResult, alu, hf, flagsZN, flagC, flagV, putLanes] <;> exact h

theorem laneResult_put (w : Fields) (fl : CarryFlags) (r : Nat → LaneRes) (hf : w.f = false) (x : Core) :
    LaneResult x (putLanes w (fun j => (r j).val) x) w fl r :=
  ⟨rfl, lanesBecome_put x w _, fun _ => ⟨rfl, rfl, rfl, rfl⟩, fun h => absurd h (by simp [hf])⟩

theorem ok_f {acc : Accepts} {w : Fields} (h : acc.ok w = true) (hf : acc.f = false) : w.f = false := by
  simp [Accepts.ok, hf] at h
  exact h.1.1.2

theorem ok_m {acc : Accepts} {w : Fields} (h : acc.ok w = true) (hf : acc.m = false) : w.m = false := by
  simp [Accepts.ok, hf] at h
  exact h.1.1.1.2

end Sys2Proof
end

