-- ==== Sys2Proof/Laws/Access.lean ====
section
/-! SUPPORT. What a read of a header, a register, a channel, a die, a controller, a link or a pool gives after a write of one, what a capture leaves, and when a register write takes effect. -/

namespace Sys2Proof

open Machine

/-! ## Headers -/

theorem hdr_setHdr (p q : Nat) (f : PageHdr → PageHdr) (s : State) : hdr (setHdr p f s) q = if q = p then f (hdr s p) else hdr s q := by
  by_cases h : q = p
  · subst h; simp
  · simp [hdr_setHdr_ne _ _ _ _ h, h]

theorem captured_eq (h : PageHdr) (code addr : Nat) : captured h code addr =
    (fun h : PageHdr => let h := { h with errCount := satAdd 0xFFFF h.errCount 1, irqStat := h.irqStat ||| 1 }
      if h.errCode = 0 then { h with errCode := code, errAddr := addrMask addr } else h) h := by
  unfold captured satAdd addrMask
  by_cases hc : h.errCode = 0 <;> simp [hc]

theorem hdr_capture (p q c a : Nat) (s : State) : hdr (capture p c a s) q = if q = p then captured (hdr s p) c a else hdr s q := by
  simp [capture, hdr_setHdr, captured_eq]

theorem hdr_raiseIrq (p q : Nat) (w : Word) (s : State) :
    hdr (raiseIrq p w s) q = if q = p then { hdr s p with irqStat := (hdr s p).irqStat ||| w } else hdr s q := by
  simp [raiseIrq, hdr_setHdr]

/-- What an error capture leaves of the state: everything but the header of its page. -/
theorem capture_frame (p c a : Nat) (s : State) : { capture p c a s with fab := s.fab } = s := rfl

theorem raiseIrq_frame (p : Nat) (w : Word) (s : State) : { raiseIrq p w s with fab := s.fab } = s := rfl

/-! ## Stored registers -/

theorem Tab.get?_del {α : Type} (t : Tab α) (q r : Nat) : Tab.get? (Tab.del t q) r = if r = q then none else Tab.get? t r := by
  induction t with
  | nil => simp [Tab.del, Tab.get?]
  | cons e t ih =>
    obtain ⟨k, v⟩ := e
    by_cases h : k = q
    · subst h
      by_cases h2 : r = k
      · subst h2
        simpa [Tab.del] using ih
      · have : k ≠ r := fun h' => h2 h'.symm
        simp [Tab.del, ih, h2, Tab.get?, this]
    · by_cases h2 : k = r
      · have : r ≠ q := fun h' => h (h2.trans h')
        simp [Tab.del, Tab.get?, h2, this]
      · simp [Tab.del, h, Tab.get?, h2, ih]

theorem Tab.get?_set {α : Type} (t : Tab α) (q r : Nat) (x : α) : Tab.get? (Tab.set t q x) r = if r = q then some x else Tab.get? t r := by
  by_cases h : r = q
  · subst h; simp
  · simp [Tab.get?_set_ne _ _ _ _ h, h]

theorem Tab.get?_put {α : Type} (t : Tab α) (q r : Nat) (x : Option α) : Tab.get? (Tab.put t q x) r = if r = q then x else Tab.get? t r := by
  cases x with
  | none => exact Tab.get?_del t q r
  | some x => exact Tab.get?_set t q r x

@[simp] theorem getReg_putReg_same (p o : Nat) (w : Word) (s : State) : getReg (putReg p o w s) p o = w := by
  unfold getReg putReg
  simp only [Tab.get?_put, if_true]
  by_cases h : w = regReset p o <;> simp [h]

theorem getReg_putReg_ne (p o q r : Nat) (w : Word) (s : State) (h : regKey q r ≠ regKey p o) : getReg (putReg p o w s) q r = getReg s q r := by
  unfold getReg putReg
  simp only [Tab.get?_put, h, if_false]

@[simp] theorem hdr_putReg (p o q : Nat) (w : Word) (s : State) : hdr (putReg p o w s) q = hdr s q := rfl
@[simp] theorem getReg_setHdr (p o q : Nat) (f : PageHdr → PageHdr) (s : State) : getReg (setHdr p f s) q o = getReg s q o := rfl
@[simp] theorem getReg_capture (p c a q o : Nat) (s : State) : getReg (capture p c a s) q o = getReg s q o := rfl
@[simp] theorem getReg_raiseIrq (p q o : Nat) (w : Word) (s : State) : getReg (raiseIrq p w s) q o = getReg s q o := rfl

/-! ## Channels and dies -/

theorem chan_setChan (c d : Nat) (f : Channel → Channel) (s : State) : chan (setChan c f s) d = if d = c then f (chan s c) else chan s d := by
  by_cases h : d = c
  · subst h; simp [chan, setChan, setFlash]
  · simp [chan, setChan, setFlash, Tab.getD_update_ne _ _ _ _ _ _ h, h]

theorem die_setDie (c d e : Nat) (f : Die → Die) (s : State) : die (setDie c d f s) c e = if e = d then f (die s c d) else die s c e := by
  unfold die setDie
  simp only [chan_setChan, if_true]
  by_cases h : e = d
  · subst h; simp
  · simp [Tab.getD_update_ne _ _ _ _ _ _ h, h]

@[simp] theorem chan_setHdr (p c : Nat) (f : PageHdr → PageHdr) (s : State) : chan (setHdr p f s) c = chan s c := rfl
@[simp] theorem chan_capture (p k a c : Nat) (s : State) : chan (capture p k a s) c = chan s c := rfl
@[simp] theorem chan_raiseIrq (p c : Nat) (w : Word) (s : State) : chan (raiseIrq p w s) c = chan s c := rfl
@[simp] theorem chan_putReg (p o c : Nat) (w : Word) (s : State) : chan (putReg p o w s) c = chan s c := rfl
@[simp] theorem hdr_setChan (c p : Nat) (f : Channel → Channel) (s : State) : hdr (setChan c f s) p = hdr s p := rfl
@[simp] theorem getReg_setChan (c p o : Nat) (f : Channel → Channel) (s : State) : getReg (setChan c f s) p o = getReg s p o := rfl

/-! ## Controllers, links, pools, memory channels -/

theorem ctlOf_setCtl (c d : Nat) (f : Controller → Controller) (s : State) : ctlOf (setCtl c f s) d = if d = c then f (ctlOf s c) else ctlOf s d := by
  by_cases h : d = c
  · subst h; simp [ctlOf, setCtl]
  · simp [ctlOf, setCtl, Tab.getD_update_ne _ _ _ _ _ _ h, h]

theorem linkOf_setLink (i j : Nat) (f : SubLink → SubLink) (s : State) : linkOf (setLink i f s) j = if j = i then f (linkOf s i) else linkOf s j := by
  by_cases h : j = i
  · subst h; simp [linkOf, setLink]
  · simp [linkOf, setLink, Tab.getD_update_ne _ _ _ _ _ _ h, h]

theorem pool_setPool (v w : Nat) (f : WingPool → WingPool) (s : State) : pool (setPool v f s) w = if w = v then f (pool s v) else pool s w := by
  by_cases h : w = v
  · subst h; simp [pool, setPool, setCur]
  · simp [pool, setPool, setCur, Tab.getD_update_ne _ _ _ _ _ _ h, h]

theorem drc_setDrc (m n : Nat) (f : DramChan → DramChan) (s : State) : drc (setDrc m f s) n = if n = m then f (drc s m) else drc s n := by
  by_cases h : n = m
  · subst h; simp [drc, setDrc]
  · simp [drc, setDrc, Tab.getD_update_ne _ _ _ _ _ _ h, h]

theorem isl_setIsl_same (i : Island) (f : IslandHdr → IslandHdr) (s : State) : isl (setIsl i f s) i = f (isl s i) := by
  simp [isl, setIsl]

theorem gal_setGal (g h : Nat) (f : Gallery → Gallery) (s : State) : gal (setGal g f s) h = if h = g then f (gal s g) else gal s h := by
  by_cases e : h = g
  · subst e; simp [gal, setGal]
  · simp [gal, setGal, Tab.getD_update_ne _ _ _ _ _ _ e, e]

/-! ## Register writes and records that wait -/

/-- With nothing sent before, nothing is served before. -/
theorem serveEarlier_of (src dst : Island) (s : State) (h : pairRequests s src dst = []) : serveEarlier src dst s = s := by
  simp [serveEarlier, h, doAll]

/-- An access that no window ends, for an island that is awake and has nothing sent before to serve, is made at once. -/
theorem sendAccess_of (who : Requester) (page off : Nat) (op : CrossOp) (f : State → State) (s : State)
    (ha : ∀ i ∈ servingIsland page off, heldBy s i off = false) (hb : NothingBefore s who (servingIsland page off)) :
    sendAccess who page off op f s = f s := by
  unfold sendAccess
  cases hi : servingIsland page off with
  | none => rfl
  | some i =>
    rw [hi] at ha hb
    simp [ha i rfl, serveEarlier_of _ _ _ (hb i rfl)]

/-- A register write that may be made has its effect. -/
theorem keeperWrite_of (who : Requester) (page off : Nat) (v : Word) (f : State → State) (s : State) (h : MayWrite s who page off) :
    keeperWrite who page off v f s = f s := by
  obtain ⟨h1, h2, h3, h4, h5, h6⟩ := h
  unfold keeperWrite
  rw [sendAccess_of _ _ _ _ _ _ h2 h3]
  simp [h1, h4, h5, h6]

/-- Where nothing waits there is nothing to settle. -/
theorem settle_of (s : State) (h : Settled s) : settle s = s := by
  have h1 : freshRecords s = [] := h.1
  have h2 : endLost s = s := by
    rcases h.2 with h | h <;> simp [endLost, h]
  simp [settle, doAll, h1, h2]

end Sys2Proof
end

