-- ==== Sys2Proof/Laws/Memory.lean ====
section
/-! SUPPORT. Memory: reads after writes, and that every operation keeps the canonical form. -/

namespace Sys2Proof.Machine

/-! ## The canonical form -/

/-- Every address of a memory lies above a bound. -/
def Memory.above (b : Nat) (m : List Host.Cell) : Prop := ∀ c ∈ m, b < c.1

theorem Memory.wf_cons (a : Nat) (v : Byte) (m : List Host.Cell) :
    Memory.wf ((a, v) :: m) = true ↔ v ≠ 0 ∧ Memory.above a m ∧ Memory.wf m = true := by
  induction m generalizing a v with
  | nil => simp [Memory.wf, Memory.above]
  | cons e m ih =>
    obtain ⟨c, d⟩ := e
    have h := ih c d
    simp only [Memory.wf, Bool.and_eq_true, bne_iff_ne, ne_eq, decide_eq_true_eq]
    constructor
    · rintro ⟨⟨h1, h2⟩, h3⟩
      refine ⟨h1, ?_, h3⟩
      intro x hx
      rcases List.mem_cons.mp hx with rfl | hx
      · exact h2
      · exact Nat.lt_trans h2 ((h.mp h3).2.1 x hx)
    · rintro ⟨h1, h2, h3⟩
      exact ⟨⟨h1, h2 (c, d) (List.mem_cons_self ..)⟩, h3⟩

theorem memPut_above (m : List Host.Cell) (a b : Nat) (v : Byte) (h : Memory.above b m) (hb : b < a) : Memory.above b (memPut m a v) := by
  induction m with
  | nil =>
    unfold memPut
    split
    · exact h
    · intro x hx
      simp at hx
      subst hx
      exact hb
  | cons e m ih =>
    obtain ⟨k, w⟩ := e
    have hm : Memory.above b m := fun x hx => h x (List.mem_cons_of_mem _ hx)
    have hk : b < k := h (k, w) (List.mem_cons_self ..)
    unfold memPut
    split
    · split
      · exact h
      · intro x hx
        rcases List.mem_cons.mp hx with rfl | hx
        · exact hb
        · exact h x hx
    · split
      · split
        · exact hm
        · intro x hx
          rcases List.mem_cons.mp hx with rfl | hx
          · exact hb
          · exact hm x hx
      · intro x hx
        rcases List.mem_cons.mp hx with rfl | hx
        · exact hk
        · exact ih hm x hx

/-- A write of a byte keeps the canonical form. -/
theorem memPut_wf (m : List Host.Cell) (a : Nat) (v : Byte) (h : Memory.wf m = true) : Memory.wf (memPut m a v) = true := by
  induction m with
  | nil =>
    unfold memPut
    split
    · rfl
    · rename_i hv
      simpa [Memory.wf] using hv
  | cons e m ih =>
    obtain ⟨k, w⟩ := e
    obtain ⟨h1, h2, h3⟩ := (Memory.wf_cons k w m).mp h
    unfold memPut
    split
    · rename_i hak
      split
      · exact h
      · rename_i hv
        refine (Memory.wf_cons _ _ _).mpr ⟨hv, ?_, h⟩
        intro x hx
        rcases List.mem_cons.mp hx with rfl | hx
        · exact hak
        · exact Nat.lt_trans hak (h2 x hx)
    · split
      · rename_i _ hak
        subst hak
        split
        · exact h3
        · rename_i hv
          exact (Memory.wf_cons _ _ _).mpr ⟨hv, h2, h3⟩
      · rename_i h4 h5
        exact (Memory.wf_cons _ _ _).mpr ⟨h1, memPut_above m a k v h2 (by omega), ih h3⟩

theorem memPutBytes_wf (m : List Host.Cell) (a : Nat) (bs : List Byte) (h : Memory.wf m = true) : Memory.wf (memPutBytes m a bs) = true := by
  induction bs generalizing m a with
  | nil => exact h
  | cons b bs ih => exact ih _ _ (memPut_wf m a b h)

theorem Memory.wf_filter (m : List Host.Cell) (p : Host.Cell → Bool) (h : Memory.wf m = true) : Memory.wf (m.filter p) = true := by
  induction m with
  | nil => rfl
  | cons e m ih =>
    obtain ⟨k, w⟩ := e
    obtain ⟨h1, h2, h3⟩ := (Memory.wf_cons k w m).mp h
    rw [List.filter_cons]
    split
    · exact (Memory.wf_cons _ _ _).mpr ⟨h1, fun x hx => h2 x (List.mem_filter.mp hx).1, ih h3⟩
    · exact ih h3

/-- Zeroing a range keeps the canonical form. -/
theorem memClear_wf (m : List Host.Cell) (a b : Nat) (h : Memory.wf m = true) : Memory.wf (memClear m a b) = true := Memory.wf_filter m _ h

theorem writeMem_wf (a : Nat) (bs : List Byte) (s : State) (h : Memory.wf s.mem = true) : Memory.wf (writeMem a bs s).mem = true :=
  memPutBytes_wf s.mem a bs h

theorem clearMem_wf (a b : Nat) (s : State) (h : Memory.wf s.mem = true) : Memory.wf (clearMem a b s).mem = true := memClear_wf s.mem a b h

theorem clearChannel_wf (n l : Nat) (s : State) (h : Memory.wf s.mem = true) : Memory.wf (clearChannel n l s).mem = true :=
  Memory.wf_filter s.mem _ h

/-! ## Reads after writes -/

theorem memGet_above (m : List Host.Cell) (a b : Nat) (h : Memory.above b m) (hab : a ≤ b) : memGet m a = 0 := by
  cases m with
  | nil => rfl
  | cons e m =>
    obtain ⟨k, w⟩ := e
    have hk : b < k := h (k, w) (List.mem_cons_self ..)
    have h1 : k ≠ a := by omega
    have h2 : a < k := by omega
    simp [memGet, h1, h2]

/-- A byte that has been written reads as it was written. -/
theorem memGet_memPut_same (m : List Host.Cell) (a : Nat) (v : Byte) (h : Memory.wf m = true) : memGet (memPut m a v) a = v := by
  induction m with
  | nil =>
    unfold memPut
    split
    · rename_i hv
      simp [memGet, hv]
    · simp [memGet]
  | cons e m ih =>
    obtain ⟨k, w⟩ := e
    obtain ⟨h1, h2, h3⟩ := (Memory.wf_cons k w m).mp h
    unfold memPut
    split
    · rename_i hak
      have hne : k ≠ a := by omega
      split
      · rename_i hv
        simp [memGet, hne, hak, hv]
      · simp [memGet]
    · split
      · rename_i _ hak
        subst hak
        split
        · rename_i hv
          rw [hv]
          exact memGet_above m a a h2 (Nat.le_refl _)
        · simp [memGet]
      · rename_i h4 h5
        have hne : k ≠ a := fun h' => h5 h'.symm
        simp [memGet, hne, h4, ih h3]

/-- Every other byte reads as before. -/
theorem memGet_memPut_ne (m : List Host.Cell) (a b : Nat) (v : Byte) (h : Memory.wf m = true) (hab : b ≠ a) :
    memGet (memPut m a v) b = memGet m b := by
  induction m with
  | nil =>
    unfold memPut
    split
    · rfl
    · simp [memGet, hab.symm]
  | cons e m ih =>
    obtain ⟨k, w⟩ := e
    obtain ⟨h1, h2, h3⟩ := (Memory.wf_cons k w m).mp h
    unfold memPut
    split
    · rename_i hak
      split
      · rfl
      · by_cases hba : b < a
        · have e1 : k ≠ b := by omega
          have e2 : b < k := by omega
          simp [memGet, hab.symm, hba, e1, e2]
        · simp [memGet, hab.symm, hba]
    · split
      · rename_i _ hak
        subst hak
        split
        · by_cases hba : b < a
          · rw [memGet_above m b a h2 (by omega)]
            simp [memGet, hab.symm, hba]
          · simp [memGet, hab.symm, hba]
        · simp [memGet, hab.symm]
      · by_cases hkb : k = b
        · simp [memGet, hkb]
        · by_cases hbk : b < k
          · simp [memGet, hkb, hbk]
          · simp [memGet, hkb, hbk, ih h3]

/-- Bytes outside those written read as before. -/
theorem memGet_memPutBytes_ne (m : List Host.Cell) (a b : Nat) (bs : List Byte) (h : Memory.wf m = true) (hb : b < a ∨ a + bs.length ≤ b) :
    memGet (memPutBytes m a bs) b = memGet m b := by
  induction bs generalizing m a with
  | nil => rfl
  | cons v bs ih =>
    rw [memPutBytes, ih (memPut m a v) (a + 1) (memPut_wf m a v h), memGet_memPut_ne m a b v h]
    · rcases hb with hb | hb
      · omega
      · simp only [List.length_cons] at hb
        omega
    · rcases hb with hb | hb
      · omega
      · simp only [List.length_cons] at hb
        omega

/-- Byte i of what was written reads back. -/
theorem memGet_memPutBytes_same (m : List Host.Cell) (a i : Nat) (bs : List Byte) (h : Memory.wf m = true) (hi : i < bs.length) :
    memGet (memPutBytes m a bs) (a + i) = bs[i] := by
  induction bs generalizing m a i with
  | nil => exact absurd hi (Nat.not_lt_zero _)
  | cons v bs ih =>
    rw [memPutBytes]
    cases i with
    | zero =>
      show memGet (memPutBytes (memPut m a v) (a + 1) bs) a = v
      rw [memGet_memPutBytes_ne _ (a + 1) a _ (memPut_wf m a v h) (Or.inl (Nat.lt_succ_self a)), memGet_memPut_same m a v h]
    | succ i =>
      have := ih (memPut m a v) (a + 1) i (memPut_wf m a v h) (by simpa using hi)
      simpa [Nat.add_assoc, Nat.add_comm 1 i] using this

end Sys2Proof.Machine
end

