-- ==== Sys2Proof/WellFormed.lean ====
section
/-! DEFINITION. Which commands are well formed: every index is within the range the die gives its resource. A variant may provide fewer; a command to an absent one is well formed and meets the manual's defined error (R3). -/

namespace Sys2Proof

open Machine

/-- Island instances of the die (R15). -/
def Machine.Island.wf : Island → Bool
  | .host p => decide (p < 2)
  | .wing w => decide (w < 8)
  | .gallery g => decide (g < 16)
  | .compress c => decide (c < 2)
  | .dram n => decide (n < 8)
  | .accession => true
  | .keeper => true
  | .registrar => true
  | .catalogue => true
  | .security => true
  | .alwaysOn => true

/-- Requesters of the die: four keeper cores, 17 Docent cores in each of 16 galleries, two ports. -/
def Machine.Requester.wf : Requester → Bool
  | .keeper k => decide (k < 4)
  | .docent g k => decide (g < 16) && decide (k ≤ 16)
  | .host p => decide (p < 2)
  | .engine i => i.wf

/-- Cores of the die (R356). -/
def Machine.CoreId.wf : CoreId → Bool
  | .docent g k => decide (g < 16) && decide (k ≤ 16)
  | .keeper k => decide (k < 4)

/-- A command of one of 128 controllers, 16,384 pooled queues and a 16-bit identifier (R71, R99). -/
def Machine.CmdRef.wf (r : CmdRef) : Bool := decide (r.ctl < 128) && decide (r.sq < 65536) && decide (r.cid < 65536)

/-- The command is well formed. -/
def Instr.wf : Instr → Bool
  | .crossingRequest _ src dst _ _ => src.wf && dst.wf
  | .islandWake dst => dst.wf
  | .crossingResponse _ => true
  | .staleResponseDrop _ => true
  | .registerWrite who _ _ _ _ => who.wf
  | .pgLock who _ => who.wf
  | .pgEnableWrite who _ _ => who.wf
  | .quiesceRequest who _ => who.wf
  | .quiesceRelease who _ => who.wf
  | .quiesceDone _ => true
  | .islandReinit who _ => who.wf
  | .islandReady dst => dst.wf
  | .irqStatusClear who _ _ => who.wf
  | .irqSet who _ _ => who.wf
  | .errAddrLoRead who _ => who.wf
  | .topUidLoRead who => who.wf
  | .tscLoRead who => who.wf
  | .counterLoRead who _ _ => who.wf
  | .hostBar2Read port _ _ => decide (port < 2)
  | .hostBar2Write port _ _ _ => decide (port < 2)
  | .powerOn => true
  | .perstAssert _ => true
  | .perstRelease => true
  | .keeperFirmwareRunning => true
  | .configRequest ctl _ _ => decide (ctl < 128)
  | .deviceReset _ => true
  | .resetDumpEnd => true
  | .linkTrainingDone port sub _ => decide (port < 2) && decide (sub < 4)
  | .surpriseDown port sub => decide (port < 2) && decide (sub < 4)
  | .linkRetrain who port sub => who.wf && decide (port < 2) && decide (sub < 4)
  | .completionTimeout port sub _ => decide (port < 2) && decide (sub < 4)
  | .hostCompletionTlp port sub _ _ => decide (port < 2) && decide (sub < 4)
  | .barUnsupportedRequest ctl _ _ _ _ => decide (ctl < 128)
  | .bar0BadAccess ctl _ _ _ => decide (ctl < 128)
  | .controllerRegisterWrite ctl _ _ _ => decide (ctl < 128)
  | .vfEnable port sub _ => decide (port < 2) && decide (sub < 4)
  | .sqDoorbell ctl _ _ => decide (ctl < 128)
  | .cqDoorbell ctl _ _ => decide (ctl < 128)
  | .nssrWrite ctl _ => decide (ctl < 128)
  | .controllerEnable ctl _ => decide (ctl < 128)
  | .controllerReady ctl => decide (ctl < 128)
  | .controllerReset ctl => decide (ctl < 128)
  | .functionLevelReset ctl => decide (ctl < 128)
  | .shutdownNotification ctl _ => decide (ctl < 128)
  | .shutdownComplete ctl => decide (ctl < 128)
  | .sqeFetch => true
  | .sqeArrive ctl _ _ => decide (ctl < 128)
  | .commandStart ref => ref.wf
  | .commandComplete ref => ref.wf
  | .cqePost ctl _ => decide (ctl < 128)
  | .coalesceTimerExpiry ctl _ => decide (ctl < 128)
  | .msixUnmask ctl _ => decide (ctl < 128)
  | .deleteIoSq ref _ => ref.wf
  | .createIoSq ref _ _ _ _ _ => ref.wf
  | .deleteIoCq ref _ => ref.wf
  | .createIoCq ref _ _ _ _ _ => ref.wf
  | .getLogPage ref _ _ _ _ => ref.wf
  | .identify ref _ _ _ => ref.wf
  | .abort ref _ _ => ref.wf
  | .setFeatures ref _ _ _ _ _ => ref.wf
  | .getFeatures ref _ _ _ => ref.wf
  | .asyncEventRequest ref => ref.wf
  | .nsMgmtCreate ref _ => ref.wf
  | .nsMgmtDelete ref => ref.wf
  | .nsAttach ref _ => ref.wf
  | .nsDetach ref _ => ref.wf
  | .firmwareImageDownload ref _ _ _ => ref.wf
  | .firmwareCommitReplace ref _ _ => ref.wf
  | .firmwareCommitAtReset ref _ => ref.wf
  | .firmwareCommitSlotSelect ref _ => ref.wf
  | .firmwareCommitImmediate ref _ => ref.wf
  | .fwActivationStart => true
  | .fwActivationTimeout => true
  | .fwActivationComplete => true
  | .selfTestShort ref => ref.wf
  | .selfTestExtended ref => ref.wf
  | .selfTestAbort ref => ref.wf
  | .selfTestComplete _ => true
  | .virtualizationManagement ref _ _ _ _ => ref.wf
  | .formatNvm ref _ _ => ref.wf
  | .formatComplete => true
  | .sanitizeBlockErase ref _ => ref.wf
  | .sanitizeCryptoErase ref => ref.wf
  | .sanitizeExitFailure ref => ref.wf
  | .sanitizeComplete _ => true
  | .smbusMiRead _ _ => true
  | .sidebandRefresh => true
  | .wingDiscovery who wing _ => who.wf && decide (wing < 8)
  | .referenceGeometryFound => true
  | .channelTrainingDone ch _ => decide (ch < 96)
  | .channelRetrain who ch => who.wf && decide (ch < 96)
  | .channelOperationSubmit ch _ _ _ => decide (ch < 96)
  | .channelOperationStart ch => decide (ch < 96)
  | .flashRead ch die _ => decide (ch < 96) && decide (die < 16)
  | .flashVerify ch die _ => decide (ch < 96) && decide (die < 16)
  | .flashProgram ch die _ _ => decide (ch < 96) && decide (die < 16)
  | .flashErase ch die _ _ => decide (ch < 96) && decide (die < 16)
  | .flashReadStatus ch die _ => decide (ch < 96) && decide (die < 16)
  | .dieOperationEnd ch die => decide (ch < 96) && decide (die < 16)
  | .bufferSlotRelease ch _ => decide (ch < 96)
  | .operationResume ch die => decide (ch < 96) && decide (die < 16)
  | .dieBusyTimeout ch die => decide (ch < 96) && decide (die < 16)
  | .dieResetTimeout ch die => decide (ch < 96) && decide (die < 16)
  | .keeperDieCheck ch die _ _ => decide (ch < 96) && decide (die < 16)
  | .fenceRecordDurable ch die => decide (ch < 96) && decide (die < 16)
  | .fencedDieResponse ch die => decide (ch < 96) && decide (die < 16)
  | .dieFence who ch die => who.wf && decide (ch < 96) && decide (die < 16)
  | .dieQualify who ch die => who.wf && decide (ch < 96) && decide (die < 16)
  | .dieQualifyEnd ch _ => decide (ch < 96)
  | .channelQualify who ch => who.wf && decide (ch < 96)
  | .dieRestoreFence who ch die _ => who.wf && decide (ch < 96) && decide (die < 16)
  | .pfailAssert _ => true
  | .dumpDieCutoff _ => true
  | .dumpEnd => true
  | .pfailDeassert => true
  | .holdupMeasure => true
  | .holdupMeasureEnd _ _ => true
  | .bankCharged => true
  | .bankChargeTimeout => true
  | .read ref _ _ => ref.wf
  | .write ref _ _ => ref.wf
  | .writeChargeAdmit ref => ref.wf
  | .writeZeroes ref _ _ => ref.wf
  | .datasetManagement ref _ _ => ref.wf
  | .compare ref _ _ => ref.wf
  | .verify ref _ _ => ref.wf
  | .flush ref => ref.wf
  | .mapEntryRestore _ _ => true
  | .partialMuFill _ => true
  | .inlineCompressRequest _ => true
  | .inlineCompressDone _ => true
  | .inlineDecompressRequest ref _ => ref.wf
  | .pageFillTimeout _ => true
  | .pageProgrammed _ => true
  | .parityProgrammed _ _ => true
  | .stripeSetOpen wing _ => decide (wing < 8)
  | .parityRelease _ => true
  | .garbageCollectionStart wing => decide (wing < 8)
  | .relocation _ => true
  | .stripeSetFree _ => true
  | .blockDeaccession _ _ => true
  | .journalPageDurable => true
  | .journalAdvance => true
  | .rootRecordWrite => true
  | .recovery _ => true
  | .dumpConsumed => true
  | .latencyWindowEnd => true
  | .patrolVerify => true
  | .thresholdRewrite _ => true
  | .effectiveAgeTick _ => true
  | .blockGroupCalibration ch die _ => decide (ch < 96) && decide (die < 16)
  | .retrainTrigger dram n => decide (n < if dram then 8 else 96)
  | .scheduleRecordWrite => true
  | .sensorInvalid n _ => decide (n < 42)
  | .sensorRevalid n _ => decide (n < 42)
  | .thermalLoopTick _ => true
  | .utilisationDvfsEval _ => true
  | .monitorEventSample _ _ _ => true
  | .monitorLevelSample j => decide (j < 128)
  | .monCountLoRead who j => who.wf && decide (j < 128)
  | .monClr who j => who.wf && decide (j < 128)
  | .monitorConfigWrite who j _ _ => who.wf && decide (j < 128)
  | .cmpRingTailWrite who island ring _ => who.wf && decide (island < 2) && decide (ring < 32)
  | .cmpRingEnable who island ring _ => who.wf && decide (island < 2) && decide (ring < 32)
  | .cmpJobFetch island => decide (island < 2)
  | .cmpJobCompress _ => true
  | .cmpJobDecompress _ => true
  | .cmpJobComplete _ => true
  | .opIll c _ => c.wf
  | .opLd c _ => c.wf
  | .opSt c _ => c.wf
  | .opLdi c _ => c.wf
  | .opAdd c _ => c.wf
  | .opSub c _ => c.wf
  | .opRsb c _ => c.wf
  | .opAddi c _ => c.wf
  | .opAnd c _ => c.wf
  | .opOr c _ => c.wf
  | .opXor c _ => c.wf
  | .opMin c _ => c.wf
  | .opMax c _ => c.wf
  | .opCmpeq c _ => c.wf
  | .opCmpgt c _ => c.wf
  | .opCmplt c _ => c.wf
  | .opTst c _ => c.wf
  | .opShl c _ => c.wf
  | .opShr c _ => c.wf
  | .opSld c _ => c.wf
  | .opSlu c _ => c.wf
  | .opSel c _ => c.wf
  | .opHsum c _ => c.wf
  | .opAbs c _ => c.wf
  | .opMcnt c _ => c.wf
  | .opMfst c _ => c.wf
  | .opMld c _ => c.wf
  | .opMst c _ => c.wf
  | .opMnot c _ => c.wf
  | .opXadd c _ => c.wf
  | .opMul c _ => c.wf
  | .opMula c _ => c.wf
  | .productLand c => c.wf
  | .opLdlo c _ => c.wf
  | .opLdhi c _ => c.wf
  | .opAdlo c _ => c.wf
  | .opIxl c _ => c.wf
  | .opIxs c _ => c.wf
  | .opIyl c _ => c.wf
  | .opIys c _ => c.wf
  | .opIxa c _ => c.wf
  | .opIya c _ => c.wf
  | .opIxc c _ => c.wf
  | .opIyc c _ => c.wf
  | .opXfr c _ => c.wf
  | .opBr c _ => c.wf
  | .opCall c _ => c.wf
  | .opRet c _ => c.wf
  | .opEnd c _ => c.wf
  | .opTkt c _ => c.wf
  | .opNop c _ => c.wf
  | .opFence c _ => c.wf
  | .opFld c _ => c.wf
  | .opFst c _ => c.wf
  | .opPrd c _ => c.wf
  | .opPwr c _ => c.wf
  | .opMbp c _ => c.wf
  | .opMbt c _ => c.wf
  | .opCsave c _ => c.wf
  | .opCrest c _ => c.wf
  | .opSetg c _ => c.wf
  | .opMfs c _ => c.wf
  | .opMts c _ => c.wf
  | .opIret c _ => c.wf
  | .opWait c _ => c.wf
  | .keeperInterruptEntry k => decide (k < 4)
  | .winClaimRead g k w => decide (g < 16) && decide (k ≤ 16) && decide (w < 8)
  | .winReleaseWrite g k w _ => decide (g < 16) && decide (k ≤ 16) && decide (w < 8)
  | .catalogueKeyStore g k _ _ => decide (g < 16) && decide (k ≤ 16)
  | .search g k _ => decide (g < 16) && decide (k ≤ 16)
  | .searchResult g k => decide (g < 16) && decide (k ≤ 16)
  | .resultRead g k => decide (g < 16) && decide (k ≤ 16)
  | .docIcacheInv who g _ => who.wf && decide (g < 16)
  | .keeperCoreStart who k => who.wf && decide (k < 4)
  | .keeperCoreStop who k => who.wf && decide (k < 4)
  | .loadProgram ref _ _ => ref.wf
  | .programActivate ref _ _ _ => ref.wf
  | .programDeactivate ref _ => ref.wf
  | .memoryRangeSetManagement ref _ _ _ => ref.wf
  | .executeProgram ref _ _ _ => ref.wf
  | .executionStart ref => ref.wf
  | .executionEnd _ => true
  | .readMemory ref _ _ => ref.wf
  | .writeMemory ref _ _ => ref.wf
  | .ticketSubmit c desc => c.wf && decide (desc.length = 64)
  | .moveSubmit c desc => c.wf && decide (desc.length = 64)
  | .streamHalfFilled g w => decide (g < 16) && decide (w < 8)
  | .streamEnd g w => decide (g < 16) && decide (w < 8)
  | .outMoveComplete _ => true
  | .ticketPost _ _ => true
  | .ticketEnd g k _ => decide (g < 16) && decide (k ≤ 16)
  | .ticketDispatch => true
  | .delayListTick i => decide (i < 16)
  | .delayedTicketExpiry i => decide (i < 16)
  | .ticketBudgetExpiry _ => true
  | .stopTimeoutFence g k => decide (g < 16) && decide (k ≤ 16)
  | .fencedCoreRequest g k => decide (g < 16) && decide (k ≤ 16)
  | .runLimitExpiry _ => true
  | .rgsExecCancel who _ => who.wf
  | .rgsSlotCancel who _ => who.wf
  | .contextWrite who => who.wf
  | .contextRead who => who.wf
  | .delayListPeriodWrite who i _ => who.wf && decide (i < 16)
  | .gallerySelfTestDone g _ => decide (g < 16)
  | .catChainWrite who chain _ => who.wf && decide (chain < 16)
  | .catWrite who chain => who.wf && decide (chain < 16)
  | .catInvalidate who chain => who.wf && decide (chain < 16)
  | .catMove who chain => who.wf && decide (chain < 16)
  | .catRead who chain _ => who.wf && decide (chain < 16)
  | .catKeeperSearch who chain => who.wf && decide (chain < 16)
  | .catInvalidateTag who chain => who.wf && decide (chain < 16)
  | .catInvalidateTagEnd => true
  | .catUndefinedOp who _ chain => who.wf && decide (chain < 16)
  | .catScrubTick _ => true
  | .dramAccess _ _ _ _ => true
  | .refreshDue n rank => decide (n < 8) && decide (rank < 2)
  | .refreshRatePoll n rank _ => decide (n < 8) && decide (rank < 2)
  | .caParityAlert n => decide (n < 8)
  | .caRetrainEnd n _ => decide (n < 8)
  | .dramScrubRead n _ => decide (n < 8)
  | .dramTrainingEnd n _ => decide (n < 8)
  | .drcRetrain who n => who.wf && decide (n < 8)
  | .retrainStep n _ => decide (n < 8)
  | .drcInitSkip who n _ => who.wf && decide (n < 8)
  | .dramInitDone n => decide (n < 8)
  | .keyGenerate who _ _ _ _ => who.wf
  | .keyUnwrap who _ _ => who.wf
  | .keyClear who _ _ => who.wf
  | .keyStatus who _ _ => who.wf
  | .sceAcquire k => decide (k < 4)
  | .sceRelease k => decide (k < 4)
  | .sceForce who _ => who.wf
  | .sceMessageStart k _ => decide (k < 4)
  | .sceMessageEnd => true
  | .dgeHashPart who e _ => who.wf && decide (e < 2)
  | .dgeSave who e => who.wf && decide (e < 2)
  | .dgeRestore who e => who.wf && decide (e < 2)
  | .dgePartEnd e => decide (e < 2)
  | .dgeData who e _ => who.wf && decide (e < 2)
  | .dgeLast who e _ => who.wf && decide (e < 2)
  | .keyPkRevoke who _ => who.wf
  | .keyRollback who _ => who.wf
  | .securityAlarm _ => true
  | .almRearm who => who.wf
  | .mailboxPost c chan _ => c.wf && decide (chan < 512)
  | .mailboxTake c chan => c.wf && decide (chan < 512)
  | .mailboxTimeout chan => decide (chan < 512)
  | .mailboxRecall c chan => c.wf && decide (chan < 512)
  | .postResultRead g k => decide (g < 16) && decide (k ≤ 16)
  | .mailboxConfigWrite who chan _ => who.wf && decide (chan < 512)
  | .pmcSelect who _ => who.wf
  | .pmcEventSelect who _ _ => who.wf
  | .pmcClear who _ => who.wf
  | .pmcCounterWrap c _ => c.wf
  | .pmcSample g k _ _ _ => decide (g < 16) && decide (k ≤ 16)
  | .islandPowerOff who n => who.wf && decide (n < 42)
  | .islandPowerOn who n => who.wf && decide (n < 42)
  | .psEntry _ => true
  | .operationalStateChange _ => true
  | .psExit => true
  | .ps4Exit => true
  | .apstTransition ctl => decide (ctl < 128)
  | .pwrDevReset who _ => who.wf
  | .kwdogKick who => who.wf
  | .kwdogExpiry => true
  | .keeperAutoReinit n => decide (n < 42)
  | .rankpwrEnable k => decide (k < 4)
  | .railOutOfTolerance _ => true
  | .tapReset => true
  | .tapIdcode => true
  | .tapBypass => true
  | .tapSamplePreload _ _ => true
  | .tapExtest _ _ => true
  | .tapHighz => true
  | .tapClamp => true
  | .tapExtestPulse _ => true
  | .tapExtestTrain _ => true
  | .resetLunComplete ch die => decide (ch < 96) && decide (die < 16)
  | .powerOff => true
  | .aspmL1Entry port sub _ => decide (port < 2) && decide (sub < 4)
  | .aspmL1Exit port sub => decide (port < 2) && decide (sub < 4)
  | .linkError port sub _ => decide (port < 2) && decide (sub < 4)
  | .supplySetpointRaise n _ => decide (n < 42)
  | .lifetimeValuesUpdate => true

end Sys2Proof
end

