-- ==== Sys2Proof/Tests/Slice0.lean ====
section
/-! SUPPORT. Tests: words and values of the manual's own examples and of the public standards it names, the ill-formed commands, and for every
obligation with hypotheses a concrete state and operands that meet all of them, clause by clause (`meets_<Name>`). -/

namespace Sys2Proof.Machine

/-- The bytes, the extra cycles and the state of a load that brings something. -/
def LoadRes.bs : LoadRes → List Byte | .got b _ _ => b | _ => []
def LoadRes.ex : LoadRes → Nat | .got _ e _ => e | _ => 0
def LoadRes.st : LoadRes → State | .got _ _ s => s | _ => {}
/-- The code, the subcode and the state of a store. -/
def StoreRes.cd : StoreRes → Nat | .fault c _ _ => c | .done _ => 0
def StoreRes.sb : StoreRes → Nat | .fault _ b _ => b | .done _ => 0
def StoreRes.st : StoreRes → State | .fault _ _ s => s | .done s => s

end Sys2Proof.Machine

namespace Sys2Proof.Tests

open Sys2Proof.Machine

set_option maxRecDepth 4000
set_option Elab.async false

/-! ## Helpers: small states -/

/-- Keeper core 0 running with these registers. -/
def sK (x : Core) : State := { kprs := [(0, { x with running := true, pc := 0x011000000000 })] }
/-- Docent core 0 of gallery 0 serving ticket 0 with these registers. -/
def sD (x : Core) : State := { gals := [(0, { cores := [(0, { x with serving := some 0 })] })] }
/-- The fields of a word of zeros. -/
def w0 : Fields := { sz := 0, base := 0, mods := 0, disp := 0 }
/-- Port 0 is up and BAR0 of controller 0 answers. -/
def sBar (x : Controller) : State := { link := { links := [(0, { rate := 5, width := 4 })], firmwareRuns := true }, acc := { ctls := [(0, { x with cfg := { x.cfg with barEnable := true } })] } }
/-- Port 0 has trained at rate 5 on 4 lanes. -/
def lk : HostLink := { links := [(0, { rate := 5, width := 4 })], firmwareRuns := true }
/-- An admin command that has started. -/
def admc (op nsid : Nat) : Cmd := { ref := { ctl := 0, sq := 0, cid := 1 }, opcode := op, nsid := nsid, phase := .started }
/-- A ready controller with its admin queues. -/
def ctl0 : Controller := {
  cc := 0x460001, rdy := true, vq := 8, vi := 8, cfg := { barEnable := true, msixEnable := true },
  sqs := [(0, { size := 4, cqid := 0, prio := 0, tail := 1 })], cqs := [(0, { size := 4, vector := 0, ien := true })] }
/-- An admin command of controller 0 that has started. -/
def sA (op nsid : Nat) (x : Controller) (adm : Admin) : State := { link := lk, acc := { cmds := [admc op nsid], ctls := [(0, x)] }, adm := adm }

/-- An image of 64 bytes whose signature holds under the key of fuse 0. -/
def img : FwImage := {
  bytes := leBytes 64 0x100000000314152454d4952500000004057464b51,
  digest := leBytes 32 0x3ce81e874cb1f62e2752da854801c8b1f20e97dbac67d02de547c16c67b31c5c,
  signature := leBytes 208
    0x22556e2832e37ab7862877503d41eb48c09949fd90ddcae82fa4f9741a93c555720a605e2521b6d57d39ad002c59ec8622556e2832e37ab7862877503d41eb48c09949fd90ddcae82fa4f9741a93c555720a605e2521b6d57d39ad002c59ec8600000000000000facc354f410619c9bbc54dbbc284481e87eb734de71feb50aa85a64aa9f22476fb2bf5f438dd6985372a3131903bc52c767cf79b6db2fec8169bff8f6ae4b191cd57e3a5af88c77b00ead8c801dd1441c9765233de11235b18c10216b82c8c34040000000147495351,
  pkIndex := 0 }
/-- The hash of the public key that signed it. -/
def imgHash : List Byte := leBytes 48 0xe6d93856acf4651284f03a0e92c891941c90470892982f7adf9fd62b52bac0415e648b08672d1927c61b2fdf85b14fb2
/-- The parameter page of a die. -/
def pg : ParamPage := {
  signature := true, crcOk := true, rates := 0x3E, dataBytes := 16384, spareBytes := 2048, pagesPerBlock := 1024, blocksPerPlane := 1024, planes := 4,
  luns := 1, bits := 3, suspend := true, retryLevels := 4, ratedCycles := 3000, temperature := true, offsetMin := -10, offsetMax := 10 }
/-- Channel 0 trained, with die 0. -/
def ch0 : Channel := { rate := 1, state := 3, dies := [(0, { page := some pg, admitted := true })] }
/-- Channel 0 is this one. -/
def fl (c : Channel) : Flash := { chans := [(0, c)], geometry := some pg }
/-- A namespace of 1,024 blocks of 4,096 bytes. -/
def ns1 : Namespace := { nsze := 1024, lbaf := 0, compress := false, sustained := false, segs := [0] }
/-- A channel operation of the keepers that has started. -/
def od (op : Nat) : ChanOp := { desc := { op := op, cls := 2, flags := 0, count := 1, psa := 0, keyWord := 0, tag := 7 }, origin := .keeper, started := true }
/-- An I/O command that has started. -/
def ioc (op : Nat) : Cmd := { ref := { ctl := 0, sq := 1, cid := 1 }, opcode := op, nsid := 1, phase := .started }
/-- An I/O command of controller 0 on namespace 1 that has started. -/
def sIO (op : Nat) (n : Namespace) (cur : Curator) : State := {
  link := lk, acc := { cmds := [ioc op], ctls := [(0, { ctl0 with attached := [1] })] }, adm := { namespaces := [(1, n)] },
  cur := { cur with mediaReady := true }, sec := { armed := true, slots := [(0, { kind := 1, len := 64, key := [] })] } }
/-- A buffered MU whose first block is valid. -/
def wbe : WbEntry := { nsid := 1, mu := 0, gmu := 0, data := List.replicate 16384 1, valid := 1, seq := 1, charge := 16 }
/-- A bank with room, and a wing that takes writes. -/
def curW : Curator := { dumpSets := { armed := some 0, size := 2 ^ 30 }, pools := [(0, { formatted := true })], holdup := { charged := true, budget := 2 ^ 30, valid := true } }
/-- A verified stripe set of wing 0. -/
def set1 : StripeSet := { wing := 0, stream := .hostSustained, blocks := [], state := .verified }
/-- Keeper shared memory for tests. -/
def ksh : Nat := 0x011001000000
/-- Keeper shared memory with these bytes. -/
def kmem (bs : List Byte) : List Host.Cell := memPutBytes [] ksh bs
/-- A compression job of 16 bytes in format 3. -/
def jd : JobDesc := { op := 1, format := 3, level := 1, flags := 3, inLen := 16, inAddr := ksh, outLen := 64, rsv0 := 0, outAddr := ksh + 4096, record := 0, completion := 0, tag := 9, ticket := 0, depth := 0, rsv1 := 0 }
/-- Job 0 is in an engine, over these bytes. -/
def sJob (d : JobDesc) (res : Option (Nat × Nat × Nat × Nat)) (bs : List Byte) : State := { mem := kmem bs, cmp := { jobs := [(0, { island := 0, ring := 0, desc := d, result := res })], nextJob := 1 } }
/-- Ring 1 of compression island 0 holds these bytes. -/
def sRing (bs : List Byte) : State := { mem := kmem bs, fab := { regs := [(193 * 4096 + 0x40, 0x01000000), (193 * 4096 + 0x44, 0x110), (193 * 4096 + 0x48, 0x801), (193 * 4096 + 0x4C, 1)] } }
/-- Chain 0: bank 0, width 1, depth 1, enabled; an entry stands at row 0 and the staging holds a key. -/
def sCat (idx dst : Word) (rows : Tab CatRow) : State := { fab := { regs := [(200 * 4096 + 0x48, idx), (200 * 4096 + 0x4C, dst), (201 * 4096 + 0x40, 0x80001040), (202 * 4096 + 0x40, 0x55), (202 * 4096 + 0x140, 0x80000007)] }, cat := { rows := rows } }
/-- A catalogue row. -/
def row1 : CatRow := { value := 0x55, care := 0xFF, valid := true, tag := 7, mark := true }
/-- Every DRAM channel is this one. -/
def drams (c : DramChan) : Dram := { chans := (upTo 8).map fun i => (i, c) }
/-- A context record: state 2, idempotent, domain 0, galleries 0 to 7, code at 0x100000, a budget, a run limit, 16 slots from 0 and one entry. -/
def ctxRec : List Byte := padTo 128 [2, 1, 0, 0, 0xFF, 0, 0, 0, 0, 0, 0x10, 0, 0, 0, 0x18, 0, 100, 0, 0, 0, 5, 0, 0, 0, 0, 0, 0, 0, 16, 0, 0, 0, 0, 0, 16, 0, 1, 0, 0, 0, 0, 0, 0, 0, 0, 0, 0, 0, 0, 0, 1]
/-- Context 0 has that record. -/
def rgs1 : Registrar := { contexts := [(0, ctxRec)] }
/-- A ticket of these words. -/
def tk (w0 : Nat) (w1 : Nat) (st : SlotState) (e : Nat) : Ticket := { desc := padTo 64 (leBytes 8 w0 ++ leBytes 8 w1), state := st, exec := e }
/-- A move that has started. -/
def mv (kind : Nat) : Move := { kind := kind, ctx := 0, exec := 0, gallery := 0, window := 1, recLen := 16, nsid := 0, src := 0, length := 64, dst := 0, post := some 4, started := true }
/-- Window 1 of gallery 0, and core 3 of it serving ticket 7. -/
def winS (w : Window) (x : Core) : State := { gals := [(0, { cores := [(3, { x with serving := some 7 })], windows := [(1, w)] })], rgs := { rgs1 with tickets := [(7, tk 0 0 (.inService 0 3) 0)] } }
/-- An image of 148 bytes: a header, one code section of one instruction word, and its digest. -/
def prog : List Byte := leBytes 180
  (0xce44b0293722c40432cf4c1436d628aac77380e8edb4f9076ee81ae0b2fc48a83100000000000000000000900000000400000201 * 2 ^ 1024 +
    0x64000000000001000100000094000000014e545250)
/-- A namespace of programs. -/
def cns4 : Namespace := { csi := 4, nsze := 0, lbaf := 0, compress := false, sustained := false, segs := [] }
/-- A namespace of subsystem local memory. -/
def cns3 : Namespace := { csi := 3, nsze := 65536, lbaf := 0, compress := false, sustained := false, segs := [], slmBase := 0x10000 }
/-- An I/O command on namespace 1, a set of programs; namespace 2 is subsystem local memory; CC.CSS is 6. -/
def sPr (op : Nat) (n : Namespace) (rgs : Registrar) : State := {
  link := lk, acc := { cmds := [ioc op], ctls := [(0, { ctl0 with cc := 0x460061, attached := [1, 2] })] },
  adm := { namespaces := [(1, n), (2, cns3)] }, rgs := rgs, dram := drams { state := 3, initDone := true } }
/-- The program of that image, loaded. -/
def prg : Program := { image := prog, base := 0x100000, size := 4, sections := [0x100000] }

/-! ## Words and values of the manual and of the standards it names -/

/-- The words of the scan loop of chapter 09, each with the instruction the chapter writes beside it: LD.32.L [X+32] and so on. -/
theorem test_words_of_the_scan_loop (c : CoreId) :
    coreInstr c 0x06500020 = .opLd c ⟨0b10, 0b01, 0b010000, 0x20⟩ ∧ coreInstr c 0x06600040 = .opLd c ⟨0b10, 0b01, 0b100000, 0x40⟩ ∧
    coreInstr c 0x0A000100 = .opSt c ⟨0b10, 0, 0, 0x100⟩ ∧ coreInstr c 0x4E000002 = .opSld c ⟨0b10, 0, 0, 2⟩ ∧
    coreInstr c 0x16000100 = .opSub c ⟨0b10, 0, 0, 0x100⟩ ∧ coreInstr c 0x7E080000 = .opMula c ⟨0b10, 0, 0b001000, 0⟩ ∧
    coreInstr c 0x9C000060 = .opIxa c ⟨0, 0, 0, 0x60⟩ ∧ coreInstr c 0x82000000 = .opLdlo c ⟨0b10, 0, 0, 0⟩ ∧
    coreInstr c 0xA40001C0 = .opIxc c ⟨0, 0, 0, 0x1C0⟩ ∧ coreInstr c 0x8A000000 = .opAdlo c ⟨0b10, 0, 0, 0⟩ ∧
    coreInstr c 0x3A000180 = .opCmpgt c ⟨0b10, 0, 0, 0x180⟩ ∧ coreInstr c 0xB0380003 = .opBr c ⟨0, 0, 0b111000, 3⟩ ∧
    coreInstr c 0xB008FFF2 = .opBr c ⟨0, 0, 0b001000, 0xFFF2⟩ :=
  ⟨rfl, rfl, rfl, rfl, rfl, rfl, rfl, rfl, rfl, rfl, rfl, rfl, rfl⟩

/-- The word of all zeros is the invalid instruction (R366). -/
theorem test_zero_word (c : CoreId) : coreInstr c 0 = .opIll c ⟨0, 0, 0, 0⟩ := rfl

/-- The core of a run of one instruction. -/
def after (c : CoreId) (r : Host.Outcome State Fault Refusal) : Core :=
  match r with
  | .next t => getCore t c
  | .fault _ => {}
  | .refused _ => {}

/-- BR.NE −14 in word 14 of the scan loop goes to word 0. -/
theorem test_branch_of_the_scan_loop :
    (after (.docent 0 0) (execOpBr (.docent 0 0) ⟨0, 0, 0b001000, 0xFFF2⟩ (sD { pc := 56 }))).pc = 0 := by decide +kernel

/-- IXA 96 takes X to the next record of 96 bytes. -/
theorem test_ixa_of_the_scan_loop :
    (after (.docent 0 0) (execOpIxa (.docent 0 0) ⟨0, 0, 0, 0x60⟩ (sD { x := 0x400000 }))).x = 0x400060 := by decide +kernel

/-- SLD.32 2: lane j is lane j + 2. -/
theorem test_sld_of_the_scan_loop :
    (after (.docent 0 0) (execOpSld (.docent 0 0) ⟨0b10, 0, 0, 2⟩ (sD { a := 7 <<< 96 }))).a = 7 <<< 32 := by decide +kernel

/-- ADD.8 wraps in each lane, and saturates with sat (R372). -/
theorem test_add_wraps :
    (after (.docent 0 0) (execOpAdd (.docent 0 0) ⟨0, 0, 0, 0⟩ { sD { a := 0x01FF } with mem := [(docentLocalBase 0 0, 2)] })).a = 0x0101 ∧
    (after (.docent 0 0) (execOpAdd (.docent 0 0) ⟨0, 0, 1, 0⟩ { sD { a := 0x01FF } with mem := [(docentLocalBase 0 0, 2)] })).a = 0x01FF := by
  decide +kernel

/-- Slot 6 of page 777 in block 1,234, plane 2, die 9, channel 5 of wing 3 has the PSA 0x6B309A418486 (chapter 05). -/
theorem test_psa :
    mkPsa 3 5 9 2 1234 777 6 = 0x6B309A418486 ∧ psaChannel 0x6B309A418486 = 41 ∧ fchPage 41 = 105 ∧ psaDie 0x6B309A418486 = 9 ∧
      psaPage 0x6B309A418486 = 777 := by decide +kernel

/-- A 7-slot MU starting at slot 6 lies in codewords 1, 2 and 3 (chapter 06). -/
theorem test_codewords : readCodewords ⟨1, 0, 0, 7, 0x6B309A418486, 0, 0⟩ = [1, 2, 3] := by decide +kernel

/-- Core 3 of gallery 2 posts 0x1234, and a keeper takes 0x8050_0203_0000_1234 (chapter 14). -/
theorem test_mailbox_take :
    (match execMailboxTake (.keeper 0) 9 { mbx := [(9, ⟨0x1234, CoreId.stamp (.docent 2 3), false, 0⟩)] } with
      | .next t => t.out
      | .fault _ => []
      | .refused _ => []) = [.coreRead 0x8050020300001234] := by decide +kernel

/-- With the low word 0xFFFF_FF00, a message of 8,192 bytes is refused with status 0x12 and one of 4,096 bytes is not (chapter 13). -/
theorem test_counter_overflow :
    let s : State := { sec := { armed := true, slots := [(1024, { kind := 2, len := 16, key := zeros 16 })] } }
    sceCheck 3 0 false false 8192 0 0 0x100000 0xFFFFFF00 s = 0x12 ∧ sceCheck 3 0 false false 4096 0 0 0x100000 0xFFFFFF00 s = 0 := by
  decide +kernel

/-- AES-128 of FIPS 197, appendix C.1. -/
theorem test_aes :
    aesEncrypt (beBytes 16 0x000102030405060708090A0B0C0D0E0F) (beBytes 16 0x00112233445566778899AABBCCDDEEFF) =
      beBytes 16 0x69C4E0D86A7B0430D8CDB78070B4C55A := by decide +kernel

/-- SHA-256 of the bytes abc, FIPS 180-4. -/
theorem test_sha256 :
    sha256.hash (ascii "abc") = beBytes 32 0xBA7816BF8F01CFEA414140DE5DAE2223B00361A396177A9CB410FF61F20015AD := by decide +kernel

/-- The check values of CRC-32C and CRC-32 over the digits 1 to 9. -/
theorem test_crc : crc32c (ascii "123456789") = 0xE3069283 ∧ crc32 (ascii "123456789") = 0xCBF43926 := by decide +kernel

/-- A table word has no bits of its own: no row of the table gives any. -/
theorem test_no_table_words : decodeTableWord 32 0x06500020 = none := rfl

/-- A step on the state of reset is a tick of the TSC. -/
theorem test_idle : step State.reset = .next { State.reset with tsc := 1 } := rfl

/-! ## Well-formed commands -/

/-- An ill-formed command for each check of `Instr.wf`. -/
theorem test_wf_refuses_1 : ([
    .crossingRequest 0 (.wing 8) .keeper .wake .served, .crossingRequest 0 .keeper (.wing 8) .wake .served, .islandWake (.wing 8),
    .registerWrite (.docent 16 0) 0 0 0 0, .pgLock (.docent 16 0) 0, .pgEnableWrite (.docent 16 0) 0 false, .quiesceRequest (.docent 16 0) 0,
    .quiesceRelease (.docent 16 0) 0, .islandReinit (.docent 16 0) 0, .islandReady (.wing 8), .irqStatusClear (.docent 16 0) 0 0,
    .irqSet (.docent 16 0) 0 0, .errAddrLoRead (.docent 16 0) 0, .topUidLoRead (.docent 16 0), .tscLoRead (.docent 16 0),
    .counterLoRead (.docent 16 0) 0 0, .hostBar2Read 2 0 0, .hostBar2Write 2 0 0 0, .configRequest 128 .vendorId none,
    .linkTrainingDone 2 0 ⟨1, false, 1, false, 0⟩, .linkTrainingDone 0 4 ⟨1, false, 1, false, 0⟩, .surpriseDown 2 0, .surpriseDown 0 4,
    .linkRetrain (.docent 16 0) 0 0, .linkRetrain (.keeper 0) 2 0, .linkRetrain (.keeper 0) 0 4, .completionTimeout 2 0 0, .completionTimeout 0 4 0,
    .hostCompletionTlp 2 0 0 false, .hostCompletionTlp 0 4 0 false, .barUnsupportedRequest 128 0 0 0 none, .bar0BadAccess 128 0 0 false,
    .controllerRegisterWrite 128 0 0 0, .vfEnable 2 0 false, .vfEnable 0 4 false, .sqDoorbell 128 0 0, .cqDoorbell 128 0 0, .nssrWrite 128 0,
    .controllerEnable 128 0, .controllerReady 128, .controllerReset 128, .functionLevelReset 128, .shutdownNotification 128 0, .shutdownComplete 128,
    .sqeArrive 128 0 ⟨0, 0, 0, 0⟩, .commandStart ⟨128, 0, 0⟩, .commandComplete ⟨128, 0, 0⟩, .cqePost 128 0, .coalesceTimerExpiry 128 0,
    .msixUnmask 128 0, .deleteIoSq ⟨128, 0, 0⟩ 0, .createIoSq ⟨128, 0, 0⟩ 0 0 false 0 0, .deleteIoCq ⟨128, 0, 0⟩ 0,
    .createIoCq ⟨128, 0, 0⟩ 0 0 false false 0, .getLogPage ⟨128, 0, 0⟩ 0 0 0 false, .identify ⟨128, 0, 0⟩ 0 0 0, .abort ⟨128, 0, 0⟩ 0 0,
    .setFeatures ⟨128, 0, 0⟩ 0 false 0 0 [], .getFeatures ⟨128, 0, 0⟩ 0 0 0, .asyncEventRequest ⟨128, 0, 0⟩,
    .nsMgmtCreate ⟨128, 0, 0⟩ ⟨0, 8, 8, 0, 0⟩, .nsMgmtDelete ⟨128, 0, 0⟩, .nsAttach ⟨128, 0, 0⟩ [], .nsDetach ⟨128, 0, 0⟩ [],
    .firmwareImageDownload ⟨128, 0, 0⟩ 0 0 [], .firmwareCommitReplace ⟨128, 0, 0⟩ 0 0, .firmwareCommitAtReset ⟨128, 0, 0⟩ 0,
    .firmwareCommitSlotSelect ⟨128, 0, 0⟩ 0, .firmwareCommitImmediate ⟨128, 0, 0⟩ 0, .selfTestShort ⟨128, 0, 0⟩, .selfTestExtended ⟨128, 0, 0⟩,
    .selfTestAbort ⟨128, 0, 0⟩, .virtualizationManagement ⟨128, 0, 0⟩ 0 0 0 0, .formatNvm ⟨128, 0, 0⟩ 0 0, .sanitizeBlockErase ⟨128, 0, 0⟩ 2,
    .sanitizeCryptoErase ⟨128, 0, 0⟩, .sanitizeExitFailure ⟨128, 0, 0⟩, .wingDiscovery (.docent 16 0) 0 [], .wingDiscovery (.keeper 0) 8 [],
    .channelTrainingDone 96 false, .channelRetrain (.docent 16 0) 0, .channelRetrain (.keeper 0) 96,
    .channelOperationSubmit 96 ⟨1, 0, 0, 1, 0, 0, 0⟩ [] [], .channelOperationStart 96, .flashRead 96 0 [], .flashRead 0 16 [], .flashVerify 96 0 [],
    .flashVerify 0 16 [], .flashProgram 96 0 false 0, .flashProgram 0 16 false 0, .flashErase 96 0 false 0, .flashErase 0 16 false 0,
    .flashReadStatus 96 0 0, .flashReadStatus 0 16 0, .dieOperationEnd 96 0, .dieOperationEnd 0 16, .bufferSlotRelease 96 0, .operationResume 96 0,
    .operationResume 0 16, .dieBusyTimeout 96 0] : List Instr).all (fun i => !i.wf) = true := by decide +kernel

/-- An ill-formed command for each check of `Instr.wf`. -/
theorem test_wf_refuses_2 : ([
    .dieBusyTimeout 0 16, .dieResetTimeout 96 0, .dieResetTimeout 0 16, .keeperDieCheck 96 0 false [], .keeperDieCheck 0 16 false [],
    .fenceRecordDurable 96 0, .fenceRecordDurable 0 16, .fencedDieResponse 96 0, .fencedDieResponse 0 16, .dieFence (.docent 16 0) 0 0,
    .dieFence (.keeper 0) 96 0, .dieFence (.keeper 0) 0 16, .dieQualify (.docent 16 0) 0 0, .dieQualify (.keeper 0) 96 0,
    .dieQualify (.keeper 0) 0 16, .dieQualifyEnd 96 ⟨pg, 0, true, true⟩, .channelQualify (.docent 16 0) 0, .channelQualify (.keeper 0) 96,
    .dieRestoreFence (.docent 16 0) 0 0 0, .dieRestoreFence (.keeper 0) 96 0 0, .dieRestoreFence (.keeper 0) 0 16 0, .read ⟨128, 0, 0⟩ 0 0,
    .write ⟨128, 0, 0⟩ 0 [], .writeChargeAdmit ⟨128, 0, 0⟩, .writeZeroes ⟨128, 0, 0⟩ 0 0, .datasetManagement ⟨128, 0, 0⟩ false [],
    .compare ⟨128, 0, 0⟩ 0 [], .verify ⟨128, 0, 0⟩ 0 0, .flush ⟨128, 0, 0⟩, .inlineDecompressRequest ⟨128, 0, 0⟩ 0, .stripeSetOpen 8 .hostOrdinary,
    .garbageCollectionStart 8, .blockGroupCalibration 96 0 0, .blockGroupCalibration 0 16 0, .retrainTrigger false 96,
    .retrainTrigger true 8, .sensorInvalid 42 0, .sensorRevalid 42 0, .monitorLevelSample 128, .monCountLoRead (.docent 16 0) 0,
    .monCountLoRead (.keeper 0) 128, .monClr (.docent 16 0) 0, .monClr (.keeper 0) 128, .monitorConfigWrite (.docent 16 0) 0 0 0,
    .monitorConfigWrite (.keeper 0) 128 0 0, .cmpRingTailWrite (.docent 16 0) 0 0 0, .cmpRingTailWrite (.keeper 0) 2 0 0,
    .cmpRingTailWrite (.keeper 0) 0 32 0, .cmpRingEnable (.docent 16 0) 0 0 0, .cmpRingEnable (.keeper 0) 2 0 0, .cmpRingEnable (.keeper 0) 0 32 0,
    .cmpJobFetch 2, .opIll (.docent 0 17) ⟨0, 0, 0, 0⟩, .opLd (.docent 0 17) ⟨0, 0, 0, 0⟩, .opSt (.docent 0 17) ⟨0, 0, 0, 0⟩,
    .opLdi (.docent 0 17) ⟨0, 0, 0, 0⟩, .opAdd (.docent 0 17) ⟨0, 0, 0, 0⟩, .opSub (.docent 0 17) ⟨0, 0, 0, 0⟩, .opRsb (.docent 0 17) ⟨0, 0, 0, 0⟩,
    .opAddi (.docent 0 17) ⟨0, 0, 0, 0⟩, .opAnd (.docent 0 17) ⟨0, 0, 0, 0⟩, .opOr (.docent 0 17) ⟨0, 0, 0, 0⟩, .opXor (.docent 0 17) ⟨0, 0, 0, 0⟩,
    .opMin (.docent 0 17) ⟨0, 0, 0, 0⟩, .opMax (.docent 0 17) ⟨0, 0, 0, 0⟩, .opCmpeq (.docent 0 17) ⟨0, 0, 0, 0⟩,
    .opCmpgt (.docent 0 17) ⟨0, 0, 0, 0⟩, .opCmplt (.docent 0 17) ⟨0, 0, 0, 0⟩, .opTst (.docent 0 17) ⟨0, 0, 0, 0⟩,
    .opShl (.docent 0 17) ⟨0, 0, 0, 0⟩, .opShr (.docent 0 17) ⟨0, 0, 0, 0⟩, .opSld (.docent 0 17) ⟨0, 0, 0, 0⟩, .opSlu (.docent 0 17) ⟨0, 0, 0, 0⟩,
    .opSel (.docent 0 17) ⟨0, 0, 0, 0⟩, .opHsum (.docent 0 17) ⟨0, 0, 0, 0⟩, .opAbs (.docent 0 17) ⟨0, 0, 0, 0⟩, .opMcnt (.docent 0 17) ⟨0, 0, 0, 0⟩,
    .opMfst (.docent 0 17) ⟨0, 0, 0, 0⟩, .opMld (.docent 0 17) ⟨0, 0, 0, 0⟩, .opMst (.docent 0 17) ⟨0, 0, 0, 0⟩, .opMnot (.docent 0 17) ⟨0, 0, 0, 0⟩,
    .opXadd (.docent 0 17) ⟨0, 0, 0, 0⟩, .opMul (.docent 0 17) ⟨0, 0, 0, 0⟩, .opMula (.docent 0 17) ⟨0, 0, 0, 0⟩, .productLand (.docent 0 17),
    .opLdlo (.docent 0 17) ⟨0, 0, 0, 0⟩, .opLdhi (.docent 0 17) ⟨0, 0, 0, 0⟩, .opAdlo (.docent 0 17) ⟨0, 0, 0, 0⟩,
    .opIxl (.docent 0 17) ⟨0, 0, 0, 0⟩, .opIxs (.docent 0 17) ⟨0, 0, 0, 0⟩, .opIyl (.docent 0 17) ⟨0, 0, 0, 0⟩, .opIys (.docent 0 17) ⟨0, 0, 0, 0⟩,
    .opIxa (.docent 0 17) ⟨0, 0, 0, 0⟩, .opIya (.docent 0 17) ⟨0, 0, 0, 0⟩, .opIxc (.docent 0 17) ⟨0, 0, 0, 0⟩, .opIyc (.docent 0 17) ⟨0, 0, 0, 0⟩,
    .opXfr (.docent 0 17) ⟨0, 0, 0, 0⟩, .opBr (.docent 0 17) ⟨0, 0, 0, 0⟩, .opCall (.docent 0 17) ⟨0, 0, 0, 0⟩, .opRet (.docent 0 17) ⟨0, 0, 0, 0⟩] : List Instr).all (fun i => !i.wf) = true := by decide +kernel

/-- An ill-formed command for each check of `Instr.wf`. -/
theorem test_wf_refuses_3 : ([
    .opEnd (.docent 0 17) ⟨0, 0, 0, 0⟩, .opTkt (.docent 0 17) ⟨0, 0, 0, 0⟩, .opNop (.docent 0 17) ⟨0, 0, 0, 0⟩, .opFence (.docent 0 17) ⟨0, 0, 0, 0⟩,
    .opFld (.docent 0 17) ⟨0, 0, 0, 0⟩, .opFst (.docent 0 17) ⟨0, 0, 0, 0⟩, .opPrd (.docent 0 17) ⟨0, 0, 0, 0⟩, .opPwr (.docent 0 17) ⟨0, 0, 0, 0⟩,
    .opMbp (.docent 0 17) ⟨0, 0, 0, 0⟩, .opMbt (.docent 0 17) ⟨0, 0, 0, 0⟩, .opCsave (.docent 0 17) ⟨0, 0, 0, 0⟩,
    .opCrest (.docent 0 17) ⟨0, 0, 0, 0⟩, .opSetg (.docent 0 17) ⟨0, 0, 0, 0⟩, .opMfs (.docent 0 17) ⟨0, 0, 0, 0⟩,
    .opMts (.docent 0 17) ⟨0, 0, 0, 0⟩, .opIret (.docent 0 17) ⟨0, 0, 0, 0⟩, .opWait (.docent 0 17) ⟨0, 0, 0, 0⟩, .keeperInterruptEntry 4,
    .winClaimRead 16 0 0, .winClaimRead 0 17 0, .winClaimRead 0 0 8, .winReleaseWrite 16 0 0 0, .winReleaseWrite 0 17 0 0, .winReleaseWrite 0 0 8 0,
    .catalogueKeyStore 16 0 0 [], .catalogueKeyStore 0 17 0 [], .search 16 0 0, .search 0 17 0, .searchResult 16 0, .searchResult 0 17,
    .resultRead 16 0, .resultRead 0 17, .docIcacheInv (.docent 16 0) 0 0, .docIcacheInv (.keeper 0) 16 0, .keeperCoreStart (.docent 16 0) 0,
    .keeperCoreStart (.keeper 0) 4, .keeperCoreStop (.docent 16 0) 0, .keeperCoreStop (.keeper 0) 4, .loadProgram ⟨128, 0, 0⟩ 0 [],
    .programActivate ⟨128, 0, 0⟩ 0 0 [], .programDeactivate ⟨128, 0, 0⟩ 0, .memoryRangeSetManagement ⟨128, 0, 0⟩ false 0 [],
    .executeProgram ⟨128, 0, 0⟩ 0 0 [], .executionStart ⟨128, 0, 0⟩, .readMemory ⟨128, 0, 0⟩ 0 0, .writeMemory ⟨128, 0, 0⟩ 0 [],
    .ticketSubmit (.docent 0 17) (zeros 64), .ticketSubmit (.keeper 0) (zeros 63), .moveSubmit (.docent 0 17) (zeros 64),
    .moveSubmit (.keeper 0) (zeros 63), .streamHalfFilled 16 0, .streamHalfFilled 0 8, .streamEnd 16 0, .streamEnd 0 8, .ticketEnd 16 0 0,
    .ticketEnd 0 17 0, .delayListTick 16, .delayedTicketExpiry 16, .stopTimeoutFence 16 0, .stopTimeoutFence 0 17, .fencedCoreRequest 16 0,
    .fencedCoreRequest 0 17, .rgsExecCancel (.docent 16 0) 0, .rgsSlotCancel (.docent 16 0) 0, .contextWrite (.docent 16 0),
    .contextRead (.docent 16 0), .delayListPeriodWrite (.docent 16 0) 0 0, .delayListPeriodWrite (.keeper 0) 16 0, .gallerySelfTestDone 16 [],
    .catChainWrite (.docent 16 0) 0 0, .catChainWrite (.keeper 0) 16 0, .catWrite (.docent 16 0) 0, .catWrite (.keeper 0) 16,
    .catInvalidate (.docent 16 0) 0, .catInvalidate (.keeper 0) 16, .catMove (.docent 16 0) 0, .catMove (.keeper 0) 16, .catRead (.docent 16 0) 0 [],
    .catRead (.keeper 0) 16 [], .catKeeperSearch (.docent 16 0) 0, .catKeeperSearch (.keeper 0) 16, .catInvalidateTag (.docent 16 0) 0,
    .catInvalidateTag (.keeper 0) 16, .catUndefinedOp (.docent 16 0) 0 0, .catUndefinedOp (.keeper 0) 0 16, .refreshDue 8 0, .refreshDue 0 2,
    .refreshRatePoll 8 0 0, .refreshRatePoll 0 2 0, .caParityAlert 8, .caRetrainEnd 8 false, .dramScrubRead 8 0, .dramTrainingEnd 8 ⟨8, 16, 2, true⟩,
    .drcRetrain (.docent 16 0) 0, .drcRetrain (.keeper 0) 8, .retrainStep 8 false, .drcInitSkip (.docent 16 0) 0 0, .drcInitSkip (.keeper 0) 8 0,
    .dramInitDone 8, .keyGenerate (.docent 16 0) 0 0 0 0] : List Instr).all (fun i => !i.wf) = true := by decide +kernel

/-- An ill-formed command for each check of `Instr.wf`. -/
theorem test_wf_refuses_4 : ([
    .keyUnwrap (.docent 16 0) 0 0, .keyClear (.docent 16 0) 0 0, .keyStatus (.docent 16 0) 0 0, .sceAcquire 4, .sceRelease 4,
    .sceForce (.docent 16 0) 0, .sceMessageStart 4 0, .dgeHashPart (.docent 16 0) 0 0, .dgeHashPart (.keeper 0) 2 0, .dgeSave (.docent 16 0) 0,
    .dgeSave (.keeper 0) 2, .dgeRestore (.docent 16 0) 0, .dgeRestore (.keeper 0) 2, .dgePartEnd 2, .dgeData (.docent 16 0) 0 0,
    .dgeData (.keeper 0) 2 0, .dgeLast (.docent 16 0) 0 0, .dgeLast (.keeper 0) 2 0, .keyPkRevoke (.docent 16 0) 0, .keyRollback (.docent 16 0) 0,
    .almRearm (.docent 16 0), .mailboxPost (.docent 0 17) 0 0, .mailboxPost (.keeper 0) 512 0, .mailboxTake (.docent 0 17) 0,
    .mailboxTake (.keeper 0) 512, .mailboxTimeout 512, .mailboxRecall (.docent 0 17) 0, .mailboxRecall (.keeper 0) 512, .postResultRead 16 0,
    .postResultRead 0 17, .mailboxConfigWrite (.docent 16 0) 0 0, .mailboxConfigWrite (.keeper 0) 512 0, .pmcSelect (.docent 16 0) 0,
    .pmcEventSelect (.docent 16 0) false 0, .pmcClear (.docent 16 0) 0, .pmcCounterWrap (.docent 0 17) 0, .pmcSample 16 0 0 0 false,
    .pmcSample 0 17 0 0 false, .islandPowerOff (.docent 16 0) 0, .islandPowerOff (.keeper 0) 42, .islandPowerOn (.docent 16 0) 0,
    .islandPowerOn (.keeper 0) 42, .apstTransition 128, .pwrDevReset (.docent 16 0) 0, .kwdogKick (.docent 16 0), .keeperAutoReinit 42,
    .rankpwrEnable 4, .resetLunComplete 96 0, .resetLunComplete 0 16, .aspmL1Entry 2 0 false, .aspmL1Entry 0 4 false, .aspmL1Exit 2 0,
    .aspmL1Exit 0 4, .linkError 2 0 0, .linkError 0 4 0, .supplySetpointRaise 42 0] : List Instr).all (fun i => !i.wf) = true := by decide +kernel

/-- The same commands with every operand in range are well formed. -/
theorem test_wf_accepts_1 : ([
    .crossingRequest 0 .keeper .keeper .wake .served, .islandWake .keeper, .registerWrite (.keeper 0) 0 0 0 0, .pgLock (.keeper 0) 0,
    .pgEnableWrite (.keeper 0) 0 false, .quiesceRequest (.keeper 0) 0, .quiesceRelease (.keeper 0) 0, .islandReinit (.keeper 0) 0,
    .islandReady .keeper, .irqStatusClear (.keeper 0) 0 0, .irqSet (.keeper 0) 0 0, .errAddrLoRead (.keeper 0) 0, .topUidLoRead (.keeper 0),
    .tscLoRead (.keeper 0), .counterLoRead (.keeper 0) 0 0, .hostBar2Read 0 0 0, .hostBar2Write 0 0 0 0, .configRequest 0 .vendorId none,
    .linkTrainingDone 0 0 ⟨1, false, 1, false, 0⟩, .surpriseDown 0 0, .linkRetrain (.keeper 0) 0 0, .completionTimeout 0 0 0,
    .hostCompletionTlp 0 0 0 false, .barUnsupportedRequest 0 0 0 0 none, .bar0BadAccess 0 0 0 false, .controllerRegisterWrite 0 0 0 0,
    .vfEnable 0 0 false, .sqDoorbell 0 0 0, .cqDoorbell 0 0 0, .nssrWrite 0 0, .controllerEnable 0 0, .controllerReady 0, .controllerReset 0,
    .functionLevelReset 0, .shutdownNotification 0 0, .shutdownComplete 0, .sqeArrive 0 0 ⟨0, 0, 0, 0⟩, .commandStart ⟨0, 0, 0⟩,
    .commandComplete ⟨0, 0, 0⟩, .cqePost 0 0, .coalesceTimerExpiry 0 0, .msixUnmask 0 0, .deleteIoSq ⟨0, 0, 0⟩ 0,
    .createIoSq ⟨0, 0, 0⟩ 0 0 false 0 0, .deleteIoCq ⟨0, 0, 0⟩ 0, .createIoCq ⟨0, 0, 0⟩ 0 0 false false 0, .getLogPage ⟨0, 0, 0⟩ 0 0 0 false,
    .identify ⟨0, 0, 0⟩ 0 0 0, .abort ⟨0, 0, 0⟩ 0 0, .setFeatures ⟨0, 0, 0⟩ 0 false 0 0 [], .getFeatures ⟨0, 0, 0⟩ 0 0 0,
    .asyncEventRequest ⟨0, 0, 0⟩, .nsMgmtCreate ⟨0, 0, 0⟩ ⟨0, 8, 8, 0, 0⟩, .nsMgmtDelete ⟨0, 0, 0⟩, .nsAttach ⟨0, 0, 0⟩ [], .nsDetach ⟨0, 0, 0⟩ [],
    .firmwareImageDownload ⟨0, 0, 0⟩ 0 0 [], .firmwareCommitReplace ⟨0, 0, 0⟩ 0 0, .firmwareCommitAtReset ⟨0, 0, 0⟩ 0,
    .firmwareCommitSlotSelect ⟨0, 0, 0⟩ 0, .firmwareCommitImmediate ⟨0, 0, 0⟩ 0, .selfTestShort ⟨0, 0, 0⟩, .selfTestExtended ⟨0, 0, 0⟩,
    .selfTestAbort ⟨0, 0, 0⟩, .virtualizationManagement ⟨0, 0, 0⟩ 0 0 0 0, .formatNvm ⟨0, 0, 0⟩ 0 0, .sanitizeBlockErase ⟨0, 0, 0⟩ 2,
    .sanitizeCryptoErase ⟨0, 0, 0⟩, .sanitizeExitFailure ⟨0, 0, 0⟩, .wingDiscovery (.keeper 0) 0 [], .channelTrainingDone 0 false,
    .channelRetrain (.keeper 0) 0, .channelOperationSubmit 0 ⟨1, 0, 0, 1, 0, 0, 0⟩ [] [], .channelOperationStart 0, .flashRead 0 0 [],
    .flashVerify 0 0 [], .flashProgram 0 0 false 0, .flashErase 0 0 false 0, .flashReadStatus 0 0 0, .dieOperationEnd 0 0, .bufferSlotRelease 0 0,
    .operationResume 0 0, .dieBusyTimeout 0 0, .dieResetTimeout 0 0, .keeperDieCheck 0 0 false [], .fenceRecordDurable 0 0, .fencedDieResponse 0 0,
    .dieFence (.keeper 0) 0 0, .dieQualify (.keeper 0) 0 0, .dieQualifyEnd 0 ⟨pg, 0, true, true⟩, .channelQualify (.keeper 0) 0,
    .dieRestoreFence (.keeper 0) 0 0 0, .read ⟨0, 0, 0⟩ 0 0, .write ⟨0, 0, 0⟩ 0 [], .writeChargeAdmit ⟨0, 0, 0⟩, .writeZeroes ⟨0, 0, 0⟩ 0 0,
    .datasetManagement ⟨0, 0, 0⟩ false [], .compare ⟨0, 0, 0⟩ 0 [], .verify ⟨0, 0, 0⟩ 0 0, .flush ⟨0, 0, 0⟩] : List Instr).all (fun i => i.wf) = true := by decide +kernel

/-- The same commands with every operand in range are well formed. -/
theorem test_wf_accepts_2 : ([
    .inlineDecompressRequest ⟨0, 0, 0⟩ 0, .stripeSetOpen 0 .hostOrdinary, .garbageCollectionStart 0, .blockGroupCalibration 0 0 0,
    .retrainTrigger false 0, .sensorInvalid 0 0, .sensorRevalid 0 0, .monitorLevelSample 0, .monCountLoRead (.keeper 0) 0, .monClr (.keeper 0) 0,
    .monitorConfigWrite (.keeper 0) 0 0 0, .cmpRingTailWrite (.keeper 0) 0 0 0, .cmpRingEnable (.keeper 0) 0 0 0, .cmpJobFetch 0,
    .opIll (.keeper 0) ⟨0, 0, 0, 0⟩, .opLd (.keeper 0) ⟨0, 0, 0, 0⟩, .opSt (.keeper 0) ⟨0, 0, 0, 0⟩, .opLdi (.keeper 0) ⟨0, 0, 0, 0⟩,
    .opAdd (.keeper 0) ⟨0, 0, 0, 0⟩, .opSub (.keeper 0) ⟨0, 0, 0, 0⟩, .opRsb (.keeper 0) ⟨0, 0, 0, 0⟩, .opAddi (.keeper 0) ⟨0, 0, 0, 0⟩,
    .opAnd (.keeper 0) ⟨0, 0, 0, 0⟩, .opOr (.keeper 0) ⟨0, 0, 0, 0⟩, .opXor (.keeper 0) ⟨0, 0, 0, 0⟩, .opMin (.keeper 0) ⟨0, 0, 0, 0⟩,
    .opMax (.keeper 0) ⟨0, 0, 0, 0⟩, .opCmpeq (.keeper 0) ⟨0, 0, 0, 0⟩, .opCmpgt (.keeper 0) ⟨0, 0, 0, 0⟩, .opCmplt (.keeper 0) ⟨0, 0, 0, 0⟩,
    .opTst (.keeper 0) ⟨0, 0, 0, 0⟩, .opShl (.keeper 0) ⟨0, 0, 0, 0⟩, .opShr (.keeper 0) ⟨0, 0, 0, 0⟩, .opSld (.keeper 0) ⟨0, 0, 0, 0⟩,
    .opSlu (.keeper 0) ⟨0, 0, 0, 0⟩, .opSel (.keeper 0) ⟨0, 0, 0, 0⟩, .opHsum (.keeper 0) ⟨0, 0, 0, 0⟩, .opAbs (.keeper 0) ⟨0, 0, 0, 0⟩,
    .opMcnt (.keeper 0) ⟨0, 0, 0, 0⟩, .opMfst (.keeper 0) ⟨0, 0, 0, 0⟩, .opMld (.keeper 0) ⟨0, 0, 0, 0⟩, .opMst (.keeper 0) ⟨0, 0, 0, 0⟩,
    .opMnot (.keeper 0) ⟨0, 0, 0, 0⟩, .opXadd (.keeper 0) ⟨0, 0, 0, 0⟩, .opMul (.keeper 0) ⟨0, 0, 0, 0⟩, .opMula (.keeper 0) ⟨0, 0, 0, 0⟩,
    .productLand (.keeper 0), .opLdlo (.keeper 0) ⟨0, 0, 0, 0⟩, .opLdhi (.keeper 0) ⟨0, 0, 0, 0⟩, .opAdlo (.keeper 0) ⟨0, 0, 0, 0⟩,
    .opIxl (.keeper 0) ⟨0, 0, 0, 0⟩, .opIxs (.keeper 0) ⟨0, 0, 0, 0⟩, .opIyl (.keeper 0) ⟨0, 0, 0, 0⟩, .opIys (.keeper 0) ⟨0, 0, 0, 0⟩,
    .opIxa (.keeper 0) ⟨0, 0, 0, 0⟩, .opIya (.keeper 0) ⟨0, 0, 0, 0⟩, .opIxc (.keeper 0) ⟨0, 0, 0, 0⟩, .opIyc (.keeper 0) ⟨0, 0, 0, 0⟩,
    .opXfr (.keeper 0) ⟨0, 0, 0, 0⟩, .opBr (.keeper 0) ⟨0, 0, 0, 0⟩, .opCall (.keeper 0) ⟨0, 0, 0, 0⟩, .opRet (.keeper 0) ⟨0, 0, 0, 0⟩,
    .opEnd (.keeper 0) ⟨0, 0, 0, 0⟩, .opTkt (.keeper 0) ⟨0, 0, 0, 0⟩, .opNop (.keeper 0) ⟨0, 0, 0, 0⟩, .opFence (.keeper 0) ⟨0, 0, 0, 0⟩,
    .opFld (.keeper 0) ⟨0, 0, 0, 0⟩, .opFst (.keeper 0) ⟨0, 0, 0, 0⟩, .opPrd (.keeper 0) ⟨0, 0, 0, 0⟩, .opPwr (.keeper 0) ⟨0, 0, 0, 0⟩,
    .opMbp (.keeper 0) ⟨0, 0, 0, 0⟩, .opMbt (.keeper 0) ⟨0, 0, 0, 0⟩, .opCsave (.keeper 0) ⟨0, 0, 0, 0⟩, .opCrest (.keeper 0) ⟨0, 0, 0, 0⟩,
    .opSetg (.keeper 0) ⟨0, 0, 0, 0⟩, .opMfs (.keeper 0) ⟨0, 0, 0, 0⟩, .opMts (.keeper 0) ⟨0, 0, 0, 0⟩, .opIret (.keeper 0) ⟨0, 0, 0, 0⟩,
    .opWait (.keeper 0) ⟨0, 0, 0, 0⟩, .keeperInterruptEntry 0, .winClaimRead 0 0 0, .winReleaseWrite 0 0 0 0, .catalogueKeyStore 0 0 0 [],
    .search 0 0 0, .searchResult 0 0, .resultRead 0 0, .docIcacheInv (.keeper 0) 0 0, .keeperCoreStart (.keeper 0) 0, .keeperCoreStop (.keeper 0) 0,
    .loadProgram ⟨0, 0, 0⟩ 0 [], .programActivate ⟨0, 0, 0⟩ 0 0 [], .programDeactivate ⟨0, 0, 0⟩ 0, .memoryRangeSetManagement ⟨0, 0, 0⟩ false 0 [],
    .executeProgram ⟨0, 0, 0⟩ 0 0 [], .executionStart ⟨0, 0, 0⟩, .readMemory ⟨0, 0, 0⟩ 0 0, .writeMemory ⟨0, 0, 0⟩ 0 [],
    .ticketSubmit (.keeper 0) (zeros 64), .moveSubmit (.keeper 0) (zeros 64), .streamHalfFilled 0 0] : List Instr).all (fun i => i.wf) = true := by decide +kernel

/-- The same commands with every operand in range are well formed. -/
theorem test_wf_accepts_3 : ([
    .streamEnd 0 0, .ticketEnd 0 0 0, .delayListTick 0, .delayedTicketExpiry 0, .stopTimeoutFence 0 0, .fencedCoreRequest 0 0,
    .rgsExecCancel (.keeper 0) 0, .rgsSlotCancel (.keeper 0) 0, .contextWrite (.keeper 0), .contextRead (.keeper 0),
    .delayListPeriodWrite (.keeper 0) 0 0, .gallerySelfTestDone 0 [], .catChainWrite (.keeper 0) 0 0, .catWrite (.keeper 0) 0,
    .catInvalidate (.keeper 0) 0, .catMove (.keeper 0) 0, .catRead (.keeper 0) 0 [], .catKeeperSearch (.keeper 0) 0, .catInvalidateTag (.keeper 0) 0,
    .catUndefinedOp (.keeper 0) 0 0, .refreshDue 0 0, .refreshRatePoll 0 0 0, .caParityAlert 0, .caRetrainEnd 0 false, .dramScrubRead 0 0,
    .dramTrainingEnd 0 ⟨8, 16, 2, true⟩, .drcRetrain (.keeper 0) 0, .retrainStep 0 false, .drcInitSkip (.keeper 0) 0 0, .dramInitDone 0,
    .keyGenerate (.keeper 0) 0 0 0 0, .keyUnwrap (.keeper 0) 0 0, .keyClear (.keeper 0) 0 0, .keyStatus (.keeper 0) 0 0, .sceAcquire 0,
    .sceRelease 0, .sceForce (.keeper 0) 0, .sceMessageStart 0 0, .dgeHashPart (.keeper 0) 0 0, .dgeSave (.keeper 0) 0, .dgeRestore (.keeper 0) 0,
    .dgePartEnd 0, .dgeData (.keeper 0) 0 0, .dgeLast (.keeper 0) 0 0, .keyPkRevoke (.keeper 0) 0, .keyRollback (.keeper 0) 0, .almRearm (.keeper 0),
    .mailboxPost (.keeper 0) 0 0, .mailboxTake (.keeper 0) 0, .mailboxTimeout 0, .mailboxRecall (.keeper 0) 0, .postResultRead 0 0,
    .mailboxConfigWrite (.keeper 0) 0 0, .pmcSelect (.keeper 0) 0, .pmcEventSelect (.keeper 0) false 0, .pmcClear (.keeper 0) 0,
    .pmcCounterWrap (.keeper 0) 0, .pmcSample 0 0 0 0 false, .islandPowerOff (.keeper 0) 0, .islandPowerOn (.keeper 0) 0, .apstTransition 0,
    .pwrDevReset (.keeper 0) 0, .kwdogKick (.keeper 0), .keeperAutoReinit 0, .rankpwrEnable 0, .resetLunComplete 0 0, .aspmL1Entry 0 0 false,
    .aspmL1Exit 0 0, .linkError 0 0 0, .supplySetpointRaise 0 0] : List Instr).all (fun i => i.wf) = true := by decide +kernel


/-! ## The hypotheses of the obligations are met -/

/-- A pair is its first component and the rest. -/
theorem fstIs {α β : Type} (x : α × β) (a : α) (h : x.1 = a) : x = (a, x.2) := by cases h; rfl

/-- The test image verifies under the key of fuse 0. -/
theorem imgOk (s : State) (h : s.fuses = { hashes := [imgHash] }) : imageOk s img = true := by
  have e : imageOk s img = imageOk { fuses := s.fuses } img := rfl
  rw [e, h]
  decide +kernel

/-- The operand of a word of zeros is there. -/
theorem zeroOperand : ∃ (bs : List Byte) (extra : Nat) (u : State), Operand (sD {}) (.docent 0 0) w0 bs extra u :=
  ⟨(coreLoad (.docent 0 0) (effAddr (.docent 0 0) (found (sD {}) (.docent 0 0)) w0) (shapeBytes w0.shape w0.width) (shapeBytes w0.shape w0.width) (landed (sD {}) (.docent 0 0))).bs,
    (coreLoad (.docent 0 0) (effAddr (.docent 0 0) (found (sD {}) (.docent 0 0)) w0) (shapeBytes w0.shape w0.width) (shapeBytes w0.shape w0.width) (landed (sD {}) (.docent 0 0))).ex,
    (coreLoad (.docent 0 0) (effAddr (.docent 0 0) (found (sD {}) (.docent 0 0)) w0) (shapeBytes w0.shape w0.width) (shapeBytes w0.shape w0.width) (landed (sD {}) (.docent 0 0))).st, by decide +kernel⟩

/-- Witnesses of MemoryLaneInstructions: on a docent core each of its instructions runs, and the word of the first lane is its operand. -/
theorem meets_MemoryLaneInstructions :
    ([(0x01, { sz := true, base := true, sh := true, m := true }),
    (0x04, { sz := true, base := true, sh := true, s := true, m := true, f := true, sat := true }),
    (0x05, { sz := true, base := true, sh := true, s := true, m := true, f := true, sat := true }),
    (0x06, { sz := true, base := true, sh := true, s := true, m := true, f := true, sat := true }),
    (0x08, { sz := true, base := true, sh := true, m := true, f := true }),
    (0x09, { sz := true, base := true, sh := true, m := true, f := true }),
    (0x0A, { sz := true, base := true, sh := true, m := true, f := true }),
    (0x0B, { sz := true, base := true, sh := true, s := true, m := true, f := true }),
    (0x0C, { sz := true, base := true, sh := true, s := true, m := true, f := true }),
    (0x15, { sz := true, base := true, sh := true })] : List (Nat × Accepts)).all (fun x => decide (Runs (sD {}) (.docent 0 0) x.1 x.2 w0)) = true ∧
    (∃ (bs : List Byte) (extra : Nat) (u : State), Operand (sD {}) (.docent 0 0) w0 bs extra u) :=
  ⟨by decide +kernel, zeroOperand⟩

/-- Witnesses of RegisterLaneInstructions: on a docent core each of its instructions runs. -/
theorem meets_RegisterLaneInstructions :
    ([(0x03, { sz := true, sh := true, s := true, m := true }),
    (0x07, { sz := true, sh := true, s := true, m := true, f := true, sat := true }),
    (0x11, { sz := true, sh := true, m := true, f := true }),
    (0x12, { sz := true, sh := true, s := true, m := true, f := true }),
    (0x17, { sz := true, sh := true, m := true, f := true, sat := true }),
    (0x20, { sz := true, sh := true, m := true }),
    (0x21, { sz := true, sh := true, m := true }),
    (0x22, { sz := true, sh := true, s := true, m := true, f := true, sat := true })] : List (Nat × Accepts)).all (fun x => decide (Runs (sD {}) (.docent 0 0) x.1 x.2 w0)) = true := by decide +kernel

/-- Witnesses of MaskInstructions. -/
theorem meets_MaskInstructions :
    ([(0x0D, { sz := true, base := true, sh := true, m := true }),
    (0x0E, { sz := true, base := true, sh := true, s := true, m := true }),
    (0x0F, { sz := true, base := true, sh := true, s := true, m := true }),
    (0x10, { sz := true, base := true, sh := true, m := true })] : List (Nat × Accepts)).all (fun x => decide (Runs (sD {}) (.docent 0 0) x.1 x.2 w0)) = true ∧
    (∃ (s : State) (c : CoreId) (w : Fields), Runs s c 0x1C { sz := true } w) ∧
    (∃ (s : State) (c : CoreId) (w : Fields) (bs : List Byte) (extra : Nat) (u : State), Runs s c 0x1A { base := true } w ∧ coreLoad c (effAddr c
      (found s c) w) 8 8 (landed s c) = .got bs extra u) :=
  ⟨by decide +kernel,
   ⟨sD ({}), .docent 0 0, ⟨0, 0, 0, 0⟩, by decide +kernel⟩,
   ⟨sD ({}), .docent 0 0, ⟨0, 0, 0, 0⟩, (coreLoad (.docent 0 0 : CoreId) (effAddr (.docent 0 0 : CoreId) (found (sD ({}) : State) (.docent 0 0 :
     CoreId)) (⟨0, 0, 0, 0⟩ : Fields)) 8 8 (landed (sD ({}) : State) (.docent 0 0 : CoreId))).bs, (coreLoad (.docent 0 0 : CoreId) (effAddr (.docent
     0 0 : CoreId) (found (sD ({}) : State) (.docent 0 0 : CoreId)) (⟨0, 0, 0, 0⟩ : Fields)) 8 8 (landed (sD ({}) : State) (.docent 0 0 :
     CoreId))).ex, (coreLoad (.docent 0 0 : CoreId) (effAddr (.docent 0 0 : CoreId) (found (sD ({}) : State) (.docent 0 0 : CoreId)) (⟨0, 0, 0, 0⟩ :
     Fields)) 8 8 (landed (sD ({}) : State) (.docent 0 0 : CoreId))).st, by decide +kernel⟩⟩

/-- Witnesses of AccumulatorInstructions. -/
theorem meets_AccumulatorInstructions :
    (∃ (s : State) (c : CoreId) (w : Fields), Runs s c 0x13 { sz := true } w) ∧
    (∃ (s : State) (c : CoreId) (w : Fields), Runs s c 0x14 { sz := true } w) ∧
    (∃ (s : State) (c : CoreId) (w : Fields), Runs s c 0x18 {} w) ∧
    (∃ (s : State) (c : CoreId) (w : Fields), Runs s c 0x19 { sz := true } w) :=
  ⟨
   ⟨sD ({}), .docent 0 0, ⟨1, 0, 0, 31⟩, by decide +kernel⟩,
   ⟨sD ({}), .docent 0 0, ⟨1, 0, 0, 31⟩, by decide +kernel⟩,
   ⟨sK ({}), .keeper 0, ⟨0, 0, 0, 0⟩, by decide +kernel⟩,
   ⟨sD ({}), .docent 0 0, ⟨3, 0, 0, 0⟩, by decide +kernel⟩⟩

/-- Witnesses of HsumAddsLanes. -/
theorem meets_HsumAddsLanes :
    ∃ (s : State) (c : CoreId) (w : Fields), Runs s c 0x16 { sz := true, sh := true, s := true } w :=
  ⟨sD ({}), .docent 0 0, ⟨2, 0, 8, 0⟩, by decide +kernel⟩

/-- Witnesses of ProductOfLanes. -/
theorem meets_ProductOfLanes :
    (∃ (s : State) (c : CoreId) (w : Fields) (bs : List Byte) (extra : Nat) (u : State), Runs s c 0x1E
      { sz := true, base := true, sh := true, s := true } w ∧ Operand s c w bs extra u) ∧
    (∃ (s : State) (c : CoreId) (w : Fields), Runs s c 0x1F { sz := true, sh := true, s := true } w) :=
  ⟨
   ⟨sD ({ a := 7 }), .docent 0 0, ⟨0, 0, 0, 0⟩, (coreLoad (.docent 0 0 : CoreId) (effAddr (.docent 0 0 : CoreId) (found (sD ({ a := 7 }) : State)
     (.docent 0 0 : CoreId)) (⟨0, 0, 0, 0⟩ : Fields)) (shapeBytes (⟨0, 0, 0, 0⟩ : Fields).shape (⟨0, 0, 0, 0⟩ : Fields).width) (shapeBytes (⟨0, 0, 0,
     0⟩ : Fields).shape (⟨0, 0, 0, 0⟩ : Fields).width) (landed (sD ({ a := 7 }) : State) (.docent 0 0 : CoreId))).bs, (coreLoad (.docent 0 0 : CoreId)
     (effAddr (.docent 0 0 : CoreId) (found (sD ({ a := 7 }) : State) (.docent 0 0 : CoreId)) (⟨0, 0, 0, 0⟩ : Fields)) (shapeBytes (⟨0, 0, 0, 0⟩ :
     Fields).shape (⟨0, 0, 0, 0⟩ : Fields).width) (shapeBytes (⟨0, 0, 0, 0⟩ : Fields).shape (⟨0, 0, 0, 0⟩ : Fields).width) (landed (sD ({ a := 7 }) :
     State) (.docent 0 0 : CoreId))).ex, (coreLoad (.docent 0 0 : CoreId) (effAddr (.docent 0 0 : CoreId) (found (sD ({ a := 7 }) : State) (.docent 0
     0 : CoreId)) (⟨0, 0, 0, 0⟩ : Fields)) (shapeBytes (⟨0, 0, 0, 0⟩ : Fields).shape (⟨0, 0, 0, 0⟩ : Fields).width) (shapeBytes (⟨0, 0, 0, 0⟩ :
     Fields).shape (⟨0, 0, 0, 0⟩ : Fields).width) (landed (sD ({ a := 7 }) : State) (.docent 0 0 : CoreId))).st, by decide +kernel⟩,
   ⟨sD ({ a := 7 }), .docent 0 0, ⟨2, 0, 56, 0⟩, by decide +kernel⟩⟩

/-- Witnesses of ProductInstructions. -/
theorem meets_ProductInstructions :
    (∃ (s : State) (c : CoreId) (w : Fields) (bs : List Byte) (extra : Nat) (u : State), Runs s c 0x1E
      { sz := true, base := true, sh := true, s := true } w ∧ Operand s c w bs extra u) ∧
    (∃ (s : State) (c : CoreId) (w : Fields), Runs s c 0x1F { sz := true, sh := true, s := true } w) ∧
    (∃ (s : State) (c : CoreId) (p : Product) (ps : List Product), (getCore s c).products = p :: ps) :=
  ⟨
   ⟨sD ({ a := 7 }), .docent 0 0, ⟨0, 0, 0, 0⟩, (coreLoad (.docent 0 0 : CoreId) (effAddr (.docent 0 0 : CoreId) (found (sD ({ a := 7 }) : State)
     (.docent 0 0 : CoreId)) (⟨0, 0, 0, 0⟩ : Fields)) (shapeBytes (⟨0, 0, 0, 0⟩ : Fields).shape (⟨0, 0, 0, 0⟩ : Fields).width) (shapeBytes (⟨0, 0, 0,
     0⟩ : Fields).shape (⟨0, 0, 0, 0⟩ : Fields).width) (landed (sD ({ a := 7 }) : State) (.docent 0 0 : CoreId))).bs, (coreLoad (.docent 0 0 : CoreId)
     (effAddr (.docent 0 0 : CoreId) (found (sD ({ a := 7 }) : State) (.docent 0 0 : CoreId)) (⟨0, 0, 0, 0⟩ : Fields)) (shapeBytes (⟨0, 0, 0, 0⟩ :
     Fields).shape (⟨0, 0, 0, 0⟩ : Fields).width) (shapeBytes (⟨0, 0, 0, 0⟩ : Fields).shape (⟨0, 0, 0, 0⟩ : Fields).width) (landed (sD ({ a := 7 }) :
     State) (.docent 0 0 : CoreId))).ex, (coreLoad (.docent 0 0 : CoreId) (effAddr (.docent 0 0 : CoreId) (found (sD ({ a := 7 }) : State) (.docent 0
     0 : CoreId)) (⟨0, 0, 0, 0⟩ : Fields)) (shapeBytes (⟨0, 0, 0, 0⟩ : Fields).shape (⟨0, 0, 0, 0⟩ : Fields).width) (shapeBytes (⟨0, 0, 0, 0⟩ :
     Fields).shape (⟨0, 0, 0, 0⟩ : Fields).width) (landed (sD ({ a := 7 }) : State) (.docent 0 0 : CoreId))).st, by decide +kernel⟩,
   ⟨sD ({ a := 7 }), .docent 0 0, ⟨2, 0, 56, 0⟩, by decide +kernel⟩,
   ⟨sD { products := [⟨4, 1, 2⟩] }, .docent 0 0, ⟨4, 1, 2⟩, [], by decide +kernel⟩⟩

/-- Witnesses of IndexInstructions. -/
theorem meets_IndexInstructions :
    (∃ (s : State) (c : CoreId) (w : Fields) (bs : List Byte) (extra : Nat) (u : State), Runs s c 0x23 { base := true } w ∧ IndexOperand s c w bs
      extra u) ∧
    (∃ (s : State) (c : CoreId) (w : Fields) (bs : List Byte) (extra : Nat) (u : State), Runs s c 0x25 { base := true } w ∧ IndexOperand s c w bs
      extra u) ∧
    (∃ (s : State) (c : CoreId) (w : Fields), Runs s c 0x27 { m := true } w) ∧
    (∃ (s : State) (c : CoreId) (w : Fields), Runs s c 0x28 { m := true } w) ∧
    (∃ (s : State) (c : CoreId) (w : Fields) (bs : List Byte) (extra : Nat) (u : State), Runs s c 0x29 { base := true } w ∧ IndexOperand s c w bs
      extra u) ∧
    (∃ (s : State) (c : CoreId) (w : Fields) (bs : List Byte) (extra : Nat) (u : State), Runs s c 0x2A { base := true } w ∧ IndexOperand s c w bs
      extra u) :=
  ⟨
   ⟨sD ({}), .docent 0 0, ⟨0, 0, 0, 8⟩, (coreLoad (.docent 0 0 : CoreId) (effAddr (.docent 0 0 : CoreId) (found (sD ({}) : State) (.docent 0 0 :
     CoreId)) (⟨0, 0, 0, 8⟩ : Fields)) (.docent 0 0 : CoreId).indexBytes (.docent 0 0 : CoreId).indexBytes (landed (sD ({}) : State) (.docent 0 0 :
     CoreId))).bs, (coreLoad (.docent 0 0 : CoreId) (effAddr (.docent 0 0 : CoreId) (found (sD ({}) : State) (.docent 0 0 : CoreId)) (⟨0, 0, 0, 8⟩ :
     Fields)) (.docent 0 0 : CoreId).indexBytes (.docent 0 0 : CoreId).indexBytes (landed (sD ({}) : State) (.docent 0 0 : CoreId))).ex, (coreLoad
     (.docent 0 0 : CoreId) (effAddr (.docent 0 0 : CoreId) (found (sD ({}) : State) (.docent 0 0 : CoreId)) (⟨0, 0, 0, 8⟩ : Fields)) (.docent 0 0 :
     CoreId).indexBytes (.docent 0 0 : CoreId).indexBytes (landed (sD ({}) : State) (.docent 0 0 : CoreId))).st, by decide +kernel⟩,
   ⟨sD ({}), .docent 0 0, ⟨0, 0, 0, 8⟩, (coreLoad (.docent 0 0 : CoreId) (effAddr (.docent 0 0 : CoreId) (found (sD ({}) : State) (.docent 0 0 :
     CoreId)) (⟨0, 0, 0, 8⟩ : Fields)) (.docent 0 0 : CoreId).indexBytes (.docent 0 0 : CoreId).indexBytes (landed (sD ({}) : State) (.docent 0 0 :
     CoreId))).bs, (coreLoad (.docent 0 0 : CoreId) (effAddr (.docent 0 0 : CoreId) (found (sD ({}) : State) (.docent 0 0 : CoreId)) (⟨0, 0, 0, 8⟩ :
     Fields)) (.docent 0 0 : CoreId).indexBytes (.docent 0 0 : CoreId).indexBytes (landed (sD ({}) : State) (.docent 0 0 : CoreId))).ex, (coreLoad
     (.docent 0 0 : CoreId) (effAddr (.docent 0 0 : CoreId) (found (sD ({}) : State) (.docent 0 0 : CoreId)) (⟨0, 0, 0, 8⟩ : Fields)) (.docent 0 0 :
     CoreId).indexBytes (.docent 0 0 : CoreId).indexBytes (landed (sD ({}) : State) (.docent 0 0 : CoreId))).st, by decide +kernel⟩,
   ⟨sD ({ x := 0xFFFFFE }), .docent 0 0, ⟨0, 0, 4, 0xFFFF⟩, by decide +kernel⟩,
   ⟨sD ({}), .docent 0 0, ⟨0, 0, 0, 0x8000⟩, by decide +kernel⟩,
   ⟨sD ({}), .docent 0 0, ⟨0, 0, 0, 8⟩, (coreLoad (.docent 0 0 : CoreId) (effAddr (.docent 0 0 : CoreId) (found (sD ({}) : State) (.docent 0 0 :
     CoreId)) (⟨0, 0, 0, 8⟩ : Fields)) (.docent 0 0 : CoreId).indexBytes (.docent 0 0 : CoreId).indexBytes (landed (sD ({}) : State) (.docent 0 0 :
     CoreId))).bs, (coreLoad (.docent 0 0 : CoreId) (effAddr (.docent 0 0 : CoreId) (found (sD ({}) : State) (.docent 0 0 : CoreId)) (⟨0, 0, 0, 8⟩ :
     Fields)) (.docent 0 0 : CoreId).indexBytes (.docent 0 0 : CoreId).indexBytes (landed (sD ({}) : State) (.docent 0 0 : CoreId))).ex, (coreLoad
     (.docent 0 0 : CoreId) (effAddr (.docent 0 0 : CoreId) (found (sD ({}) : State) (.docent 0 0 : CoreId)) (⟨0, 0, 0, 8⟩ : Fields)) (.docent 0 0 :
     CoreId).indexBytes (.docent 0 0 : CoreId).indexBytes (landed (sD ({}) : State) (.docent 0 0 : CoreId))).st, by decide +kernel⟩,
   ⟨sD ({}), .docent 0 0, ⟨0, 0, 0, 8⟩, (coreLoad (.docent 0 0 : CoreId) (effAddr (.docent 0 0 : CoreId) (found (sD ({}) : State) (.docent 0 0 :
     CoreId)) (⟨0, 0, 0, 8⟩ : Fields)) (.docent 0 0 : CoreId).indexBytes (.docent 0 0 : CoreId).indexBytes (landed (sD ({}) : State) (.docent 0 0 :
     CoreId))).bs, (coreLoad (.docent 0 0 : CoreId) (effAddr (.docent 0 0 : CoreId) (found (sD ({}) : State) (.docent 0 0 : CoreId)) (⟨0, 0, 0, 8⟩ :
     Fields)) (.docent 0 0 : CoreId).indexBytes (.docent 0 0 : CoreId).indexBytes (landed (sD ({}) : State) (.docent 0 0 : CoreId))).ex, (coreLoad
     (.docent 0 0 : CoreId) (effAddr (.docent 0 0 : CoreId) (found (sD ({}) : State) (.docent 0 0 : CoreId)) (⟨0, 0, 0, 8⟩ : Fields)) (.docent 0 0 :
     CoreId).indexBytes (.docent 0 0 : CoreId).indexBytes (landed (sD ({}) : State) (.docent 0 0 : CoreId))).st, by decide +kernel⟩⟩

/-- Witnesses of ControlInstructions. -/
theorem meets_ControlInstructions :
    (∃ (s : State) (c : CoreId) (w : Fields), Runs s c 0x2C { sh := true, s := true, m := true } w) ∧
    (∃ (s : State) (c : CoreId) (w : Fields), Runs s c 0x2D {} w) ∧
    (∃ (s : State) (c : CoreId) (w : Fields), Runs s c 0x2E {} w) ∧
    (∃ (s : State) (c : CoreId) (w : Fields), Runs s c 0x31 {} w) ∧
    (∃ (s : State) (c : CoreId) (w : Fields), Runs s c 0x32 {} w) :=
  ⟨
   ⟨sD ({ z := true }), .docent 0 0, ⟨0, 0, 4, 0xFFFF⟩, by decide +kernel⟩,
   ⟨sD ({}), .docent 0 0, ⟨0, 0, 0, 0⟩, by decide +kernel⟩,
   ⟨sK ({}), .keeper 0, ⟨0, 0, 0, 0⟩, by decide +kernel⟩,
   ⟨sD ({}), .docent 0 0, ⟨0, 0, 0, 0⟩, by decide +kernel⟩,
   ⟨sK ({}), .keeper 0, ⟨0, 0, 0, 0⟩, by decide +kernel⟩⟩

/-- Witnesses of StoreInstructions. -/
theorem meets_StoreInstructions :
    (∃ (s : State) (c : CoreId) (w : Fields) (base : Nat), Sound s ∧ Runs s c 0x02 { sz := true, base := true, sh := true, m := true } w ∧
      plainPlace c (effAddr c (found s c) w) (shapeBytes w.shape w.width) = some base ∧ effAddr c (found s c) w % shapeBytes w.shape w.width = 0) ∧
    (∃ (s : State) (c : CoreId) (w : Fields) (base : Nat), Sound s ∧ Runs s c 0x1B { base := true } w ∧ plainPlace c (effAddr c (found s c) w) 8
      = some base ∧ effAddr c (found s c) w % 8 = 0) ∧
    (∃ (s : State) (c : CoreId) (w : Fields) (base : Nat), Sound s ∧ Runs s c 0x24 { base := true } w ∧ plainPlace c (effAddr c (found s c) w)
      c.indexBytes = some base ∧ effAddr c (found s c) w % c.indexBytes = 0) ∧
    (∃ (s : State) (c : CoreId) (w : Fields) (base : Nat), Sound s ∧ Runs s c 0x26 { base := true } w ∧ plainPlace c (effAddr c (found s c) w)
      c.indexBytes = some base ∧ effAddr c (found s c) w % c.indexBytes = 0) ∧
    (∃ (s : State) (c : CoreId) (w : Fields) (base : Nat), Sound s ∧ Runs s c 0x1D { sz := true, base := true, sh := true, onlyS := true } w ∧
      plainPlace c (effAddr c (found s c) w) (w.width / 8) = some base ∧ effAddr c (found s c) w % (w.width / 8) = 0) ∧
    (∃ (r : StoreRow) (s : State) (c : CoreId) (w : Fields) (u : State), r ∈ storeRows ∧ Runs s c r.op r.acc w ∧ coreStore c (effAddr c (found s
      c) w) (r.align c w) (r.data c w (found s c)) (r.enables c w (found s c)) (landed s c) = .done u) ∧
    (∃ (r : StoreRow) (s : State) (c : CoreId) (w : Fields) (code sub : Nat) (u : State), r ∈ storeRows ∧ Runs s c r.op r.acc w ∧ coreStore c
      (effAddr c (found s c) w) (r.align c w) (r.data c w (found s c)) (r.enables c w (found s c)) (landed s c) = .fault code sub u) ∧
    (∃ (s : State) (c : CoreId) (w : Fields), Runs s c 0x1D { sz := true, base := true, sh := true, onlyS := true } w ∧ effAddr c (found s c) w %
      (w.width / 8) ≠ 0) ∧
    (∃ (s : State) (c : CoreId) (w : Fields), Runs s c 0x1D { sz := true, base := true, sh := true, onlyS := true } w ∧ effAddr c (found s c) w %
      (w.width / 8) = 0 ∧ xaddPlace c (effAddr c (found s c) w) (w.width / 8) = none) :=
  ⟨
   ⟨sD ({ a := 9 }), .docent 0 0, ⟨2, 0, 0, 64⟩, docentLocalBase 0 0 + 64, by decide +kernel⟩,
   ⟨sD ({ mask := 5 }), .docent 0 0, ⟨0, 0, 0, 64⟩, docentLocalBase 0 0 + 64, by decide +kernel⟩,
   ⟨sD ({ x := 5 }), .docent 0 0, ⟨0, 0, 0, 64⟩, docentLocalBase 0 0 + 64, by decide +kernel⟩,
   ⟨sD ({ y := 5 }), .docent 0 0, ⟨0, 0, 0, 64⟩, docentLocalBase 0 0 + 64, by decide +kernel⟩,
   ⟨sD ({ a := 9 }), .docent 0 0, ⟨2, 0, 48, 64⟩, docentLocalBase 0 0 + 64, by decide +kernel⟩,
   ⟨storeRows[0], sD {}, .docent 0 0, ⟨0, 0, 0, 64⟩, (coreStore (.docent 0 0) (effAddr (.docent 0 0) (found (sD {}) (.docent 0 0)) (⟨0, 0, 0, 64⟩))
     ((storeRows[0]).align (.docent 0 0) (⟨0, 0, 0, 64⟩)) ((storeRows[0]).data (.docent 0 0) (⟨0, 0, 0, 64⟩) (found (sD {}) (.docent 0 0)))
     ((storeRows[0]).enables (.docent 0 0) (⟨0, 0, 0, 64⟩) (found (sD {}) (.docent 0 0))) (landed (sD {}) (.docent 0 0))).st, List.getElem_mem _,
     by decide +kernel⟩,
   ⟨storeRows[1], sD {}, .docent 0 0, ⟨0, 0, 0, 3⟩, (coreStore (.docent 0 0) (effAddr (.docent 0 0) (found (sD {}) (.docent 0 0)) (⟨0, 0, 0, 3⟩))
     ((storeRows[1]).align (.docent 0 0) (⟨0, 0, 0, 3⟩)) ((storeRows[1]).data (.docent 0 0) (⟨0, 0, 0, 3⟩) (found (sD {}) (.docent 0 0)))
     ((storeRows[1]).enables (.docent 0 0) (⟨0, 0, 0, 3⟩) (found (sD {}) (.docent 0 0))) (landed (sD {}) (.docent 0 0))).cd, (coreStore (.docent 0 0)
     (effAddr (.docent 0 0) (found (sD {}) (.docent 0 0)) (⟨0, 0, 0, 3⟩)) ((storeRows[1]).align (.docent 0 0) (⟨0, 0, 0, 3⟩)) ((storeRows[1]).data
     (.docent 0 0) (⟨0, 0, 0, 3⟩) (found (sD {}) (.docent 0 0))) ((storeRows[1]).enables (.docent 0 0) (⟨0, 0, 0, 3⟩) (found (sD {}) (.docent 0 0)))
     (landed (sD {}) (.docent 0 0))).sb, (coreStore (.docent 0 0) (effAddr (.docent 0 0) (found (sD {}) (.docent 0 0)) (⟨0, 0, 0, 3⟩))
     ((storeRows[1]).align (.docent 0 0) (⟨0, 0, 0, 3⟩)) ((storeRows[1]).data (.docent 0 0) (⟨0, 0, 0, 3⟩) (found (sD {}) (.docent 0 0)))
     ((storeRows[1]).enables (.docent 0 0) (⟨0, 0, 0, 3⟩) (found (sD {}) (.docent 0 0))) (landed (sD {}) (.docent 0 0))).st, List.getElem_mem _,
     by decide +kernel⟩,
   ⟨sD {}, .docent 0 0, ⟨2, 0, 48, 65⟩, by decide +kernel⟩,
   ⟨sD { x := 0x480000 }, .docent 0 0, ⟨2, 1, 48, 0⟩, by decide +kernel⟩⟩

/-- Witnesses of TransferInstruction. -/
theorem meets_TransferInstruction :
    (∃ (s : State) (c : CoreId) (w : Fields) (y : Core), Runs s c 0x2B {} w ∧ transferred c (found s c) w.disp.toNat = some y) ∧
    (∃ (s : State) (c : CoreId) (w : Fields), Runs s c 0x2B {} w ∧ w.disp.toNat = 7 ∧ s.tsc < 2 ^ 64) ∧
    (∃ (s : State) (c : CoreId) (w : Fields), Runs s c 0x2B {} w ∧ w.disp.toNat = 12 ∧ counterAllowed s c = true) ∧
    (∃ (s : State) (c : CoreId) (w : Fields), Runs s c 0x2B {} w ∧ 13 ≤ w.disp.toNat ∧ w.disp.toNat ≤ 20 ∧ counterAllowed s c = true ∧ timedEvent
      (Tab.getD (found s c).pmcSel (w.disp.toNat - 13) 0) = false) ∧
    (∃ (s : State) (c : CoreId) (w : Fields), Runs s c 0x2B {} w ∧ 13 ≤ w.disp.toNat ∧ w.disp.toNat ≤ 20 ∧ counterAllowed s c = true ∧ timedEvent
      (Tab.getD (found s c).pmcSel (w.disp.toNat - 13) 0) = true) :=
  ⟨
   ⟨sD ({ a := 9 }), .docent 0 0, ⟨0, 0, 0, 11⟩, (transferred (.docent 0 0 : CoreId) (found (sD ({ a := 9 }) : State) (.docent 0 0 : CoreId))
     11).getD {}, by decide +kernel⟩,
   ⟨sD ({}), .docent 0 0, ⟨0, 0, 0, 7⟩, by decide +kernel⟩,
   ⟨sK ({}), .keeper 0, ⟨0, 0, 0, 12⟩, by decide +kernel⟩,
   ⟨sK ({}), .keeper 0, ⟨0, 0, 0, 20⟩, by decide +kernel⟩,
   ⟨sK ({ pmcSel := [(7, 2)] }), .keeper 0, ⟨0, 0, 0, 20⟩, by decide +kernel⟩⟩

/-- Witnesses of IretRestores. -/
theorem meets_IretRestores :
    ∃ (s : State) (k : Nat) (w : Fields), Runs s (.keeper k) 0x3E {} w :=
  ⟨sK ({ epc := 0x011000000100, efl := 5 }), 0, ⟨0, 0, 0, 0⟩, by decide +kernel⟩

/-- Witnesses of KeeperCoreInstructions. -/
theorem meets_KeeperCoreInstructions :
    (∃ (s : State) (k : Nat) (w : Fields), Runs s (.keeper k) 0x3B {} w) ∧
    (∃ (s : State) (k : Nat) (w : Fields) (v : Nat), Runs s (.keeper k) 0x3C {} w ∧ specialOf k (found s (.keeper k)) w.disp.toNat = some v) ∧
    (∃ (s : State) (k : Nat) (w : Fields) (y : Core), Runs s (.keeper k) 0x3D {} w ∧ specialPut (found s (.keeper k)) w.disp.toNat = some y) ∧
    (∃ (s : State) (k : Nat) (w : Fields), Runs s (.keeper k) 0x3C {} w ∧ specialOf k (found s (.keeper k)) w.disp.toNat = none) ∧
    (∃ (s : State) (k : Nat) (w : Fields), Runs s (.keeper k) 0x3D {} w ∧ specialPut (found s (.keeper k)) w.disp.toNat = none) ∧
    (∃ (s : State) (k : Nat) (w : Fields), Runs s (.keeper k) 0x3F {} w) ∧
    (∃ (s : State) (k : Nat) (w : Fields), Sound s ∧ Runs s (.keeper k) 0x39 { base := true } w ∧ effAddr (.keeper k) (found s (.keeper k)) w %
      64 = 0 ∧ areaMapped (effAddr (.keeper k) (found s (.keeper k)) w) 256 = true ∧ plainPlace (.keeper k) (effAddr (.keeper k) (found s (.keeper
      k)) w) 256 = some (effAddr (.keeper k) (found s (.keeper k)) w)) ∧
    (∃ (s : State) (k : Nat) (w : Fields) (bs : List Byte) (extra : Nat) (u : State), Runs s (.keeper k) 0x3A { base := true } w ∧ effAddr
      (.keeper k) (found s (.keeper k)) w % 64 = 0 ∧ areaMapped (effAddr (.keeper k) (found s (.keeper k)) w) 256 = true ∧ coreLoad (.keeper k)
      (effAddr (.keeper k) (found s (.keeper k)) w) 256 64 (landed s (.keeper k)) = .got bs extra u) ∧
    (∃ (s : State) (k : Nat) (w : Fields) (u : State), Runs s (.keeper k) 0x39 { base := true } w ∧ effAddr (.keeper k) (found s (.keeper k)) w %
      64 = 0 ∧ areaMapped (effAddr (.keeper k) (found s (.keeper k)) w) 256 = true ∧ coreStore (.keeper k) (effAddr (.keeper k) (found s (.keeper
      k)) w) 64 (contextBytes (.keeper k) (found s (.keeper k)).drain) (List.replicate 256 true) (landed s (.keeper k)) = .done u) ∧
    (∃ (s : State) (k : Nat) (w : Fields) (code : Nat) (sub : Nat) (u : State), Runs s (.keeper k) 0x39 { base := true } w ∧ effAddr (.keeper k)
      (found s (.keeper k)) w % 64 = 0 ∧ areaMapped (effAddr (.keeper k) (found s (.keeper k)) w) 256 = true ∧ coreStore (.keeper k) (effAddr
      (.keeper k) (found s (.keeper k)) w) 64 (contextBytes (.keeper k) (found s (.keeper k)).drain) (List.replicate 256 true) (landed s (.keeper
      k)) = .fault code sub u) ∧
    (∃ (s : State) (k : Nat) (w : Fields), Runs s (.keeper k) 0x39 { base := true } w ∧ (effAddr (.keeper k) (found s (.keeper k)) w % 64 ≠ 0 ∨
      areaMapped (effAddr (.keeper k) (found s (.keeper k)) w) 256 = false)) ∧
    (∃ (s : State) (k : Nat) (w : Fields), Runs s (.keeper k) 0x3A { base := true } w ∧ (effAddr (.keeper k) (found s (.keeper k)) w % 64 ≠ 0 ∨
      areaMapped (effAddr (.keeper k) (found s (.keeper k)) w) 256 = false)) :=
  ⟨
   ⟨sK ({ a := 9 }), 0, ⟨0, 0, 0, 0⟩, by decide +kernel⟩,
   ⟨sK ({}), 0, ⟨0, 0, 0, 7⟩, 0, by decide +kernel⟩,
   ⟨sK ({ a := 0x181 }), 0, ⟨0, 0, 0, 6⟩, (specialPut (found (sK ({ a := 0x181 }) : State) (.keeper 0)) 6).getD {}, by decide +kernel⟩,
   ⟨sK {}, 0, ⟨0, 0, 0, 8⟩, by decide +kernel⟩,
   ⟨sK {}, 0, ⟨0, 0, 0, 7⟩, by decide +kernel⟩,
   ⟨sK ({}), 0, ⟨0, 0, 0, 0⟩, by decide +kernel⟩,
   ⟨sK ({ x := 0x011000000000, a := 5 }), 0, ⟨0, 1, 0, 0⟩, by decide +kernel⟩,
   ⟨sK ({ x := 0x011000000000, a := 5 }), 0, ⟨0, 1, 0, 0⟩, (coreLoad (.keeper 0) (effAddr (.keeper 0) (found (sK ({ x := 0x011000000000, a := 5 }) :
     State) (.keeper 0)) (⟨0, 1, 0, 0⟩ : Fields)) 256 64 (landed (sK ({ x := 0x011000000000, a := 5 }) : State) (.keeper 0))).bs, (coreLoad (.keeper
     0) (effAddr (.keeper 0) (found (sK ({ x := 0x011000000000, a := 5 }) : State) (.keeper 0)) (⟨0, 1, 0, 0⟩ : Fields)) 256 64 (landed (sK
     ({ x := 0x011000000000, a := 5 }) : State) (.keeper 0))).ex, (coreLoad (.keeper 0) (effAddr (.keeper 0) (found (sK
     ({ x := 0x011000000000, a := 5 }) : State) (.keeper 0)) (⟨0, 1, 0, 0⟩ : Fields)) 256 64 (landed (sK ({ x := 0x011000000000, a := 5 }) : State)
     (.keeper 0))).st, by decide +kernel⟩,
   ⟨sK { x := 0x011000000000, a := 5 }, 0, ⟨0, 1, 0, 0⟩, (coreStore (.keeper 0) (effAddr (.keeper 0) (found (sK { x := 0x011000000000, a := 5 })
     (.keeper 0)) ⟨0, 1, 0, 0⟩) 64 (contextBytes (.keeper 0) (found (sK { x := 0x011000000000, a := 5 }) (.keeper 0)).drain) (List.replicate 256 true)
     (landed (sK { x := 0x011000000000, a := 5 }) (.keeper 0))).st, by decide +kernel⟩,
   ⟨sK { x := 0x011002000000 }, 0, ⟨0, 1, 0, 0⟩, (coreStore (.keeper 0) (effAddr (.keeper 0) (found (sK { x := 0x011002000000 }) (.keeper 0)) ⟨0, 1,
     0, 0⟩) 64 (contextBytes (.keeper 0) (found (sK { x := 0x011002000000 }) (.keeper 0)).drain) (List.replicate 256 true) (landed (sK
     { x := 0x011002000000 }) (.keeper 0))).cd, (coreStore (.keeper 0) (effAddr (.keeper 0) (found (sK { x := 0x011002000000 }) (.keeper 0)) ⟨0, 1, 0,
     0⟩) 64 (contextBytes (.keeper 0) (found (sK { x := 0x011002000000 }) (.keeper 0)).drain) (List.replicate 256 true) (landed (sK
     { x := 0x011002000000 }) (.keeper 0))).sb, (coreStore (.keeper 0) (effAddr (.keeper 0) (found (sK { x := 0x011002000000 }) (.keeper 0)) ⟨0, 1, 0,
     0⟩) 64 (contextBytes (.keeper 0) (found (sK { x := 0x011002000000 }) (.keeper 0)).drain) (List.replicate 256 true) (landed (sK
     { x := 0x011002000000 }) (.keeper 0))).st, by decide +kernel⟩,
   ⟨sK { x := 0x011000000008 }, 0, ⟨0, 1, 0, 0⟩, by decide +kernel⟩,
   ⟨sK { x := 0x4000 }, 0, ⟨0, 1, 0, 0⟩, by decide +kernel⟩⟩

/-- Witnesses of FarAccessInstructions. -/
theorem meets_FarAccessInstructions :
    (∃ (s : State) (k : Nat) (w : Fields) (ans : DramAns) (v : State), (Runs s (.keeper k) 0x33 { sz := true, base := true, sh := true } w ∧
      effAddr (.keeper k) (found s (.keeper k)) w % shapeBytes w.shape w.width = 0 ∧ effAddr (.keeper k) (found s (.keeper k)) w < pageBase ∧
      Awake (landed s (.keeper k)) (farIsland (landed s (.keeper k)) (effAddr (.keeper k) (found s (.keeper k)) w)) ∧ ans.code = 0) ∧ busRead
      (effAddr (.keeper k) (found s (.keeper k)) w) (shapeBytes w.shape w.width) (pmcEvent (.keeper k) 0x16 (reachedBy (.keeper k) (farIsland
      (landed s (.keeper k)) (effAddr (.keeper k) (found s (.keeper k)) w)) (landed s (.keeper k)))) = (ans, v)) ∧
    (∃ (s : State) (k : Nat) (w : Fields) (v : State), (Runs s (.keeper k) 0x34 { sz := true, base := true, sh := true } w ∧ effAddr (.keeper k)
      (found s (.keeper k)) w % shapeBytes w.shape w.width = 0 ∧ effAddr (.keeper k) (found s (.keeper k)) w < pageBase ∧ Awake (landed s (.keeper
      k)) (farIsland (landed s (.keeper k)) (effAddr (.keeper k) (found s (.keeper k)) w))) ∧ busWrite (effAddr (.keeper k) (found s (.keeper k))
      w) (shapeData w (found s (.keeper k)).a) (pmcEvent (.keeper k) 0x16 (reachedBy (.keeper k) (farIsland (landed s (.keeper k)) (effAddr
      (.keeper k) (found s (.keeper k)) w)) (landed s (.keeper k)))) = (0, v)) ∧
    (∃ (s : State) (k : Nat) (w : Fields) (v : Word) (z : State), (Runs s (.keeper k) 0x35 { base := true } w ∧ effAddr (.keeper k) (found s
      (.keeper k)) w % 4 = 0 ∧ effAddr (.keeper k) (found s (.keeper k)) w < 0x108000 ∧ Awake (landed s (.keeper k)) (servingIsland (effAddr
      (.keeper k) (found s (.keeper k)) w / 0x1000) (effAddr (.keeper k) (found s (.keeper k)) w % 0x1000))) ∧ pageRead .served (.keeper k)
      (effAddr (.keeper k) (found s (.keeper k)) w / 0x1000) (effAddr (.keeper k) (found s (.keeper k)) w % 0x1000) 32 (pmcEvent (.keeper k) 0x17
      (reachedBy (.keeper k) (servingIsland (effAddr (.keeper k) (found s (.keeper k)) w / 0x1000) (effAddr (.keeper k) (found s (.keeper k)) w %
      0x1000)) (landed s (.keeper k)))) = (0, v, z)) ∧
    (∃ (s : State) (k : Nat) (w : Fields) (z : State), (Runs s (.keeper k) 0x36 { base := true } w ∧ effAddr (.keeper k) (found s (.keeper k)) w
      % 4 = 0 ∧ effAddr (.keeper k) (found s (.keeper k)) w < 0x108000 ∧ Awake (landed s (.keeper k)) (servingIsland (effAddr (.keeper k) (found s
      (.keeper k)) w / 0x1000) (effAddr (.keeper k) (found s (.keeper k)) w % 0x1000))) ∧ pageWrite .served (.keeper k) (effAddr (.keeper k)
      (found s (.keeper k)) w / 0x1000) (effAddr (.keeper k) (found s (.keeper k)) w % 0x1000) 32 ((found s (.keeper k)).a.setWidth 32) (pmcEvent
      (.keeper k) 0x17 (reachedBy (.keeper k) (servingIsland (effAddr (.keeper k) (found s (.keeper k)) w / 0x1000) (effAddr (.keeper k) (found s
      (.keeper k)) w % 0x1000)) (landed s (.keeper k)))) = (0, z)) ∧
    (∃ (s : State) (k : Nat) (w : Fields), (Sound s ∧ Runs s (.keeper k) 0x34 { sz := true, base := true, sh := true } w ∧ effAddr (.keeper k)
      (found s (.keeper k)) w % shapeBytes w.shape w.width = 0 ∧ effAddr (.keeper k) (found s (.keeper k)) w < pageBase ∧ NothingBefore s (.keeper
      k) (farIsland s (effAddr (.keeper k) (found s (.keeper k)) w))) ∧ ((∃ g, farIsland s (effAddr (.keeper k) (found s (.keeper k)) w) = some
      (.gallery g) ∧ islandRefuses s (.gallery g) = false ∧ (islandPresent s (.gallery g) && islandAsleep s (.gallery g)) = false) ∨ (farIsland s
      (effAddr (.keeper k) (found s (.keeper k)) w) = some .keeper ∧ islandAsleep s .keeper = false))) ∧
    (∃ (s : State) (k : Nat) (w : Fields), Runs s (.keeper k) 0x37 { base := true } w ∧ effAddr (.keeper k) (found s (.keeper k)) w < 512) ∧
    (∃ (s : State) (k : Nat) (w : Fields), Runs s (.keeper k) 0x38 { base := true } w ∧ effAddr (.keeper k) (found s (.keeper k)) w < 512) :=
  ⟨
   ⟨sK { x := 0x010000000000, a := 5 }, 0, ⟨0, 1, 0, 0⟩, _, _, by decide +kernel, (Prod.eta _).symm⟩,
   ⟨sK { x := 0x010000000000, a := 5 }, 0, ⟨0, 1, 0, 0⟩, _, by decide +kernel, fstIs _ _ (by decide +kernel)⟩,
   ⟨sK { x := 0x1000 }, 0, ⟨0, 1, 0, 0⟩, _, _, by decide +kernel, fstIs _ _ (by decide +kernel)⟩,
   ⟨sK { x := 0x1054, a := 5 }, 0, ⟨0, 1, 0, 0⟩, _, by decide +kernel, fstIs _ _ (by decide +kernel)⟩,
   ⟨sK { x := 0x010000000000, a := 5 }, 0, ⟨0, 1, 0, 0⟩, by decide +kernel, .inl ⟨0, by decide +kernel⟩⟩,
   ⟨sK ({ a := 5 }), 0, ⟨0, 0, 0, 511⟩, by decide +kernel⟩,
   ⟨sK ({}), 0, ⟨0, 0, 0, 511⟩, by decide +kernel⟩⟩

/-- Witnesses of FaultingInstructions. -/
theorem meets_FaultingInstructions :
    (∃ (s : State) (k : Nat) (w : Fields), Runs s (.keeper k) 0x00 {} w ∧ (getCore s (.keeper k)).ecause.getLsbD 31 = false) ∧
    (∃ (s : State) (g : Nat) (k : Nat) (w : Fields) (n : Nat) (tk : Ticket), Runs s (.docent g k) 0x00 {} w ∧ ServesQuietly s g k n tk) ∧
    (∃ (s : State) (g : Nat) (k : Nat) (n : Nat) (tk : Ticket), coreRuns s (.docent g k) = true ∧ fetchable (.docent g k) (getCore s (.docent g
      k)).pc = true ∧ ServesQuietly s g k n tk) ∧
    (∃ (s : State) (c : CoreId), Fetches s c) ∧
    (∃ (s : State) (k : Nat), Fetches s (.keeper k)) ∧
    (∃ (r : Nat × Accepts × (CoreId → Fields → Instr)) (s : State) (g : Nat) (k : Nat), (0x33 ≤ r.1 ∧ Fetches s (.docent g k)) ∧ r ∈ isaRows) ∧
    (∃ (r : Nat × Accepts × (CoreId → Fields → Instr)) (s : State) (c : CoreId) (w : Fields), (Fetches s c ∧ (r.1 < 0x33 ∨ c.isKeeper = true) ∧
      r.2.1.ok w = false) ∧ r ∈ isaRows) ∧
    (∃ (r : Nat × Accepts × (CoreId → Fields → Instr)) (s : State) (c : CoreId), (coreRuns s c = true ∧ fetchable c (getCore s c).pc = false) ∧ r
      ∈ isaRows) :=
  ⟨
   ⟨sK ({}), 0, ⟨0, 0, 0, 0⟩, by decide +kernel⟩,
   ⟨{ sD {} with rgs := { tickets := [(0, { desc := [], state := .inService 0 0, exec := 0 })] } }, 0, 0, ⟨0, 0, 0, 0⟩, 0,
     { desc := [], state := .inService 0 0, exec := 0 }, by decide +kernel⟩,
   ⟨{ sD {} with rgs := { tickets := [(0, { desc := [], state := .inService 0 0, exec := 0 })] } }, 0, 0, 0,
     { desc := [], state := .inService 0 0, exec := 0 }, by decide +kernel⟩,
   ⟨sD {}, .docent 0 0, by decide +kernel⟩,
   ⟨sK {}, 0, by decide +kernel⟩,
   ⟨isaRows[0x3B], sD {}, 0, 0, by decide +kernel, List.getElem_mem _⟩,
   ⟨isaRows[0x1C], sK {}, .keeper 0, ⟨0, 1, 0, 0⟩, by decide +kernel, List.getElem_mem _⟩,
   ⟨isaRows[1], { sD {} with gals := [(0, { cores := [(0, { serving := some 0, pc := 0xFFFFFF000000 })] })] }, .docent 0 0, by decide +kernel,
     List.getElem_mem _⟩⟩

/-- Witnesses of CrossingCommands. -/
theorem meets_CrossingCommands :
    (∃ (s : State) (id : Nat) (src : Island) (dst : Island) (op : CrossOp) (place : CrossPlace), islandPresent s src = true ∧ NewRequest s id ∧
      opShutPort s src op = none ∧ mirrorOp op = false ∧ place ≠ .served ∧ TakesRequest s dst) ∧
    (∃ (s : State) (id : Nat) (src : Island) (dst : Island) (op : CrossOp), islandPresent s src = true ∧ NewRequest s id ∧ opShutPort s src op =
      none ∧ mirrorOp op = false ∧ islandPresent s dst = true ∧ islandAsleep s dst = true) ∧
    (∃ (s : State) (id : Nat) (src : Island) (dst : Island) (op : CrossOp), islandPresent s src = true ∧ NewRequest s id ∧ opShutPort s src op =
      none ∧ mirrorOp op = false ∧ Awake s (some dst) ∧ (islandRefuses s dst = true ∨ (hdr s dst.primary).quiesceReq = true)) ∧
    (∃ (s : State) (id : Nat) (src : Island) (op : CrossOp) (p : Nat) (page : Nat) (off : Nat), islandPresent s src = true ∧ NewRequest s id ∧
      opShutPort s src op = some (p, page, off)) ∧
    (∃ (s : State) (id : Nat) (x : CrossResp), s.fab.requests.find? (fun r => r.id == id) = none ∧ s.fab.responses.find? (fun x => x.id == id) =
      some x ∧ x.epoch = (isl s x.dest).epoch) ∧
    (∃ (s : State) (id : Nat) (x : CrossResp), s.fab.responses.find? (fun x => x.id == id) = some x ∧ x.epoch ≠ (isl s x.dest).epoch) ∧
    (∃ (s : State) (dst : Island), (islandPresent s dst = true ∧ ((isl s dst).power = 2 ∨ (isl s dst).power = 3) ∧ s.fab.requests.any (·.dst ==
      dst) = false ∧ (s.pwr.ps ≠ 4 ∨ (isl s dst).wakePending = false)) ∧ (∀ n, dst = .dram n → (drc s n).waiting = [])) ∧
    (∃ (s : State) (dst : Island), (s.pwr.ps = 4 ∧ islandPresent s dst = true ∧ (isl s dst).wakePending = true ∧ s.fab.requests = []) ∧ (∀ n,
      (drc s n).waiting = [])) :=
  ⟨
   ⟨{}, 0, .keeper, .registrar, .pageRead 232 64 32, .sendSide, by decide +kernel⟩,
   ⟨{ pwr := { ps := 3 }, fab := { islands := [(Island.registrar.sensor, { power := 3 })] } }, 0, .keeper, .registrar, .pageRead 232 64 32,
     by decide +kernel⟩,
   ⟨{ fab := { islands := [(Island.registrar.sensor, { power := 0 })] } }, 0, .keeper, .registrar, .pageRead 232 64 32, by decide +kernel⟩,
   ⟨{}, 0, .host 0, .pageRead 232 64 32, 0, 232, 64, by decide +kernel⟩,
   ⟨{ fab := { responses := [⟨0, .keeper, 0, 0, true, [1, 0, 0, 0]⟩] } }, 0, ⟨0, .keeper, 0, 0, true, [1, 0, 0, 0]⟩, by decide +kernel⟩,
   ⟨{ fab := { responses := [⟨0, .keeper, 1, 0, true, [1, 0, 0, 0]⟩] } }, 0, ⟨0, .keeper, 1, 0, true, [1, 0, 0, 0]⟩, by decide +kernel⟩,
   ⟨{ fab := { islands := [(Island.registrar.sensor, { power := 3, wakePending := true })] } }, .registrar, by decide +kernel, by intro n h; cases
     h⟩,
   ⟨{ pwr := { ps := 4 }, fab := { islands := [(Island.registrar.sensor, { power := 0, wakePending := true })] } }, .registrar, by decide +kernel,
     fun _ => rfl⟩⟩

/-- Witnesses of HeaderWrites. -/
theorem meets_HeaderWrites :
    (∃ (s : State) (who : Requester) (page : Nat), HeaderServes s who page true) ∧
    (∃ (s : State) (k : Nat), Serves s (.keeper k) 1 true) ∧
    (∃ (page : Nat), pageIsland page = none) ∧
    (∃ (s : State) (k : Nat) (page : Nat) (off : Nat) (w : Nat), (pageIsland page).isSome = true ∧ Awake s (pageIsland page) ∧ NothingBefore s
      (.keeper k) (servingIsland page off) ∧ (w ≠ 32 ∨ off % 4 ≠ 0)) ∧
    (∃ (s : State) (k : Nat) (page : Nat) (off : Nat), (pageIsland page).isSome = true ∧ Awake s (pageIsland page) ∧ NothingBefore s (.keeper k)
      (pageIsland page) ∧ regsRefuse s page = true ∧ off % 4 = 0 ∧ 0x40 ≤ off ∧ off < 0x1000) ∧
    (∃ (s : State) (k : Nat) (page : Nat), pagePresent s page = true ∧ NothingBefore s (.keeper k) (some .alwaysOn)) ∧
    (∃ (s : State) (who : Requester) (page : Nat), who.isKeeper = false ∧ HeaderServes s who page true) ∧
    (∃ (s : State) (k : Nat) (page : Nat), pagePresent s page = true ∧ NothingBefore s (.keeper k) (some .alwaysOn)) ∧
    (∃ (s : State) (who : Requester) (page : Nat), HeaderServes s who page true) ∧
    (∃ (s : State) (who : Requester) (page : Nat), HeaderServes s who page true) :=
  ⟨
   ⟨{}, .keeper 0, 232, by decide +kernel⟩,
   ⟨{}, 0, by decide +kernel⟩,
   ⟨300, by decide +kernel⟩,
   ⟨{}, 0, 232, 66, 32, by decide +kernel⟩,
   ⟨{ fab := { pages := [(232, { enable := false })] } }, 0, 232, 64, by decide +kernel⟩,
   ⟨{}, 0, 232, by decide +kernel⟩,
   ⟨{}, .docent 0 0, 232, by decide +kernel⟩,
   ⟨{}, 0, 232, by decide +kernel⟩,
   ⟨{}, .keeper 0, 232, by decide +kernel⟩,
   ⟨{}, .keeper 0, 232, by decide +kernel⟩⟩

/-- Witnesses of QuiesceAndReinit. -/
theorem meets_QuiesceAndReinit :
    (∃ (s : State) (k : Nat) (page : Nat) (i : Island), pagePresent s page = true ∧ quiescePage page = true ∧ pageIsland page = some i ∧
      NothingBefore s (.keeper k) (some .alwaysOn)) ∧
    (∃ (s : State) (k : Nat) (page : Nat), pagePresent s page = true ∧ quiescePage page = true ∧ NothingBefore s (.keeper k) (some .alwaysOn)) ∧
    (∃ (s : State) (page : Nat) (i : Island), pageIsland page = some i ∧ (hdr s page).quiesceReq = true ∧ (hdr s page).quiesced = false ∧ (hdr s
      page).busy = false ∧ unitIdle s page = true ∧ s.fab.requests.any (·.dst == i) = false) ∧
    (∃ (s : State) (k : Nat) (i : Island), i ≠ .alwaysOn ∧ islandPresent s i = true ∧ (isl s i).power ≠ 0 ∧ pagePresent s i.primary = true ∧
      NothingBefore s (.keeper k) (some .alwaysOn)) ∧
    (∃ (s : State) (i : Island), (hdr s i.primary).busy = true ∧ (isl s i).power ≠ 0 ∧ pagePresent s i.primary = true ∧ s.fab.requests.any (·.dst
      == i) = false) :=
  ⟨
   ⟨{}, 0, 232, .registrar, by decide +kernel⟩,
   ⟨{ fab := { pages := [(232, { quiesceReq := true, quiesced := true })] } }, 0, 232, by decide +kernel⟩,
   ⟨{ fab := { pages := [(232, { quiesceReq := true })] } }, 232, .registrar, by decide +kernel⟩,
   ⟨{}, 0, .registrar, by decide +kernel⟩,
   ⟨{ fab := { pages := [(232, { busy := true })] } }, .registrar, by decide +kernel⟩⟩

/-- Witnesses of ReadsAndWindow. -/
theorem meets_ReadsAndWindow :
    (∃ (s : State) (who : Requester) (page : Nat), HeaderServes s who page false) ∧
    (∃ (s : State) (who : Requester), Serves s who 0 false) ∧
    (∃ (s : State) (who : Requester), Serves s who 3 false) ∧
    (∃ (s : State) (who : Requester) (page : Nat) (off : Nat) (v : Nat), Serves s who page false ∧ 0x40 ≤ off ∧ pairValue s page off = some v ∧
      ¬FreeCount s page off) ∧
    (∃ (s : State) (who : Requester), Serves s who 256 false ∧ pmcSelected s = true) ∧
    (∃ (s : State) (who : Requester) (i : Nat), i < 8 ∧ Serves s who 256 false ∧ FreeCount s 256 (0x58 + 8 * i)) ∧
    (∃ (s : State) (who : Requester) (j : Nat), j < 128 ∧ Serves s who (256 + j / 16) false) ∧
    (∃ (s : State) (port : Nat) (off : Nat) (pf : Nat), bar2Function s port = some pf ∧ off < 0x200000 ∧ off % 0x1000 = 0x30 ∧ HeaderServes s
      (.host port) (off / 0x1000) false) ∧
    (∃ (s : State) (port : Nat) (off : Nat) (pf : Nat), bar2Function s port = some pf ∧ off < 0x200000 ∧ off % 0x1000 = 0x30 ∧ (pageIsland (off /
      0x1000)).isSome = true ∧ windowOpen s port (off / 0x1000) false = false) ∧
    (∃ (s : State) (port : Nat) (off : Nat) (pf : Nat), bar2Function s port = some pf ∧ off < 0x200000 ∧ off % 0x1000 = 0x30 ∧ HeaderServes s
      (.host port) (off / 0x1000) true) ∧
    (∃ (s : State) (port : Nat) (off : Nat) (pf : Nat), bar2Function s port = some pf ∧ off < 0x200000 ∧ off % 0x1000 = 0x30 ∧ (pageIsland (off /
      0x1000)).isSome = true ∧ windowOpen s port (off / 0x1000) true = false) ∧
    (∃ (s : State) (who : Requester) (page : Nat) (off : Nat) (i : Island), pageIsland page = some i ∧ 0x40 ≤ off ∧ shutPort s who page true =
      none ∧ islandPresent s i = true ∧ islandAsleep s i = true) ∧
    (∃ (s : State) (port : Nat) (off : Nat) (pf : Nat) (i : Island), bar2Function s port = some pf ∧ off < 0x200000 ∧ pageIsland (off / 0x1000) =
      some i ∧ 0x40 ≤ off % 0x1000 ∧ windowOpen s port (off / 0x1000) false = true ∧ islandPresent s i = true ∧ islandAsleep s i = true) ∧
    (∃ (s : State) (who : Requester) (page : Nat) (off : Nat) (i : Island), servingIsland page off = some i ∧ shutPort s who page true = none ∧
      heldBy s i off = false) ∧
    (∃ (s : State) (port : Nat), bar2Function s port = none) ∧
    (∃ (s : State) (port : Nat), bar2Function s port = none) :=
  ⟨
   ⟨{}, .keeper 0, 232, by decide +kernel⟩,
   ⟨{}, .keeper 0, by decide +kernel⟩,
   ⟨{}, .keeper 0, by decide +kernel⟩,
   ⟨{}, .keeper 0, 0, 0x48, 1, by decide +kernel⟩,
   ⟨{}, .keeper 0, by decide +kernel⟩,
   ⟨sD { pmcSel := [(7, 2)] }, .keeper 0, 7, by decide +kernel⟩,
   ⟨{}, .keeper 0, 127, by decide +kernel⟩,
   ⟨{ sBar {} with fab := { regs := [(8 * 4096 + 0x40, 0xFFFFFFFF), (8 * 4096 + 0x44, 0xFFFFFFFF)] } }, 0, 0x1FF030 - 0xF8000, 0, by decide +kernel⟩,
   ⟨sBar {}, 0, 0xE8030, 0, by decide +kernel⟩,
   ⟨{ sBar {} with fab := { regs := [(8 * 4096 + 0x40, 0xFFFFFFFF), (8 * 4096 + 0x44, 0xFFFFFFFF)] } }, 0, 0xE8030, 0, by decide +kernel⟩,
   ⟨sBar {}, 0, 0xE8030, 0, by decide +kernel⟩,
   ⟨{ pwr := { ps := 3 }, fab := { islands := [(Island.registrar.sensor, { power := 3 })] } }, .keeper 0, 232, 64, .registrar, by decide +kernel⟩,
   ⟨{ sBar {} with pwr := { ps := 3 }, fab := { islands := [(Island.registrar.sensor, { power := 3 })], regs := [(8 * 4096 + 0x40, 0xFFFFFFFF)] } },
     0, 0xE8040, 0, .registrar, by decide +kernel⟩,
   ⟨{}, .keeper 0, 232, 64, .registrar, by decide +kernel⟩,
   ⟨{}, 0, by decide +kernel⟩,
   ⟨{}, 0, by decide +kernel⟩⟩

/-- Witnesses of PowerAndReset. -/
theorem meets_PowerAndReset :
    (∃ (s : State), s.pwr.on = false) ∧
    (∃ (s : State), s.pwr.on = true) ∧
    (∃ (s : State) (x : Nat × Bool), s.cur.dumping = some x) ∧
    (∃ (ns : Nat), ns < 50) ∧
    (∃ (s : State) (ns : Nat), 50 ≤ ns ∧ s.pwr.on = true ∧ s.pwr.resetDump = none ∧ s.pwr.started = true) ∧
    (∃ (s : State), s.pwr.perstN = false ∧ s.pwr.on = true ∧ s.pwr.resetDump = none ∧ s.pwr.pfailN = true ∧ s.pwr.started = false) ∧
    (∃ (s : State) (n : Nat), s.pwr.started = true ∧ (getCore s (.keeper 0)).running = true ∧ s.care.monitors ≠ [] ∧ n < 32 ∧ mbxCfg s n ≠ 0) ∧
    (∃ (s : State), s.pwr.started = true ∧ (getCore s (.keeper 0)).running = true) ∧
    (∃ (s : State) (cause : ResetCause), cause ≠ .powerOn ∧ (cause = .perst → s.pwr.perstN = false) ∧ s.pwr.on = true ∧ s.pwr.resetDump = none ∧
      s.pwr.started = true) ∧
    (∃ (s : State) (cause : ResetCause), s.pwr.resetDump = some cause) :=
  ⟨
   ⟨{ pwr := { on := false } }, by decide +kernel⟩,
   ⟨{}, by decide +kernel⟩,
   ⟨{ cur := { dumping := some (0, false) } }, (0, false), by decide +kernel⟩,
   ⟨49, by decide +kernel⟩,
   ⟨{ pwr := { started := true, perstN := true, inReset := false } }, 50, by decide +kernel⟩,
   ⟨{ pwr := { on := true } }, by decide +kernel⟩,
   ⟨{ pwr := { started := true }, kprs := [(0, { running := true })], care := { monitors := [(0, {})] }, fab := { regs := [(252 * 4096 + 0x100, 1)] } },
     0, by decide +kernel⟩,
   ⟨{ pwr := { started := true }, kprs := [(0, { running := true })] }, by decide +kernel⟩,
   ⟨{ pwr := { started := true, perstN := true, inReset := false } }, .nssr, by decide +kernel⟩,
   ⟨{ pwr := { started := true, resetDump := some .nssr } }, .nssr, by decide +kernel⟩⟩

/-- Witnesses of ConfigurationSpace. -/
theorem meets_ConfigurationSpace :
    (∃ (s : State), s.link.firmwareRuns = false) ∧
    (∃ (s : State) (c : Nat), s.link.firmwareRuns = true ∧ functionThere s c = false) ∧
    (∃ (s : State) (c : Nat), s.link.firmwareRuns = true ∧ functionThere s c = true) ∧
    (∃ (s : State) (c : Nat), s.link.firmwareRuns = true ∧ functionThere s c = true) ∧
    (∃ (s : State) (c : Nat), s.link.firmwareRuns = true ∧ functionThere s c = true) ∧
    (∃ (s : State) (c : Nat), s.link.firmwareRuns = true ∧ functionThere s c = true) ∧
    (∃ (s : State) (c : Nat) (reg : CfgReg), reg ∈ [.vendorId, .deviceId, .subsystemVendorId, .subsystemId, .interruptPin, .linkCapabilities,
      .totalVFs, .firstVfOffset, .vfStride, .vfDeviceId, .ariCapable, .msiCapable] ∧ s.link.firmwareRuns = true ∧ functionThere s c = true) ∧
    (∃ (s : State) (p : Nat) (sub : Nat), s.link.firmwareRuns = true ∧ subExists s p sub = true ∧ (ctlOf s (pfOf s p sub)).cfg.numVFs ≤ totalVfs
      s (pfOf s p sub)) ∧
    (∃ (s : State) (p : Nat) (sub : Nat), s.link.firmwareRuns = true ∧ subExists s p sub = true ∧ (ctlOf s (pfOf s p sub)).cfg.vfEnable = true) :=
  ⟨
   ⟨{}, by decide +kernel⟩,
   ⟨{ link := lk }, 1, by decide +kernel⟩,
   ⟨{ link := lk, acc := { ctls := [(0, ctl0)] } }, 0, by decide +kernel⟩,
   ⟨{ link := lk, acc := { ctls := [(0, ctl0)] } }, 0, by decide +kernel⟩,
   ⟨{ link := lk, acc := { ctls := [(0, ctl0)] } }, 0, by decide +kernel⟩,
   ⟨{ link := lk, acc := { ctls := [(0, ctl0)] } }, 0, by decide +kernel⟩,
   ⟨{ link := lk, acc := { ctls := [(0, ctl0)] } }, 0, .vendorId, by decide +kernel⟩,
   ⟨{ link := lk, acc := { ctls := [(0, ctl0)] } }, 0, 0, by decide +kernel⟩,
   ⟨{ link := lk, acc := { ctls := [(0, { ctl0 with cfg := { numVFs := 1, vfEnable := true } })] } }, 0, 0, by decide +kernel⟩⟩

/-- A state of clause 6. -/
def atLinkCommands6 : State := { link := { links := [(0, { rate := 5, width := 4, reqs := [⟨0, 0, .data ⟨0, 1, 1⟩, false⟩] })] }, acc := { cmds := [{ ref := { ctl := 0, sq := 1, cid := 1 }, phase := .started, opcode := 1 }], ctls := [(0, ctl0)] } }

/-- A state of clause 7. -/
def atLinkCommands7 : State := { link := { links := [(0, { rate := 5, width := 4, reqs := [⟨0, 0, .sqe 0 1, false⟩] })] }, acc := { cmds := [], ctls := [(0, ctl0)] } }

/-- A state of clause 8. -/
def atLinkCommands8 : State := { link := { links := [(0, { rate := 5, width := 4, reqs := [⟨0, 0, .sqe 0 1, true⟩] })] }, acc := { cmds := [], ctls := [(0, ctl0)] } }

/-- A state of clause 9. -/
def atLinkCommands9 : State := { link := { links := [(0, { rate := 5, width := 4, reqs := [⟨0, 0, .sqe 0 1, false⟩] })] }, acc := { cmds := [], ctls := [(0, ctl0)] } }

/-- Witnesses of LinkCommands. -/
theorem meets_LinkCommands :
    (∃ (s : State) (p : Nat) (sub : Nat) (x : LinkPartner), subExists s p sub = true ∧ s.link.trainable = true ∧ (linkOf s (4 * p +
      sub)).training = true ∧ islandRefuses s (.host p) = false ∧ trainedWidth (lanesOf s p) x.lanes x.failedLanes ≠ 0 ∧ min x.rate (rateCap s p
      sub) ≠ 0) ∧
    (∃ (s : State) (p : Nat) (sub : Nat), (linkOf s (4 * p + sub)).rate ≠ 0) ∧
    (∃ (s : State) (who : Requester) (p : Nat) (sub : Nat), MayWrite s who (hifPage p sub) 0x84) ∧
    (∃ (s : State) (p : Nat) (sub : Nat), subExists s p sub = true ∧ (linkOf s (4 * p + sub)).rate ≠ 0) ∧
    (∃ (s : State) (p : Nat) (sub : Nat), (linkOf s (4 * p + sub)).rate ≠ 0) ∧
    (∃ (s : State) (p : Nat) (sub : Nat) (tag : Nat) (r : LinkReq) (ref : CmdRef) (c : Cmd), (linkOf s (4 * p + sub)).reqs.find? (fun r => r.tag
      == tag) = some r ∧ r.ended = false ∧ (ctlOf s r.ctl).cfg.ctoDisable = false ∧ r.cause = .data ref ∧ cmdOf s ref = some c ∧ c.cpl = none ∧
      c.silent = false) ∧
    (∃ (s : State) (p : Nat) (sub : Nat) (tag : Nat) (r : LinkReq) (c : Nat) (q : Nat), (linkOf s (4 * p + sub)).reqs.find? (fun r => r.tag ==
      tag) = some r ∧ r.ended = false ∧ (ctlOf s r.ctl).cfg.ctoDisable = false ∧ r.cause = .sqe c q) ∧
    (∃ (s : State) (p : Nat) (sub : Nat) (tag : Nat) (r : LinkReq), (linkOf s (4 * p + sub)).reqs.find? (fun r => r.tag == tag) = some r ∧
      r.ended = true) ∧
    (∃ (s : State) (p : Nat) (sub : Nat) (tag : Nat) (r : LinkReq), (linkOf s (4 * p + sub)).reqs.find? (fun r => r.tag == tag) = some r) ∧
    (∃ (s : State) (c : Nat) (bar : Nat) (off : Nat), ctlUp s c = true ∧ (functionThere s c = false ∨ (ctlOf s c).cfg.barEnable = false ∨ barSize
      s c bar ≤ off)) ∧
    (∃ (s : State) (c : Nat) (off : Nat), BarAnswers s c ∧ off < 0x1000 ∧ off % 4 = 0) ∧
    (∃ (s : State) (c : Nat) (off : Nat), BarAnswers s c ∧ off < 0x10000 ∧ off % 4 = 0) ∧
    (∃ (s : State) (c : Nat) (v : Nat), BarAnswers s c ∧ v < 2048) ∧
    (∃ (s : State) (c : Nat) (off : Nat), BarAnswers s c ∧ off < 0x40000) ∧
    (∃ (s : State) (c : Nat) (off : Nat) (width : Nat), BarAnswers s c ∧ bar0Ok off width = false) :=
  ⟨
   ⟨{ link := { trainable := true, links := [(0, { training := true })] } }, 0, 0, ⟨6, true, 16, false, 0⟩, by decide +kernel⟩,
   ⟨{ link := lk, acc := { ctls := [(0, ctl0)] } }, 0, 0, by decide +kernel⟩,
   ⟨{ link := lk, acc := { ctls := [(0, ctl0)] } }, .keeper 0, 0, 0, by decide +kernel⟩,
   ⟨{ link := lk, acc := { ctls := [(0, ctl0)] } }, 0, 0, by decide +kernel⟩,
   ⟨{ link := lk, acc := { ctls := [(0, ctl0)] } }, 0, 0, by decide +kernel⟩,
   ⟨atLinkCommands6, 0, 0, 0, ⟨0, 0, .data ⟨0, 1, 1⟩, false⟩, ⟨0, 1, 1⟩, { ref := { ctl := 0, sq := 1, cid := 1 }, phase := .started, opcode := 1 },
     by decide +kernel⟩,
   ⟨atLinkCommands7, 0, 0, 0, ⟨0, 0, .sqe 0 1, false⟩, 0, 1, by decide +kernel⟩,
   ⟨atLinkCommands8, 0, 0, 0, ⟨0, 0, .sqe 0 1, true⟩, by decide +kernel⟩,
   ⟨atLinkCommands9, 0, 0, 0, ⟨0, 0, .sqe 0 1, false⟩, by decide +kernel⟩,
   ⟨{ link := lk, acc := { ctls := [(0, ctl0)] } }, 0, 0, 0x40000, by decide +kernel⟩,
   ⟨{ link := lk, acc := { ctls := [(0, ctl0)] } }, 0, 0x14, by decide +kernel⟩,
   ⟨{ link := lk, acc := { ctls := [(0, ctl0)] } }, 0, 0x14, by decide +kernel⟩,
   ⟨{ link := lk, acc := { ctls := [(0, ctl0)] } }, 0, 3, by decide +kernel⟩,
   ⟨{ link := lk, acc := { ctls := [(0, ctl0)] } }, 0, 0x14, by decide +kernel⟩,
   ⟨{ link := lk, acc := { ctls := [(0, ctl0)] } }, 0, 2, 32, by decide +kernel⟩⟩

/-- Witnesses of ControllerRegisters. -/
theorem meets_ControllerRegisters :
    (∃ (s : State) (c : Nat), BarAnswers s c) ∧
    (∃ (s : State) (c : Nat), BarAnswers s c) ∧
    (∃ (s : State) (c : Nat), BarAnswers s c) ∧
    (∃ (s : State) (c : Nat) (off : Nat) (width : Nat), BarAnswers s c ∧ bar0Ok off width = false) ∧
    (∃ (s : State) (c : Nat) (q : Nat) (v : Nat) (sq : Sq), BarAnswers s c ∧ Tab.get? (ctlOf s c).sqs q = some sq ∧ v < sq.size) ∧
    (∃ (s : State) (c : Nat) (q : Nat) (v : Nat) (cq : Cq), BarAnswers s c ∧ Tab.get? (ctlOf s c).cqs q = some cq ∧ v < cq.size) ∧
    (∃ (s : State) (c : Nat) (q : Nat), BarAnswers s c ∧ Tab.get? (ctlOf s c).sqs q = none ∧ (ctlOf s c).aers = []) ∧
    (∃ (s : State) (c : Nat) (q : Nat) (v : Nat) (cq : Cq), BarAnswers s c ∧ Tab.get? (ctlOf s c).cqs q = some cq ∧ cq.size ≤ v ∧ (ctlOf s
      c).aers = []) :=
  ⟨
   ⟨{ link := lk, acc := { ctls := [(0, { ctl0 with cc := 0 })] } }, 0, by decide +kernel⟩,
   ⟨{ link := lk, acc := { ctls := [(0, { ctl0 with cc := 0 })] } }, 0, by decide +kernel⟩,
   ⟨{ link := lk, acc := { ctls := [(0, { ctl0 with cc := 0 })] } }, 0, by decide +kernel⟩,
   ⟨{ link := lk, acc := { ctls := [(0, ctl0)] } }, 0, 2, 32, by decide +kernel⟩,
   ⟨{ link := lk, acc := { ctls := [(0, ctl0)] } }, 0, 0, 3, { size := 4, cqid := 0, prio := 0, tail := 1 }, by decide +kernel⟩,
   ⟨{ link := lk, acc := { ctls := [(0, ctl0)] } }, 0, 0, 3, { size := 4, vector := 0, ien := true }, by decide +kernel⟩,
   ⟨{ link := lk, acc := { ctls := [(0, ctl0)] } }, 0, 5, by decide +kernel⟩,
   ⟨{ link := lk, acc := { ctls := [(0, ctl0)] } }, 0, 0, 4, { size := 4, vector := 0, ien := true }, by decide +kernel⟩⟩

/-- Witnesses of ControllerLife. -/
theorem meets_ControllerLife :
    (∃ (s : State) (c : Nat) (w : Word), BarAnswers s c ∧ (ctlOf s c).enabled = false ∧ bit w 0 = true ∧ bits w 15 14 = 0 ∧ ccOk w = true) ∧
    (∃ (s : State) (c : Nat) (w : Word), BarAnswers s c ∧ (ctlOf s c).enabled = false ∧ bit w 0 = true ∧ ccOk w = false) ∧
    (∃ (s : State) (c : Nat), (ctlOf s c).enabled = true ∧ (ctlOf s c).cfs = false ∧ (isPf s c = true ∨ (ctlOf s c).online = true) ∧
      (s.cur.mediaReady = true ∨ bit (ctlOf s c).cc 24 = true)) ∧
    (∃ (s : State) (c : Nat), (ctlOf s c).enabled = true) ∧
    (∃ (s : State) (c : Nat), functionThere s c = true) ∧
    (∃ (s : State) (c : Nat) (n : Nat), (ctlOf s c).enabled = true ∧ (n % 4 = 1 ∨ n % 4 = 2)) ∧
    (∃ (s : State) (c : Nat), shutdownDone s c = true) ∧
    (∃ (s : State) (c : Nat), BarAnswers s c ∧ isPf s c = true ∧ s.pwr.on = true ∧ s.pwr.resetDump = none ∧ s.pwr.started = true) ∧
    (∃ (v : Word), v ≠ 0x4E564D65) :=
  ⟨
   ⟨{ link := lk, acc := { ctls := [(0, { ctl0 with cc := 0 })] } }, 0, 0x460001, by decide +kernel⟩,
   ⟨{ link := lk, acc := { ctls := [(0, { ctl0 with cc := 0 })] } }, 0, 1, by decide +kernel⟩,
   ⟨{ link := lk, acc := { ctls := [(0, ctl0)] }, cur := { mediaReady := true } }, 0, by decide +kernel⟩,
   ⟨{ link := lk, acc := { ctls := [(0, ctl0)] } }, 0, by decide +kernel⟩,
   ⟨{ link := lk, acc := { ctls := [(0, ctl0)] } }, 0, by decide +kernel⟩,
   ⟨{ link := lk, acc := { ctls := [(0, ctl0)] } }, 0, 1, by decide +kernel⟩,
   ⟨{ link := lk, acc := { ctls := [(0, { ctl0 with shut := true, shst := 1 })] } }, 0, by decide +kernel⟩,
   ⟨{ link := lk, acc := { ctls := [(0, ctl0)] }, pwr := { started := true } }, 0, by decide +kernel⟩,
   ⟨1, by decide +kernel⟩⟩

/-- A state of clause 3. -/
def atFetchAndStart3 : State := { link := lk, acc := { ctls := [(0, ctl0)], cmds := [{ ref := { ctl := 0, sq := 0, cid := 0 } }, { ref := { ctl := 0, sq := 0, cid := 7 }, phase := .started }] } }

/-- Witnesses of FetchAndStart. -/
theorem meets_FetchAndStart :
    (∃ (s : State) (c : Nat) (q : Nat) (a : Accession) (sq : Sq), fetchStopped s = false ∧ arbitrate s = some (c, q, a) ∧ Tab.get? (ctlOf s
      c).sqs q = some sq) ∧
    (∃ (s : State) (c : Nat) (q : Nat) (a : Accession), arbitrate s = some (c, q, a)) ∧
    (∃ (s : State) (c : Nat) (q : Nat) (h : SqeHeader) (pre : List Cmd) (x : Cmd) (post : List Cmd), s.acc.cmds = pre ++ x :: post ∧ (∀ y ∈ pre,
      ¬(y.ref.ctl = c ∧ y.ref.sq = q ∧ y.phase = .fetching)) ∧ x.ref.ctl = c ∧ x.ref.sq = q ∧ x.phase = .fetching ∧ (∀ y ∈ s.acc.cmds, y.ref =
      { ctl := c, sq := q, cid := h.cid } → y.phase = .fetching ∨ y.silent = true) ∧ (∀ sq, Tab.get? (ctlOf s c).sqs q = some sq → sq.deleting =
      none)) ∧
    (∃ (s : State) (c : Nat) (q : Nat) (h : SqeHeader) (pre : List Cmd) (x : Cmd) (post : List Cmd) (k : Cmd), s.acc.cmds = pre ++ x :: post ∧ (∀
      y ∈ pre, ¬(y.ref.ctl = c ∧ y.ref.sq = q ∧ y.phase = .fetching)) ∧ x.ref.ctl = c ∧ x.ref.sq = q ∧ x.phase = .fetching ∧ k ∈ s.acc.cmds ∧
      k.ref = { ctl := c, sq := q, cid := h.cid } ∧ k.phase ≠ .fetching ∧ k.silent = false) ∧
    (∃ (s : State) (r : CmdRef) (c : Cmd), Starts s r c) ∧
    (∃ (s : State) (r : CmdRef) (c : Cmd), awaitedOf s r = some c ∧ mayStart s c = true ∧ opcodeOk s c = false) ∧
    (∃ (s : State) (r : CmdRef) (c : Cmd), awaitedOf s r = some c ∧ mayStart s c = true ∧ opcodeOk s c = true ∧ c.fuse ≠ 0) :=
  ⟨
   ⟨{ link := lk, acc := { ctls := [(0, ctl0)] } }, 0, 0, ((arbitrate ({ link := lk, acc := { ctls := [(0, ctl0)] } } : State)).getD (0, 0,
     {})).2.2, { size := 4, cqid := 0, prio := 0, tail := 1 }, by decide +kernel⟩,
   ⟨{ link := lk, acc := { ctls := [(0, ctl0)] } }, 0, 0, ((arbitrate ({ link := lk, acc := { ctls := [(0, ctl0)] } } : State)).getD (0, 0,
     {})).2.2, by decide +kernel⟩,
   ⟨{ link := lk, acc := { ctls := [(0, ctl0)], cmds := [{ ref := { ctl := 0, sq := 0, cid := 0 } }] } }, 0, 0, ⟨7, 2, 0, 1⟩, [],
     { ref := { ctl := 0, sq := 0, cid := 0 } }, [], by decide +kernel⟩,
   ⟨atFetchAndStart3, 0, 0, ⟨7, 2, 0, 1⟩, [], { ref := { ctl := 0, sq := 0, cid := 0 } },
     [{ ref := { ctl := 0, sq := 0, cid := 7 }, phase := .started }], { ref := { ctl := 0, sq := 0, cid := 7 }, phase := .started },
     by decide +kernel⟩,
   ⟨{ link := lk, acc := { ctls := [(0, ctl0)], cmds := [{ admc 2 0 with phase := .fetched }] } }, ⟨0, 0, 1⟩, { admc 2 0 with phase := .fetched },
     by decide +kernel⟩,
   ⟨{ link := lk, acc := { ctls := [(0, ctl0)], cmds := [{ admc 0x7F 0 with phase := .fetched }] } }, ⟨0, 0, 1⟩,
     { admc 0x7F 0 with phase := .fetched }, by decide +kernel⟩,
   ⟨{ link := lk, acc := { ctls := [(0, ctl0)], cmds := [{ admc 2 0 with phase := .fetched, fuse := 1 }] } }, ⟨0, 0, 1⟩,
     { admc 2 0 with phase := .fetched, fuse := 1 }, by decide +kernel⟩⟩

/-- A state of clause 0. -/
def atCompletionsAndInterrupts0 : State := { link := lk, acc := { ctls := [(0, ctl0)], cmds := [{ admc 2 0 with phase := .executed, cpl := some {} }] } }

/-- A state of clause 1. -/
def atCompletionsAndInterrupts1 : State := { link := lk, acc := { ctls := [(0, ctl0)], cmds := [{ admc 2 0 with phase := .held, cpl := some {} }] } }

/-- Witnesses of CompletionsAndInterrupts. -/
theorem meets_CompletionsAndInterrupts :
    (∃ (s : State) (r : CmdRef) (k : Cmd) (cpl : Completion) (sq : Sq) (cq : Cq), MayPost s r.ctl r.sq k cpl sq cq ∧ k.ref = r ∧ k.phase =
      .executed ∧ s.adm.nsWaits = [] ∧ s.acc.cmds.find? (fun c => c.ref == r && c.phase == .executed && c.cpl.isSome) = some k) ∧
    (∃ (s : State) (c : Nat) (n : Nat) (k : Cmd) (cpl : Completion) (sq : Sq) (cq : Cq) (q : Nat) (rest : List (Nat × Sq)), (ctlOf s
      c).sqs.filter (fun e => e.2.cqid == n) = (q, sq) :: rest ∧ sq.cqid = n ∧ MayPost s c q k cpl sq cq ∧ k.phase = .held) ∧
    (∃ (s : State) (c : Nat) (v : Nat), Tab.getD (ctlOf s c).coalesce v 0 ≠ 0 ∧ (ctlOf s c).cfg.msixEnable = true ∧ (ctlOf s c).cfg.functionMask
      = false ∧ v ∈ (ctlOf s c).unmasked ∧ ctlUp s c = true) ∧
    (∃ (s : State) (c : Nat) (v : Nat), (ctlOf s c).cfg.msixEnable = true ∧ (ctlOf s c).cfg.functionMask = false ∧ (ctlOf s c).pba = [v] ∧ ctlUp
      s c = true) :=
  ⟨
   ⟨atCompletionsAndInterrupts0, ⟨0, 0, 1⟩, { admc 2 0 with phase := .executed, cpl := some {} }, {},
     { size := 4, cqid := 0, prio := 0, tail := 1 }, { size := 4, vector := 0, ien := true }, by decide +kernel⟩,
   ⟨atCompletionsAndInterrupts1, 0, 0, { admc 2 0 with phase := .held, cpl := some {} }, {}, { size := 4, cqid := 0, prio := 0, tail := 1 },
     { size := 4, vector := 0, ien := true }, 0, [], by decide +kernel⟩,
   ⟨{ link := lk, acc := { ctls := [(0, { ctl0 with coalesce := [(0, 1)], unmasked := [0] })] } }, 0, 0, by decide +kernel⟩,
   ⟨{ link := lk, acc := { ctls := [(0, { ctl0 with pba := [2] })] } }, 0, 2, by decide +kernel⟩⟩

/-- A state of clause 0. -/
def atQueueCommands0 : State := sA 1 0 ({ ctl0 with sqs := [(1, { size := 4, cqid := 1, prio := 0 })], cqs := [(1, { size := 4, vector := 0, ien := true })] }) {}

/-- A state of clause 1. -/
def atQueueCommands1 : State := sA 1 0 ({ ctl0 with sqs := [(1, { size := 4, cqid := 1, prio := 0 })], cqs := [(1, { size := 4, vector := 0, ien := true })] }) {}

/-- A state of clause 2. -/
def atQueueCommands2 : State := sA 5 0 ({ ctl0 with sqs := [(1, { size := 4, cqid := 1, prio := 0 })], cqs := [(1, { size := 4, vector := 0, ien := true })] }) {}

/-- A state of clause 4. -/
def atQueueCommands4 : State := sA 4 0 ({ ctl0 with sqs := [(1, { size := 4, cqid := 1, prio := 0 })], cqs := [(1, { size := 4, vector := 0, ien := true })] }) {}

/-- A state of clause 5. -/
def atQueueCommands5 : State := sA 0 0 ({ ctl0 with sqs := [(1, { size := 4, cqid := 1, prio := 0 })], cqs := [(1, { size := 4, vector := 0, ien := true })] }) {}

/-- A state of clause 6. -/
def atQueueCommands6 : State := { link := lk, acc := { ctls := [(0, ctl0)], cmds := [admc 8 0, { ref := { ctl := 0, sq := 1, cid := 9 }, phase := .fetched, opcode := 2 }] } }

/-- A state of clause 7. -/
def atQueueCommands7 : State := { link := lk, acc := { ctls := [(0, ctl0)], cmds := [admc 8 0, { ref := { ctl := 0, sq := 1, cid := 9 }, phase := .fetched, opcode := 2 }] } }

/-- Witnesses of QueueCommands. -/
theorem meets_QueueCommands :
    (∃ (s : State) (r : CmdRef) (c : Cmd) (qid : Nat) (n : Nat) (cqid : Nat), CmdRuns s r true 0x01 c ∧ qid ≠ 0 ∧ qid ≤ (ctlOf s r.ctl).vq ∧
      Tab.has (ctlOf s r.ctl).sqs qid = false ∧ cqid ≠ 0 ∧ Tab.has (ctlOf s r.ctl).cqs cqid = true ∧ 1 ≤ n ∧ n ≤ 0xFFFF) ∧
    (∃ (s : State) (r : CmdRef) (c : Cmd) (qid : Nat), CmdRuns s r true 0x01 c ∧ (qid = 0 ∨ (ctlOf s r.ctl).vq < qid ∨ Tab.has (ctlOf s
      r.ctl).sqs qid = true)) ∧
    (∃ (s : State) (r : CmdRef) (c : Cmd) (qid : Nat) (n : Nat) (vec : Nat), CmdRuns s r true 0x05 c ∧ qid ≠ 0 ∧ qid ≤ (ctlOf s r.ctl).vq ∧
      Tab.has (ctlOf s r.ctl).cqs qid = false ∧ 1 ≤ n ∧ n ≤ 0xFFFF ∧ vec ≤ (ctlOf s r.ctl).vectors) ∧
    (∃ (s : State) (r : CmdRef) (c : Cmd) (qid : Nat), CmdRuns s r true 0x04 c ∧ qid ≠ 0 ∧ Tab.has (ctlOf s r.ctl).cqs qid = true ∧ (ctlOf s
      r.ctl).sqs.any (fun e => e.2.cqid == qid) = false) ∧
    (∃ (s : State) (r : CmdRef) (c : Cmd) (qid : Nat), CmdRuns s r true 0x04 c ∧ qid ≠ 0 ∧ Tab.has (ctlOf s r.ctl).cqs qid = true ∧ (ctlOf s
      r.ctl).sqs.any (fun e => e.2.cqid == qid) = true) ∧
    (∃ (s : State) (r : CmdRef) (c : Cmd) (qid : Nat) (sq : Sq), CmdRuns s r true 0x00 c ∧ qid ≠ 0 ∧ Tab.get? (ctlOf s r.ctl).sqs qid = some sq ∧
      sq.deleting = none ∧ sqCmds s r.ctl qid = []) ∧
    (∃ (s : State) (r : CmdRef) (c : Cmd) (sqid : Nat) (cid : Nat) (k : Cmd), CmdRuns s r true 0x08 c ∧ abortsAhead s r < 16 ∧ awaitedOf s
      { ctl := r.ctl, sq := sqid, cid := cid } = some k ∧ k.unstarted = true) ∧
    (∃ (s : State) (r : CmdRef) (c : Cmd) (sqid : Nat) (cid : Nat), CmdRuns s r true 0x08 c ∧ abortsAhead s r < 16 ∧ (∀ k, awaitedOf s
      { ctl := r.ctl, sq := sqid, cid := cid } = some k → k.unstarted = false)) ∧
    (∃ (s : State) (r : CmdRef) (c : Cmd), CmdRuns s r true 0x08 c ∧ 16 ≤ abortsAhead s r) :=
  ⟨
   ⟨atQueueCommands0, ⟨0, 0, 1⟩, admc 1 0, 8, 0xFFFF, 1, by decide +kernel⟩,
   ⟨atQueueCommands1, ⟨0, 0, 1⟩, admc 1 0, 9, by decide +kernel⟩,
   ⟨atQueueCommands2, ⟨0, 0, 1⟩, admc 5 0, 8, 1, 8, by decide +kernel⟩,
   ⟨sA 4 0 ({ ctl0 with sqs := [], cqs := [(1, { size := 4, vector := 0, ien := true })] }) {}, ⟨0, 0, 1⟩, admc 4 0, 1, by decide +kernel⟩,
   ⟨atQueueCommands4, ⟨0, 0, 1⟩, admc 4 0, 1, by decide +kernel⟩,
   ⟨atQueueCommands5, ⟨0, 0, 1⟩, admc 0 0, 1, { size := 4, cqid := 1, prio := 0 }, by decide +kernel⟩,
   ⟨atQueueCommands6, ⟨0, 0, 1⟩, admc 8 0, 1, 9, { ref := { ctl := 0, sq := 1, cid := 9 }, phase := .fetched, opcode := 2 }, by decide +kernel⟩,
   ⟨atQueueCommands7, ⟨0, 0, 1⟩, admc 8 0, 1, 8, by decide +kernel⟩,
   ⟨{ link := lk, acc := { ctls := [(0, ctl0)], cmds := ((upTo 16).map fun i => { admc 8 0 with ref := ⟨0, 0, i + 2⟩ }) ++ [admc 8 0] } }, ⟨0, 0,
     1⟩, admc 8 0, by decide +kernel⟩⟩

/-- Witnesses of AdminReads. -/
theorem meets_AdminReads :
    (∃ (s : State) (r : CmdRef) (c : Cmd) (lid : Nat) (lpo : Nat), (CmdRuns s r true 0x02 c ∧ lid ≠ 0xC5 ∧ (lid = 0x02 → c.nsid = 0 ∨ c.nsid =
      0xFFFFFFFF) ∧ lpo % 4 = 0 ∧ ctlUp s r.ctl = true ∧ (sanitizing s = false ∨ logPermitted lid = true)) ∧ (∀ base n, ∃ page, logPage s r.ctl
      lid base n = some page ∧ lpo < page.length)) ∧
    (∃ (s : State) (r : CmdRef) (c : Cmd) (lid : Nat), (CmdRuns s r true 0x02 c ∧ lid ≠ 0xC5 ∧ (sanitizing s = false ∨ logPermitted lid = true))
      ∧ (∀ base n, logPage s r.ctl lid base n = none)) ∧
    (∃ (s : State) (r : CmdRef) (c : Cmd) (lid : Nat), CmdRuns s r true 0x02 c ∧ sanitizing s = true ∧ logPermitted lid = false) ∧
    (∃ (s : State) (r : CmdRef) (c : Cmd), CmdRuns s r true 0x02 c ∧ ctlUp s r.ctl = true) ∧
    (∃ (s : State) (r : CmdRef) (c : Cmd) (cns : Nat) (cntid : Nat) (csi : Nat), (CmdRuns s r true 0x06 c ∧ ctlUp s r.ctl = true) ∧ (∀ base, ∃
      data, identifyData s r.ctl c.nsid cns cntid csi base = .inr data ∧ data ≠ [])) ∧
    (∃ (s : State) (r : CmdRef) (c : Cmd) (cns : Nat) (cntid : Nat) (csi : Nat) (st : Completion), CmdRuns s r true 0x06 c ∧ (∀ base,
      identifyData s r.ctl c.nsid cns cntid csi base = .inl st)) ∧
    (∃ (s : State) (r : CmdRef) (c : Cmd) (dw11 : Nat), CmdRuns s r true 0x09 c ∧ keeperTurn s r = true ∧ isPf s r.ctl = true ∧ 5 ≤ dw11 % 256 ∧
      dw11 % 256 ≤ 200) ∧
    (∃ (s : State) (r : CmdRef) (c : Cmd) (dw11 : Nat), CmdRuns s r true 0x09 c ∧ keeperTurn s r = true ∧ isPf s r.ctl = true ∧ (dw11 % 256 < 5 ∨
      200 < dw11 % 256)) ∧
    (∃ (s : State) (r : CmdRef) (c : Cmd) (fid : Nat), CmdRuns s r true 0x09 c ∧ fid ∉ featureIds ∧ (deviceFeature fid = true → keeperTurn s r =
      true)) ∧
    (∃ (s : State) (r : CmdRef) (c : Cmd), CmdRuns s r true 0x0A c) ∧
    (∃ (s : State) (r : CmdRef) (c : Cmd), CmdRuns s r true 0x0C c ∧ (ctlOf s r.ctl).aers.length < 8 ∧ (ctlOf s r.ctl).events = [] ∧ r.cid ∉
      (ctlOf s r.ctl).aers) ∧
    (∃ (s : State) (r : CmdRef) (c : Cmd) (e : AsyncEvent) (es : List AsyncEvent), CmdRuns s r true 0x0C c ∧ (ctlOf s r.ctl).aers.length < 8 ∧
      (ctlOf s r.ctl).events = e :: es) ∧
    (∃ (s : State) (r : CmdRef) (c : Cmd), CmdRuns s r true 0x0C c ∧ 8 ≤ (ctlOf s r.ctl).aers.length) :=
  ⟨
   ⟨sA 2 0 ctl0 {}, ⟨0, 0, 1⟩, admc 2 0, 0xC1, 4, by decide +kernel, fun _ _ => ⟨_, rfl, by decide +kernel⟩⟩,
   ⟨sA 2 0 ctl0 {}, ⟨0, 0, 1⟩, admc 2 0, 0x07, by decide +kernel, fun _ _ => rfl⟩,
   ⟨sA 2 0 ctl0 { sanitize := .blockErase }, ⟨0, 0, 1⟩, admc 2 0, 0x06, by decide +kernel⟩,
   ⟨sA 2 0 (ctl0) {}, ⟨0, 0, 1⟩, admc 2 0, by decide +kernel⟩,
   ⟨sA 6 0 ctl0 {}, ⟨0, 0, 1⟩, admc 6 0, 2, 0, 0, by decide +kernel, fun _ => ⟨_, rfl, by decide +kernel⟩⟩,
   ⟨sA 6 0 (ctl0) {}, ⟨0, 0, 1⟩, admc 6 0, 0x30, 0, 0, match identifyData (sA 6 0 (ctl0) {} : State) (⟨0, 0, 1⟩ : CmdRef).ctl (admc 6 0 : Cmd).nsid
     0x30 0 0 [] with | .inr d => {} | .inl e => e, by decide +kernel, fun _ => rfl⟩,
   ⟨sA 9 0 ctl0 {}, ⟨0, 0, 1⟩, admc 9 0, 200, by decide +kernel⟩,
   ⟨sA 9 0 ctl0 {}, ⟨0, 0, 1⟩, admc 9 0, 4, by decide +kernel⟩,
   ⟨sA 9 0 ctl0 {}, ⟨0, 0, 1⟩, admc 9 0, 3, by decide +kernel⟩,
   ⟨sA 10 0 (ctl0) {}, ⟨0, 0, 1⟩, admc 10 0, by decide +kernel⟩,
   ⟨sA 12 0 (ctl0) {}, ⟨0, 0, 1⟩, admc 12 0, by decide +kernel⟩,
   ⟨sA 12 0 ({ ctl0 with events := [⟨2, 1, 2⟩] }) {}, ⟨0, 0, 1⟩, admc 12 0, ⟨2, 1, 2⟩, [], by decide +kernel⟩,
   ⟨sA 12 0 ({ ctl0 with aers := [1, 2, 3, 4, 5, 6, 7, 8] }) {}, ⟨0, 0, 1⟩, admc 12 0, by decide +kernel⟩⟩

/-- Witnesses of NamespaceCommands. -/
theorem meets_NamespaceCommands :
    (∃ (s : State) (r : CmdRef) (c : Cmd) (a : NsAttrs), CmdRuns s r true 0x0D c ∧ sanitizing s = false ∧ createRefusal s a = none ∧ SegmentsFit
      s (if a.csi = 0 then freeSegments s (ceilDiv (nsBytes (wantedNs a)) (2 ^ 27)) else [])) ∧
    (∃ (s : State) (r : CmdRef) (c : Cmd) (a : NsAttrs) (st : Completion), CmdRuns s r true 0x0D c ∧ sanitizing s = false ∧ createRefusal s a =
      some st) ∧
    (∃ (s : State) (r : CmdRef) (c : Cmd) (n : Namespace), CmdRuns s r true 0x0D c ∧ sanitizing s = false ∧ c.nsid ≠ 0xFFFFFFFF ∧ nsOf s c.nsid =
      some n ∧ n.deleting = none ∧ formatPending s c.nsid = false ∧ NoneOn s c.nsid ∧ s.adm.nsWaits = []) ∧
    (∃ (s : State) (r : CmdRef) (c : Cmd) (n : Namespace) (ids : List Nat), CmdRuns s r true 0x15 c ∧ sanitizing s = false ∧ nsOf s c.nsid = some
      n ∧ n.deleting = none ∧ formatPending s c.nsid = false ∧ (∀ i ∈ ids, 1 ≤ i ∧ functionThere s (i - 1) = true ∧ c.nsid ∉ (ctlOf s (i -
      1)).attached)) ∧
    (∃ (s : State) (r : CmdRef) (c : Cmd) (n : Namespace) (ids : List Nat), CmdRuns s r true 0x15 c ∧ sanitizing s = false ∧ nsOf s c.nsid = some
      n ∧ formatPending s c.nsid = false ∧ (∀ i ∈ ids, 1 ≤ i ∧ functionThere s (i - 1) = true ∧ c.nsid ∈ (ctlOf s (i - 1)).attached) ∧ NoneOn s
      c.nsid ∧ s.adm.nsWaits = []) ∧
    (∃ (s : State) (r : CmdRef) (c : Cmd), CmdRuns s r true 0x0D c ∧ sanitizing s = true) ∧
    (∃ (s : State) (r : CmdRef) (c : Cmd), (CmdRuns s r true 0x0D c ∧ sanitizing s = false ∧ c.nsid ≠ 0xFFFFFFFF ∧ formatPending s c.nsid = true)
      ∧ (∃ n, nsOf s c.nsid = some n ∧ n.deleting = none)) :=
  ⟨
   ⟨sA 13 0 (ctl0) {}, ⟨0, 0, 1⟩, admc 13 0, ⟨4, 0, 0, 0, 0⟩, by decide +kernel⟩,
   ⟨sA 13 0 (ctl0) {}, ⟨0, 0, 1⟩, admc 13 0, ⟨1, 0, 0, 0, 0⟩, (createRefusal (sA 13 0 (ctl0) {} : State) (⟨1, 0, 0, 0, 0⟩ : NsAttrs)).getD {},
     by decide +kernel⟩,
   ⟨sA 13 1 ctl0 { namespaces := [(1, ns1)] }, ⟨0, 0, 1⟩, admc 13 1, ns1, by decide +kernel⟩,
   ⟨sA 21 1 ctl0 { namespaces := [(1, ns1)] }, ⟨0, 0, 1⟩, admc 21 1, ns1, [1], by decide +kernel⟩,
   ⟨sA 21 1 { ctl0 with attached := [1] } { namespaces := [(1, ns1)] }, ⟨0, 0, 1⟩, admc 21 1, ns1, [1], by decide +kernel⟩,
   ⟨sA 13 0 (ctl0) { sanitize := .blockErase }, ⟨0, 0, 1⟩, admc 13 0, by decide +kernel⟩,
   ⟨sA 13 1 ctl0 { namespaces := [(1, { ns1 with formatting := some (0, 0) })] }, ⟨0, 0, 1⟩, admc 13 1, by decide +kernel, ⟨_, rfl, rfl⟩⟩⟩

/-- A state of clause 3. -/
def atFirmwareCommands3 : State := { sA 16 0 (ctl0) { download := [{ ofst := 0, bytes := img.bytes ++ img.digest ++ img.signature }] } with fuses := { hashes := [imgHash] } }

/-- A state of clause 2. -/
def atFirmwareCommands2 : State := { sA 16 0 (ctl0) { download := [{ ofst := 0, bytes := img.bytes ++ img.digest ++ img.signature }] } with fuses := { hashes := [imgHash] } }

/-- A state of clause 7. -/
def atFirmwareCommands7 : State := sA 16 0 (ctl0) { activation := some { ref := { ctl := 0, sq := 0, cid := 1 }, slot := 2, image := img } }

/-- A state of clause 8. -/
def atFirmwareCommands8 : State := { sA 16 0 (ctl0) { activation := some { ref := { ctl := 0, sq := 0, cid := 1 }, slot := 2, image := img, stopped := some 0 } } with acc := { cmds := [admc 0x10 0, { ref := { ctl := 0, sq := 1, cid := 1 }, phase := .started }], ctls := [(0, ctl0)] } }

/-- A state of clause 9. -/
def atFirmwareCommands9 : State := sA 16 0 (ctl0) { activation := some { ref := { ctl := 0, sq := 0, cid := 1 }, slot := 2, image := img, stopped := some 0 } }

/-- Witnesses of FirmwareCommands. -/
theorem meets_FirmwareCommands :
    (∃ (s : State) (r : CmdRef) (c : Cmd) (numd : Nat) (ofst : Nat), CmdRuns s r true 0x11 c ∧ sanitizing s = false ∧ ofst % 1024 = 0 ∧ 4 * ofst
      + 4 * (numd + 1) ≤ 4194304 ∧ (∀ p ∈ s.adm.download, 4 * ofst + 4 * (numd + 1) ≤ p.ofst ∨ p.ofst + p.bytes.length ≤ 4 * ofst)) ∧
    (∃ (s : State) (r : CmdRef) (c : Cmd) (ofst : Nat), CmdRuns s r true 0x11 c ∧ sanitizing s = false ∧ ofst % 1024 ≠ 0) ∧
    (∃ (s : State) (r : CmdRef) (c : Cmd) (slot : Nat) (x : FwImage), (CmdRuns s r true 0x10 c ∧ sanitizing s = false ∧ s.adm.activation = none ∧
      slot ≤ 2 ∧ bufferImage s = some x) ∧ GoodImage s x) ∧
    (∃ (s : State) (r : CmdRef) (c : Cmd) (slot : Nat) (x : FwImage), (CmdRuns s r true 0x10 c ∧ sanitizing s = false ∧ s.adm.activation = none ∧
      slot ≤ 2 ∧ bufferImage s = some x) ∧ GoodImage s x) ∧
    (∃ (s : State) (r : CmdRef) (c : Cmd) (action : Nat), CmdRuns s r true 0x10 c ∧ 4 ≤ action) ∧
    (∃ (s : State) (r : CmdRef) (c : Cmd) (slot : Nat) (x : FwImage), (CmdRuns s r true 0x10 c ∧ sanitizing s = false ∧ s.adm.activation = none ∧
      slot ≤ 2 ∧ Tab.get? s.adm.slots (commitSlot s slot) = some x) ∧ GoodImage s x) ∧
    (∃ (s : State) (r : CmdRef) (c : Cmd) (slot : Nat) (x : FwImage), (CmdRuns s r true 0x10 c ∧ sanitizing s = false ∧ s.adm.activation = none ∧
      slot ≤ 2 ∧ bufferImage s = some x ∧ leAt x.bytes 20 4 % 2 = 1) ∧ GoodImage s x) ∧
    (∃ (s : State) (r : CmdRef) (c : Cmd) (slot : Nat), CmdRuns s r true 0x10 c ∧ sanitizing s = false ∧ s.adm.activation = none ∧ slot ≤ 2 ∧
      bufferImage s = none) ∧
    (∃ (s : State) (a : Activation), s.adm.activation = some a ∧ a.stopped = none) ∧
    (∃ (s : State) (a : Activation) (at' : Nat) (c : Cmd), s.adm.activation = some a ∧ a.stopped = some at' ∧ drainLeft s a.ref = true ∧ cmdOf s
      a.ref = some c ∧ c.silent = false) ∧
    (∃ (s : State) (a : Activation) (at' : Nat) (c : Cmd), s.adm.activation = some a ∧ a.stopped = some at' ∧ drainLeft s a.ref = false ∧ cmdOf s
      a.ref = some c ∧ c.silent = false) :=
  ⟨
   ⟨sA 17 0 (ctl0) { download := [{ ofst := 0, bytes := zeros 4096 }] }, ⟨0, 0, 1⟩, admc 17 0, 1023, 1024, by decide +kernel⟩,
   ⟨sA 17 0 (ctl0) {}, ⟨0, 0, 1⟩, admc 17 0, 1, by decide +kernel⟩,
   ⟨atFirmwareCommands3, ⟨0, 0, 1⟩, admc 16 0, 0, img, by decide +kernel, ⟨imgOk _ rfl, by decide +kernel⟩⟩,
   ⟨atFirmwareCommands3, ⟨0, 0, 1⟩, admc 16 0, 0, img, by decide +kernel, ⟨imgOk _ rfl, by decide +kernel⟩⟩,
   ⟨sA 16 0 ctl0 {}, ⟨0, 0, 1⟩, admc 16 0, 4, by decide +kernel⟩,
   ⟨{ sA 16 0 (ctl0) { slots := [(2, img)] } with fuses := { hashes := [imgHash] } }, ⟨0, 0, 1⟩, admc 16 0, 2, img, by decide +kernel, ⟨imgOk _ rfl,
     by decide +kernel⟩⟩,
   ⟨{ atFirmwareCommands2 with adm := { download := [{ ofst := 0, bytes := img.bytes ++ img.digest ++ img.signature }] } }, ⟨0, 0, 1⟩, admc 16 0, 2,
     img, by decide +kernel, ⟨imgOk _ rfl, by decide +kernel⟩⟩,
   ⟨sA 16 0 (ctl0) {}, ⟨0, 0, 1⟩, admc 16 0, 2, by decide +kernel⟩,
   ⟨atFirmwareCommands7, { ref := { ctl := 0, sq := 0, cid := 1 }, slot := 2, image := img }, by decide +kernel⟩,
   ⟨atFirmwareCommands8, { ref := { ctl := 0, sq := 0, cid := 1 }, slot := 2, image := img, stopped := some 0 }, 0, admc 16 0, by decide +kernel⟩,
   ⟨atFirmwareCommands9, { ref := { ctl := 0, sq := 0, cid := 1 }, slot := 2, image := img, stopped := some 0 }, 0, admc 16 0, by decide +kernel⟩⟩

/-- Witnesses of DeviceServices. -/
theorem meets_DeviceServices :
    (∃ (s : State) (r : CmdRef) (c : Cmd), CmdRuns s r true 0x14 c ∧ sanitizing s = false ∧ s.adm.selfTest = none) ∧
    (∃ (s : State) (r : CmdRef) (c : Cmd), CmdRuns s r true 0x14 c ∧ sanitizing s = false ∧ s.adm.selfTest = none) ∧
    (∃ (s : State) (r : CmdRef) (c : Cmd) (k : Nat), CmdRuns s r true 0x14 c ∧ sanitizing s = false ∧ s.adm.selfTest = some k) ∧
    (∃ (s : State) (r : CmdRef) (c : Cmd) (k : Nat), CmdRuns s r true 0x14 c ∧ sanitizing s = false ∧ s.adm.selfTest = some k) ∧
    (∃ (s : State) (k : Nat), s.adm.selfTest = some k) ∧
    (∃ (s : State) (r : CmdRef) (c : Cmd) (id : Nat), CmdRuns s r true 0x1C c ∧ sanitizing s = false ∧ 1 ≤ id ∧ id - 1 ≠ r.ctl ∧ id - 1 ∈ ctlsOf
      s (r.ctl / 64) (ctlSub s r.ctl)) ∧
    (∃ (s : State) (r : CmdRef) (c : Cmd) (id : Nat), CmdRuns s r true 0x1C c ∧ sanitizing s = false ∧ (id = 0 ∨ id - 1 = r.ctl)) ∧
    (∃ (s : State), s.pwr.on = true) ∧
    (∃ (s : State), s.pwr.on = false) ∧
    (∃ (s : State), (s.adm.sideband = none ∨ driveReady s = false)) ∧
    (∃ (s : State) (warn : Nat) (k : Nat) (used : Nat), driveReady s = true ∧ s.adm.sideband = some (warn, k, used) ∧ 273 ≤ k) ∧
    (∃ (code : Nat), code ≠ 0 ∧ code ≠ 8) ∧
    (∃ (s : State), s.link.firmwareRuns = true) :=
  ⟨
   ⟨sA 20 0 (ctl0) {}, ⟨0, 0, 1⟩, admc 20 0, by decide +kernel⟩,
   ⟨sA 20 0 (ctl0) {}, ⟨0, 0, 1⟩, admc 20 0, by decide +kernel⟩,
   ⟨sA 20 0 (ctl0) { selfTest := some 1 }, ⟨0, 0, 1⟩, admc 20 0, 1, by decide +kernel⟩,
   ⟨sA 20 0 (ctl0) { selfTest := some 1 }, ⟨0, 0, 1⟩, admc 20 0, 1, by decide +kernel⟩,
   ⟨sA 20 0 (ctl0) { selfTest := some 1 }, 1, by decide +kernel⟩,
   ⟨sA 28 0 (ctl0) {}, ⟨0, 0, 1⟩, admc 28 0, 2, by decide +kernel⟩,
   ⟨sA 28 0 (ctl0) {}, ⟨0, 0, 1⟩, admc 28 0, 1, by decide +kernel⟩,
   ⟨{}, by decide +kernel⟩,
   ⟨{ pwr := { on := false } }, by decide +kernel⟩,
   ⟨{}, by decide +kernel⟩,
   ⟨{ link := lk, adm := { sideband := some (0, 300, 1) } }, 0, 300, 1, by decide +kernel⟩,
   ⟨1, by decide +kernel⟩,
   ⟨{ link := lk }, by decide +kernel⟩⟩

/-- A state of clause 2. -/
def atFormatAndSanitize2 : State := { sA 128 1 (ctl0) { format := some ({ ctl := 0, sq := 0, cid := 1 }, [1]), namespaces := [(1, { ns1 with formatting := some (0, 0), formatBegun := true })] } with cur := { mediaReady := true } }

/-- Witnesses of FormatAndSanitize. -/
theorem meets_FormatAndSanitize :
    (∃ (s : State) (r : CmdRef) (c : Cmd) (lbaf : Nat) (ses : Nat) (n : Namespace), CmdRuns s r true 0x80 c ∧ sanitizing s = false ∧ s.adm.format
      = none ∧ lbaf ≤ 1 ∧ ses ≤ 1 ∧ c.nsid ≠ 0xFFFFFFFF ∧ nsOf s c.nsid = some n ∧ n.csi = 0 ∧ n.deleting = none ∧ n.formatting = none) ∧
    (∃ (s : State) (r : CmdRef) (c : Cmd) (lbaf : Nat) (ses : Nat), CmdRuns s r true 0x80 c ∧ sanitizing s = false ∧ lbaf ≤ 1 ∧ ses ≤ 1 ∧ c.nsid
      ≠ 0xFFFFFFFF ∧ formatTargets s c.nsid = [c.nsid] ∧ formatPending s c.nsid = true) ∧
    (∃ (s : State) (r : CmdRef) (c : Cmd) (lbaf : Nat), CmdRuns s r true 0x80 c ∧ sanitizing s = false ∧ s.adm.format = none ∧ 1 < lbaf) ∧
    (∃ (s : State) (r : CmdRef) (c : Cmd) (k : Nat) (n : Namespace) (lbaf : Nat), s.cur.mediaReady = true ∧ s.adm.format = some (r, [k]) ∧ cmdOf
      s r = some c ∧ c.silent = false ∧ freshRecords s = [] ∧ s.adm.namespaces = [(k, n)] ∧ n.formatting = some (lbaf, 0) ∧ formatReady s k n 0 =
      true) ∧
    (∃ (s : State) (r : CmdRef) (c : Cmd), CmdRuns s r true 0x84 c ∧ sanitizing s = false) ∧
    (∃ (s : State) (r : CmdRef) (c : Cmd), CmdRuns s r true 0x84 c ∧ sanitizing s = false ∧ (variant s).crypto = true ∧ s.sec.armed = true) ∧
    (∃ (s : State) (r : CmdRef) (c : Cmd), CmdRuns s r true 0x84 c ∧ s.adm.sanitize = .failed) ∧
    (∃ (s : State) (r : CmdRef) (c : Cmd), CmdRuns s r true 0x84 c ∧ sanitizing s = true) ∧
    (∃ (s : State) (r : CmdRef) (c : Cmd) (act : Nat), CmdRuns s r true 0x84 c ∧ act ≠ 1 ∧ act ≠ 2 ∧ act ≠ 4) ∧
    (∃ (s : State), s.adm.sanitize = .blockErase) ∧
    (∃ (s : State), sanitizing s = true) :=
  ⟨
   ⟨sA 128 1 ctl0 { namespaces := [(1, ns1)] }, ⟨0, 0, 1⟩, admc 128 1, 1, 1, ns1, by decide +kernel⟩,
   ⟨sA 128 1 ctl0 { namespaces := [(1, { ns1 with formatting := some (0, 0) })] }, ⟨0, 0, 1⟩, admc 128 1, 1, 1, by decide +kernel⟩,
   ⟨sA 128 1 (ctl0) { namespaces := [(1, ns1)] }, ⟨0, 0, 1⟩, admc 128 1, 2, by decide +kernel⟩,
   ⟨atFormatAndSanitize2, ⟨0, 0, 1⟩, admc 128 1, 1, { ns1 with formatting := some (0, 0), formatBegun := true }, 0, by decide +kernel⟩,
   ⟨sA 132 0 (ctl0) {}, ⟨0, 0, 1⟩, admc 132 0, by decide +kernel⟩,
   ⟨{ sA 132 0 (ctl0) {} with sec := { armed := true } }, ⟨0, 0, 1⟩, admc 132 0, by decide +kernel⟩,
   ⟨sA 132 0 (ctl0) { sanitize := .failed }, ⟨0, 0, 1⟩, admc 132 0, by decide +kernel⟩,
   ⟨sA 132 0 (ctl0) { sanitize := .blockErase }, ⟨0, 0, 1⟩, admc 132 0, by decide +kernel⟩,
   ⟨sA 132 0 ctl0 {}, ⟨0, 0, 1⟩, admc 132 0, 3, by decide +kernel⟩,
   ⟨{ adm := { sanitize := .blockErase } }, by decide +kernel⟩,
   ⟨{ adm := { sanitize := .cryptoErase } }, by decide +kernel⟩⟩

/-- A state of clause 2. -/
def atDiscoveryAndTraining2 : State := { flash := { chans := [(0, { state := 2 })], geometry := some pg, discovering := [(0, [⟨0, 0, pg, 1⟩])] } }

/-- Witnesses of DiscoveryAndTraining. -/
theorem meets_DiscoveryAndTraining :
    (∃ (s : State) (who : Requester) (w : Nat), MayWrite s who (32 + w) 0x40 ∧ w < (variant s).wings ∧ Tab.get? s.flash.discovering w = none ∧ w
      ≠ 0 ∧ s.flash.geometry = none) ∧
    (∃ (s : State) (who : Requester) (answers : List DieAnswer), MayWrite s who 32 0x40 ∧ 0 < (variant s).wings ∧ Tab.get? s.flash.discovering 0
      = none ∧ s.flash.geometry = none ∧ (∀ a ∈ answers, pageFault a.page ≠ none)) ∧
    (∃ (s : State) (w : Nat) (answers : List DieAnswer), s.flash.geometry ≠ none ∧ s.flash.discovering = [(w, answers)] ∧ (∃ ch ∈ chansOf w,
      (chan s ch).state = 2)) ∧
    (∃ (s : State) (ch : Nat), Settled s ∧ (chan s ch).command = none ∧ ((chan s ch).state = 1 ∨ (chan s ch).state = 4) ∧ liveDiesOf s ch ≠ [] ∧
      s.flash.aborted = []) ∧
    (∃ (s : State) (ch : Nat), Settled s ∧ (chan s ch).command = none ∧ ((chan s ch).state = 1 ∨ (chan s ch).state = 4) ∧ liveDiesOf s ch ≠ [] ∧
      (chan s ch).fails < 2 ∧ NotFirstFormat s) ∧
    (∃ (s : State) (who : Requester) (ch : Nat), MayWrite s who (fchPage ch) 0x40 ∧ (chan s ch).state = 3 ∧ liveDiesOf s ch ≠ []) ∧
    (∃ (s : State) (who : Requester) (ch : Nat), MayWrite s who (fchPage ch) 0x40 ∧ ((chan s ch).state ≠ 3 ∨ liveDiesOf s ch = [])) :=
  ⟨
   ⟨{}, .keeper 0, 1, by decide +kernel⟩,
   ⟨{}, .keeper 0, [⟨0, 0, { pg with crcOk := false }, 1⟩], by decide +kernel⟩,
   ⟨atDiscoveryAndTraining2, 0, [⟨0, 0, pg, 1⟩], by decide +kernel⟩,
   ⟨{ flash := fl { ch0 with state := 4, fails := 1 } }, 0, by decide +kernel⟩,
   ⟨{ flash := fl { ch0 with state := 4, fails := 1 }, cur := { roots := [[]] } }, 0, by decide +kernel⟩,
   ⟨{ flash := fl ch0 }, .keeper 0, 0, by decide +kernel⟩,
   ⟨{ flash := fl { ch0 with state := 4 } }, .keeper 0, 0, by decide +kernel⟩⟩

/-- A state of clause 3. -/
def atChannelOperations3 : State := { flash := fl ({ ch0 with done := [{ tag := 7, status := 0, level := 0, result := 0, tsc := 0, origin := .keeper, desc := { op := 1, cls := 2, flags := 0, count := 1, psa := 0, keyWord := 0, tag := 7 }, data := [], slots := 2 }] }) }

/-- Witnesses of ChannelOperations. -/
theorem meets_ChannelOperations :
    (∃ (s : State) (ch : Nat) (d : ChanDesc), islandRefuses s (.wing (ch / 12)) = false ∧ (submitCheck ch d s).1 = none ∧ ¬ (d.op = 1 ∧ d.cls =
      0)) ∧
    (∃ (s : State) (ch : Nat) (d : ChanDesc), islandRefuses s (.wing (ch / 12)) = false ∧ d.invalid = true) ∧
    (∃ (s : State) (ch : Nat) (o : ChanOp), ChannelFree s ch ∧ Settled s ∧ minBy (fun o => o.desc.cls) (startable s ch) = some o ∧ o.desc.xts =
      false) ∧
    (∃ (s : State) (ch : Nat) (tag : Nat) (x : ChanDone), (chan s ch).done.find? (fun x => x.tag == tag) = some x) ∧
    (∃ (s : State) (ch : Nat) (d : Nat), (∀ o ∈ (chan s ch).queue, ¬ (o.desc.cls = 0 ∧ o.desc.op = 1 ∧ o.desc.dieNo = d))) :=
  ⟨
   ⟨{ flash := fl (ch0) }, 0, { op := 3, cls := 2, flags := 0, count := 1, psa := 0, keyWord := 0, tag := 7 }, by decide +kernel⟩,
   ⟨{ flash := fl (ch0) }, 0, { op := 6, cls := 2, flags := 0, count := 1, psa := 0, keyWord := 0, tag := 7 }, by decide +kernel⟩,
   ⟨{ flash := fl { ch0 with queue := [{ od 1 with started := false }] } }, 0, { od 1 with started := false }, by decide +kernel⟩,
   ⟨atChannelOperations3, 0, 7,
     { tag := 7, status := 0, level := 0, result := 0, tsc := 0, origin := .keeper, desc := { op := 1, cls := 2, flags := 0, count := 1, psa := 0, keyWord := 0, tag := 7 }, data := [], slots := 2 },
     by decide +kernel⟩,
   ⟨{ flash := fl ({ ch0 with queue := [{ od 4 with suspended := true }] }) }, 0, 0, by decide +kernel⟩⟩

/-- A state of clause 0. -/
def atDieOutcomes0 : State := { flash := { fl ({ ch0 with queue := [od 1] }) with media := [(0, { data := List.replicate 16384 3, oob := List.replicate 4 [1] })] } }

/-- A state of clause 1. -/
def atDieOutcomes1 : State := { flash := { fl ({ ch0 with queue := [od 2] }) with media := [(0, { data := List.replicate 16384 3, oob := List.replicate 4 [1] })] } }

/-- A state of clause 5. -/
def atDieOutcomes5 : State := { flash := { fl ({ ch0 with queue := [od 4] }) with media := [(0, { data := List.replicate 16384 3, oob := List.replicate 4 [1] })] } }

/-- A state of clause 11. -/
def atDieOutcomes11 : State := { flash := fl ({ ch0 with queue := [{ od 4 with resetAt := some 0 }], dies := [(0, { page := some pg, admitted := true, timeouts := [0, 0] })] }) }

/-- Witnesses of DieOutcomes. -/
theorem meets_DieOutcomes :
    (∃ (s : State) (ch : Nat) (d : Nat) (o : ChanOp), RunsOn s ch d 1 o) ∧
    (∃ (s : State) (ch : Nat) (d : Nat) (o : ChanOp), RunsOn s ch d 2 o) ∧
    (∃ (s : State) (ch : Nat) (d : Nat) (o : ChanOp), RunsOn s ch d 3 o ∧ o.desc.allPlanes = false ∧ o.desc.xts = false) ∧
    (∃ (s : State) (ch : Nat) (d : Nat) (o : ChanOp), RunsOn s ch d 3 o) ∧
    (∃ (s : State) (ch : Nat) (d : Nat) (o : ChanOp), RunsOn s ch d 4 o) ∧
    (∃ (s : State) (ch : Nat) (d : Nat) (o : ChanOp), RunsOn s ch d 4 o) ∧
    (∃ (s : State) (ch : Nat) (d : Nat) (o : ChanOp), (chan s ch).queue.find? (fun o => o.started && o.desc.op == 5 && o.desc.dieNo == d) = some
      o) ∧
    (∃ (s : State) (ch : Nat) (d : Nat) (o : ChanOp) (st : Nat) (level : Nat) (result : Nat) (data : List Byte), Settled s ∧ o.origin = .keeper ∧
      (chan s ch).queue.find? (fun o => o.started && o.desc.op != 5 && o.desc.dieNo == d && o.outcome.isSome) = some o ∧ o.outcome = some (st,
      level, result, data)) ∧
    (∃ (s : State) (ch : Nat) (d : Nat) (o : ChanOp), Settled s ∧ (chan s ch).queue.find? (Running ch d [1, 2, 3, 4]) = some o ∧ s.pwr.pfailN =
      true) ∧
    (∃ (s : State) (ch : Nat) (d : Nat) (o : ChanOp), Settled s ∧ o.origin = .keeper ∧ (chan s ch).queue.find? (Running ch d [1, 2, 3, 4]) = some
      o ∧ s.pwr.pfailN = false) ∧
    (∃ (s : State) (ch : Nat) (d : Nat) (o : ChanOp), (chan s ch).queue.find? (fun o => o.resetAt.isSome && o.desc.dieNo == d) = some o ∧
      (recentTimeouts s ch d).length < 2) ∧
    (∃ (s : State) (ch : Nat) (d : Nat) (o : ChanOp), Blank s ∧ KeeperOnly s ch d ∧ dieFenced s ch d = false ∧ (chan s ch).queue.find? (fun o =>
      o.resetAt.isSome && o.desc.dieNo == d) = some o ∧ 2 ≤ (recentTimeouts s ch d).length) :=
  ⟨
   ⟨atDieOutcomes0, 0, 0, od 1, by decide +kernel⟩,
   ⟨atDieOutcomes1, 0, 0, od 2, by decide +kernel⟩,
   ⟨{ flash := fl ({ ch0 with queue := [{ od 3 with data := [5] }] }) }, 0, 0, { od 3 with data := [5] }, by decide +kernel⟩,
   ⟨{ flash := fl ({ ch0 with queue := [od 3] }) }, 0, 0, od 3, by decide +kernel⟩,
   ⟨atDieOutcomes5, 0, 0, od 4, by decide +kernel⟩,
   ⟨atDieOutcomes5, 0, 0, od 4, by decide +kernel⟩,
   ⟨{ flash := fl ({ ch0 with queue := [od 5] }) }, 0, 0, od 5, by decide +kernel⟩,
   ⟨{ flash := fl { ch0 with queue := [{ od 3 with outcome := some (0x11, 0, 0, []) }] } }, 0, 0, { od 3 with outcome := some (0x11, 0, 0, []) },
     0x11, 0, 0, [], by decide +kernel⟩,
   ⟨{ flash := fl { ch0 with queue := [od 4] } }, 0, 0, od 4, by decide +kernel⟩,
   ⟨{ flash := fl { ch0 with queue := [od 4] }, pwr := { pfailN := false } }, 0, 0, od 4, by decide +kernel⟩,
   ⟨{ flash := fl ({ ch0 with queue := [{ od 4 with resetAt := some 0 }] }) }, 0, 0, { od 4 with resetAt := some 0 }, by decide +kernel⟩,
   ⟨atDieOutcomes11, 0, 0, { od 4 with resetAt := some 0 }, by decide +kernel⟩⟩

/-- A state of clause 2. -/
def atDieFencing2 : State := { flash := fl ({ ch0 with dies := [(0, { page := some pg, admitted := true, statusFails := [(0, 0), (1, 0), (2, 0), (3, 0)] })] }) }

/-- A state of clause 3. -/
def atDieFencing3 : State := { flash := fl ({ ch0 with dies := [(0, { page := some pg, admitted := true, uncorrectable := [(0, 0), (1, 0), (2, 0), (3, 0), (4, 0), (5, 0), (6, 0), (7, 0)] })] }) }

/-- A state of clause 4. -/
def atDieFencing4 : State := { flash := { fl ({ ch0 with fenced := [0], command := none }) with fences := [{ channel := 0, die := 0, reason := 1, state := 0, quals := 0, tscFence := 0, tscResponse := 0, responses := 0, page := some pg, uid := 0, durable := false }] } }

/-- A state of clause 5. -/
def atDieFencing5 : State := { flash := { fl ({ ch0 with fenced := [0], command := none }) with fences := [{ channel := 0, die := 0, reason := 1, state := 0, quals := 0, tscFence := 0, tscResponse := 0, responses := 0, page := some pg, uid := 0, durable := false }] } }

/-- A state of clause 8. -/
def atDieFencing8 : State := { flash := { fl ({ ch0 with fenced := [0], command := none }) with fences := [{ channel := 0, die := 0, reason := 1, state := 0, quals := 1, tscFence := 0, tscResponse := 0, responses := 0, page := some pg, uid := 0, durable := false }] } }

/-- A state of clause 9. -/
def atDieFencing9 : State := { flash := { fl ({ ch0 with fenced := [0], command := some (2, 0, 0) }) with fences := [{ channel := 0, die := 0, reason := 1, state := 0, quals := 1, tscFence := 0, tscResponse := 0, responses := 0, page := some pg, uid := 0, durable := false }] } }

/-- A state of clause 10. -/
def atDieFencing10 : State := { flash := { fl ({ ch0 with fenced := [0], command := some (2, 0, 0) }) with fences := [{ channel := 0, die := 0, reason := 1, state := 0, quals := 1, tscFence := 0, tscResponse := 0, responses := 0, page := some pg, uid := 0, durable := false }] } }

/-- Witnesses of DieFencing. -/
theorem meets_DieFencing :
    (∃ (s : State) (ch : Nat) (d : Nat) (o : ChanOp), Blank s ∧ KeeperOnly s ch d ∧ dieFenced s ch d = false ∧ (chan s ch).queue.find? (fun o =>
      o.resetAt.isSome && o.desc.dieNo == d) = some o ∧ s.pwr.pfailN = true) ∧
    (∃ (s : State), s.pwr.pfailN = false) ∧
    (∃ (s : State) (ch : Nat) (d : Nat) (failed : List Nat), Settled s ∧ (checkFailed s ch d failed).length ≤ 8) ∧
    (∃ (s : State) (ch : Nat) (d : Nat) (readable : Bool) (failed : List Nat), Blank s ∧ KeeperOnly s ch d ∧ dieFenced s ch d = false ∧ (readable
      = false ∨ 8 < (checkFailed s ch d failed).length) ∧ 4 ≤ recentBlocks s (die s ch d).statusFails) ∧
    (∃ (s : State) (ch : Nat) (d : Nat) (readable : Bool) (failed : List Nat), Blank s ∧ KeeperOnly s ch d ∧ dieFenced s ch d = false ∧ (readable
      = false ∨ 8 < (checkFailed s ch d failed).length) ∧ recentBlocks s (die s ch d).statusFails < 4 ∧ 8 ≤ recentBlocks s (die s ch
      d).uncorrectable) ∧
    (∃ (s : State) (ch : Nat) (d : Nat) (e : FenceEntry), fenceOf s ch d = some e) ∧
    (∃ (s : State) (ch : Nat) (d : Nat), dieFenced s ch d = true) ∧
    (∃ (s : State) (who : Requester) (ch : Nat) (d : Nat), Blank s ∧ KeeperOnly s ch d ∧ dieFenced s ch d = false ∧ diePresent s ch d = true ∧ d
      < 16 ∧ MayWrite s who (fchPage ch) 0x50 ∧ (chan s ch).command = none) ∧
    (∃ (s : State) (who : Requester) (ch : Nat) (d : Nat), diePresent s ch d = false ∧ d < 16 ∧ MayWrite s who (fchPage ch) 0x50 ∧ (chan s
      ch).command = none) ∧
    (∃ (s : State) (who : Requester) (ch : Nat) (d : Nat) (e : FenceEntry), d < 16 ∧ MayWrite s who (fchPage ch) 0x50 ∧ (chan s ch).command =
      none ∧ dieFenced s ch d = true ∧ fenceOf s ch d = some e ∧ e.quals < 2 ∧ (hdr s (fchPage ch)).fenced = false) ∧
    (∃ (s : State) (ch : Nat) (d : Nat) (r : Nat) (test : DieTest), (chan s ch).command = some (2, d, r) ∧ qualResult s ch d test ≠ 0) ∧
    (∃ (s : State) (ch : Nat) (d : Nat) (r : Nat) (test : DieTest), (chan s ch).command = some (2, d, r) ∧ qualResult s ch d test = 0) ∧
    (∃ (s : State) (who : Requester) (ch : Nat), MayWrite s who (fchPage ch) 0x50 ∧ (chan s ch).command = none ∧ (hdr s (fchPage ch)).fenced =
      true) ∧
    (∃ (s : State) (who : Requester) (ch : Nat) (d : Nat), Settled s ∧ KeeperOnly s ch d ∧ d < 16 ∧ MayWrite s who (fchPage ch) 0x50 ∧ (chan s
      ch).command = none) :=
  ⟨
   ⟨{ flash := fl { ch0 with queue := [{ od 4 with resetAt := some 0 }] } }, 0, 0, { od 4 with resetAt := some 0 }, by decide +kernel⟩,
   ⟨{ pwr := { pfailN := false } }, by decide +kernel⟩,
   ⟨{ flash := { fl ch0 with media := [(0, { data := [], oob := [] })] } }, 0, 0, List.replicate 8 0, by decide +kernel⟩,
   ⟨{ atDieFencing2 with flash := { atDieFencing2.flash with media := [(0, { data := [], oob := [] })] } }, 0, 0, true, List.replicate 9 0,
     by decide +kernel⟩,
   ⟨atDieFencing3, 0, 0, false, [], by decide +kernel⟩,
   ⟨atDieFencing4, 0, 0,
     { channel := 0, die := 0, reason := 1, state := 0, quals := 0, tscFence := 0, tscResponse := 0, responses := 0, page := some pg, uid := 0, durable := false },
     by decide +kernel⟩,
   ⟨atDieFencing5, 0, 0, by decide +kernel⟩,
   ⟨{ flash := fl (ch0) }, .keeper 0, 0, 0, by decide +kernel⟩,
   ⟨{ flash := fl (ch0) }, .keeper 0, 0, 15, by decide +kernel⟩,
   ⟨atDieFencing8, .keeper 0, 0, 0,
     { channel := 0, die := 0, reason := 1, state := 0, quals := 1, tscFence := 0, tscResponse := 0, responses := 0, page := some pg, uid := 0, durable := false },
     by decide +kernel⟩,
   ⟨atDieFencing9, 0, 0, 0, ⟨pg, 0, false, true⟩, by decide +kernel⟩,
   ⟨atDieFencing10, 0, 0, 0, ⟨pg, 0, true, true⟩, by decide +kernel⟩,
   ⟨{ flash := fl ch0, fab := { pages := [(64, { fenced := true })] } }, .keeper 0, 0, by decide +kernel⟩,
   ⟨{ flash := fl ch0 }, .keeper 0, 0, 15, by decide +kernel⟩⟩

/-- Witnesses of PowerFailure. -/
theorem meets_PowerFailure :
    (∃ (ns : Nat), ns < 50) ∧
    (∃ (s : State) (ns : Nat), 50 ≤ ns ∧ s.pwr.pfailN = true ∧ s.pwr.on = true ∧ s.pwr.started = true ∧ s.pwr.ps ≠ 4) ∧
    (∃ (s : State), s.cur.dumping ≠ none) ∧
    (∃ (s : State) (at' : Nat), s.cur.dumping = some (at', false) ∧ s.pwr.pfailN = false) ∧
    (∃ (s : State), s.acc.stopPower = true ∧ s.cur.dumping = none ∧ s.pwr.resetDump = none ∧ s.pwr.on = true ∧ s.pwr.started = true ∧ Settled s ∧
      s.flash.aborted = [] ∧ (s.cur.dumpSets.live ≠ [] ∨ s.cur.dumpSets.armed ≠ none)) ∧
    (∃ (s : State), s.acc.stopPower = false) ∧
    (∃ (s : State), s.cur.holdup.charged = false) ∧
    (∃ (s : State), s.cur.holdup.measuring = false ∧ s.cur.holdup.charged = true ∧ s.pwr.pfailN = true) ∧
    (∃ (s : State) (before : Nat) (after : Nat), s.cur.holdup.measuring = true ∧ after < before) ∧
    (∃ (s : State) (before : Nat) (after : Nat), s.cur.holdup.measuring = true ∧ before ≤ after) ∧
    (∃ (s : State), s.cur.holdup.charged = false ∧ s.cur.holdup.low = false) :=
  ⟨
   ⟨49, by decide +kernel⟩,
   ⟨{ pwr := { started := true, perstN := true, inReset := false }, cur := { mediaReady := true } }, 50, by decide +kernel⟩,
   ⟨{ cur := { dumping := some (0, false) }, flash := fl ch0 }, by decide +kernel⟩,
   ⟨{ cur := { dumping := some (0, false) }, pwr := { pfailN := false, dumpAct := true } }, 0, by decide +kernel⟩,
   ⟨{ acc := { stopPower := true }, pwr := { started := true, pfailN := false }, cur := { dumpSets := { armed := some 0 } } }, by decide +kernel⟩,
   ⟨{ pwr := { pfailN := false } }, by decide +kernel⟩,
   ⟨{}, by decide +kernel⟩,
   ⟨{ cur := { holdup := { charged := true, due := 5 } } }, by decide +kernel⟩,
   ⟨{ cur := { holdup := { measuring := true, charged := true }, dumpSets := { size := 2 ^ 30 } } }, 40000, 39000, by decide +kernel⟩,
   ⟨{ cur := { holdup := { measuring := true, charged := true } } }, 5, 5, by decide +kernel⟩,
   ⟨{}, by decide +kernel⟩⟩

/-- A state of clause 2. -/
def atNvmReads2 : State := { sIO 2 ns1 {} with acc := { cmds := [{ ioc 2 with nsid := 7 }], ctls := [(0, { ctl0 with attached := [1] })] } }

/-- A state of clause 7. -/
def atNvmReads7 : State := { sIO 2 ns1 { reads := [{ ref := ⟨0, 1, 1⟩, nsid := 1, lba := 0, blocks := 1, kind := 0, compare := [], waiting := [0], arrived := [], coded := [(0, [0x51, 1, 1, 0, 6, 0, 0, 0, 1, 1, 0, 0xFE, 0xFF, 7])], failed := false }] } with cmp := { engines := [⟨0, true, some (.readMu ⟨0, 1, 1⟩ 0), 0, false⟩] } }

/-- Witnesses of NvmReads. -/
theorem meets_NvmReads :
    (∃ (s : State) (r : CmdRef) (c : Cmd) (n : Namespace) (lba : Nat) (nlb : Nat), CmdRuns s r false 0x02 c ∧ OnNs s c n ∧ rangeStatus n lba (nlb
      % 65536 + 1) true = none ∧ jobOf s r = none ∧ Unwritten s n lba (nlb % 65536 + 1) ∧ ctlUp s r.ctl = true) ∧
    (∃ (s : State) (r : CmdRef) (c : Cmd) (n : Namespace) (lba : Nat) (nlb : Nat) (st : Completion), CmdRuns s r false 0x02 c ∧ OnNs s c n ∧
      rangeStatus n lba (nlb % 65536 + 1) true = some st) ∧
    (∃ (s : State) (r : CmdRef) (c : Cmd) (st : Completion), CmdRuns s r false 0x02 c ∧ ioNamespace s c 0 = .inl st) ∧
    (∃ (s : State) (r : CmdRef) (c : Cmd) (n : Namespace) (lba : Nat) (data : List Byte), CmdRuns s r false 0x05 c ∧ OnNs s c n ∧ rangeStatus n
      lba (data.length / blockSize n) true = none ∧ jobOf s r = none ∧ 0 < data.length / blockSize n ∧ Unwritten s n lba (data.length / blockSize
      n)) ∧
    (∃ (s : State) (r : CmdRef) (c : Cmd) (n : Namespace) (lba : Nat) (nlb : Nat), CmdRuns s r false 0x0C c ∧ OnNs s c n ∧ lba + (nlb % 65536 +
      1) ≤ n.nsze ∧ jobOf s r = none ∧ Unwritten s n lba (nlb % 65536 + 1)) ∧
    (∃ (s : State) (r : CmdRef) (c : Cmd) (n : Namespace), CmdRuns s r false 0x00 c ∧ OnNs s c n) ∧
    (∃ (s : State) (r : CmdRef) (c : Cmd) (n : Namespace) (j : ReadJob) (mu : Nat) (lo : Nat) (cnt : Nat) (stored : List Byte) (out : List Byte)
      (eng : EngineUse), cmdOf s r = some c ∧ c.silent = false ∧ jobOf s r = some j ∧ nsOf s j.nsid = some n ∧ muPieces n j.lba j.blocks = [(mu,
      lo, cnt)] ∧ j.waiting = [mu] ∧ j.kind = 0 ∧ Tab.get? j.coded mu = some stored ∧ mediaPrefix stored stored.length ((lo + cnt) * blockSize n)
      = (0, out) ∧ inlineEngine s (.readMu r mu) = some eng) ∧
    (∃ (s : State) (gmu : Nat) (bad : List Nat) (e : Nat), Sound s ∧ entryWrong s gmu = true ∧ (∀ x ∈ s.cur.wb, x.2.gmu ≠ gmu) ∧ NothingWaits s ∧
      restoredEntry s bad gmu = some e) ∧
    (∃ (s : State) (gmu : Nat) (bad : List Nat), entryWrong s gmu = true ∧ (∀ x ∈ s.cur.wb, x.2.gmu ≠ gmu) ∧ NothingWaits s ∧ restoredEntry s bad
      gmu = none) :=
  ⟨
   ⟨sIO 2 (ns1) ({}), ⟨0, 1, 1⟩, ioc 2, ns1, 1009, 14, by decide +kernel⟩,
   ⟨sIO 2 (ns1) ({}), ⟨0, 1, 1⟩, ioc 2, ns1, 1010, 14, (rangeStatus (ns1 : Namespace) 1010 (14 % 65536 + 1) true).getD {}, by decide +kernel⟩,
   ⟨atNvmReads2, ⟨0, 1, 1⟩, { ioc 2 with nsid := 7 }, { sct := 0, sc := 11, dnr := true, dw0 := 0, dw1 := 0 }, by decide +kernel⟩,
   ⟨sIO 5 (ns1) ({}), ⟨0, 1, 1⟩, ioc 5, ns1, 3, List.replicate 4096 1, by decide +kernel⟩,
   ⟨sIO 12 (ns1) ({}), ⟨0, 1, 1⟩, ioc 12, ns1, 1023, 0, by decide +kernel⟩,
   ⟨sIO 0 (ns1) ({}), ⟨0, 1, 1⟩, ioc 0, ns1, by decide +kernel⟩,
   ⟨atNvmReads7, ⟨0, 1, 1⟩, ioc 2, ns1,
     { ref := ⟨0, 1, 1⟩, nsid := 1, lba := 0, blocks := 1, kind := 0, compare := [], waiting := [0], arrived := [], coded := [(0, [0x51, 1, 1, 0, 6, 0, 0, 0, 1, 1, 0, 0xFE, 0xFF, 7])], failed := false },
     0, 0, 1, [0x51, 1, 1, 0, 6, 0, 0, 0, 1, 1, 0, 0xFE, 0xFF, 7], [7], ⟨0, true, some (.readMu ⟨0, 1, 1⟩ 0), 0, false⟩, by decide +kernel⟩,
   ⟨{ mem := [(16, 1)], cur := { tail := [.map 0 1 2 (mkEntry true 3 1 7)] } }, 2, [], mkEntry true 3 1 7, by decide +kernel⟩,
   ⟨{ mem := [(16, 1)], cur := { journal := [(1, 128, 256)] } }, 2, [], by decide +kernel⟩⟩

/-- A state of clause 3. -/
def atNvmWrites3 : State := { sIO 1 ns1 { curW with writes := [{ ref := ⟨0, 1, 1⟩, nsid := 1, lba := 0, data := List.replicate 4096 1, zeroes := false }] } with acc := { cmds := [{ ioc 1 with waitsCharge := true }], ctls := [(0, { ctl0 with attached := [1] })] } }

/-- A state of clause 9. -/
def atNvmWrites9 : State := { adm := { namespaces := [(1, { ns1 with compress := true })] }, cur := { wb := [(0, { wbe with valid := 15 })] } }

/-- A state of clause 10. -/
def atNvmWrites10 : State := { adm := { namespaces := [(1, { ns1 with compress := true })] }, cur := { wb := [(0, { wbe with valid := 15, compressing := true })] }, cmp := { engines := [⟨0, false, some (.compressMu 0), 0, false⟩] } }

/-- A state of clause 11. -/
def atNvmWrites11 : State := { cur := { packing := [(0, { wing := 0, nsid := 1, stream := .hostOrdinary, placed := [], used := 0, since := 0 })] } }

/-- Witnesses of NvmWrites. -/
theorem meets_NvmWrites :
    (∃ (s : State) (r : CmdRef) (c : Cmd) (n : Namespace) (lba : Nat) (data : List Byte) (mu : Nat) (lo : Nat) (cnt : Nat), Sound s ∧ CmdRuns s r
      false 0x01 c ∧ OnNs s c n ∧ muPieces n lba (data.length / blockSize n) = [(mu, lo, cnt)] ∧ WriteTaken s n lba data.length 1 true ∧
      budgetAdmits s 16 = true ∧ reusable s c.nsid mu = none ∧ NoPoison s) ∧
    (∃ (s : State) (r : CmdRef) (c : Cmd) (n : Namespace), CmdRuns s r false 0x01 c ∧ OnNs s c n ∧ readOnly s = true) ∧
    (∃ (s : State) (r : CmdRef) (c : Cmd) (n : Namespace) (lba : Nat) (data : List Byte) (mu : Nat) (lo : Nat) (cnt : Nat), CmdRuns s r false
      0x01 c ∧ OnNs s c n ∧ muPieces n lba (data.length / blockSize n) = [(mu, lo, cnt)] ∧ WriteTaken s n lba data.length 1 true ∧ reusable s
      c.nsid mu = none ∧ budgetAdmits s 16 = false) ∧
    (∃ (s : State) (r : CmdRef) (c : Cmd) (n : Namespace) (j : WriteJob), cmdOf s r = some c ∧ c.silent = false ∧ s.cur.writes.find? (fun j =>
      j.ref == r) = some j ∧ nsOf s j.nsid = some n ∧ waitingRefusal s c j = none ∧ startsAllowed s r = true ∧ writeFits s n j = true ∧ jobOf s r
      = none) ∧
    (∃ (s : State) (r : CmdRef) (c : Cmd) (j : WriteJob) (st : Completion), cmdOf s r = some c ∧ c.silent = false ∧ s.cur.writes.find? (fun j =>
      j.ref == r) = some j ∧ waitingRefusal s c j = some st) ∧
    (∃ (s : State) (r : CmdRef) (c : Cmd) (n : Namespace) (j : WriteJob), cmdOf s r = some c ∧ s.cur.writes.find? (fun j => j.ref == r) = some j
      ∧ nsOf s j.nsid = some n ∧ waitingRefusal s c j = none ∧ (startsAllowed s r = false ∨ writeFits s n j = false)) ∧
    (∃ (s : State) (r : CmdRef) (c : Cmd) (n : Namespace) (lba : Nat) (nlb : Nat) (mu : Nat), Sound s ∧ CmdRuns s r false 0x08 c ∧ OnNs s c n ∧
      muPieces n lba ((nlb % 65536 + 1) * blockSize n / blockSize n) = [(mu, 0, min (blocksPerMu n) (n.nsze - mu * blocksPerMu n))] ∧ WriteTaken s
      n lba ((nlb % 65536 + 1) * blockSize n) 0 false ∧ NoPoison s ∧ jobOf s r = none) ∧
    (∃ (s : State) (r : CmdRef) (c : Cmd) (n : Namespace) (ranges : List LbaRange), CmdRuns s r false 0x09 c ∧ OnNs s c n ∧ (∀ x ∈ ranges, x.lba
      + x.blocks ≤ n.nsze)) ∧
    (∃ (s : State) (r : CmdRef) (c : Cmd) (n : Namespace) (ranges : List LbaRange), CmdRuns s r false 0x09 c ∧ OnNs s c n ∧ (∃ x ∈ ranges, n.nsze
      < x.lba + x.blocks)) ∧
    (∃ (s : State) (r : CmdRef) (c : Cmd) (n : Namespace) (x : LbaRange) (mu : Nat), Sound s ∧ CmdRuns s r false 0x09 c ∧ OnNs s c n ∧ readOnly s
      = false ∧ x.lba + x.blocks ≤ n.nsze ∧ (muPieces n x.lba x.blocks).map (·.1) = [mu] ∧ covered n [x] mu = true ∧ jobOf s r = none) ∧
    (∃ (s : State) (i : Nat) (e : WbEntry) (n : Namespace), (PackerRests s ∧ nsOf s e.nsid = some n ∧ n.compress = true ∧ entryComplete e n =
      false ∧ e.filling = false ∧ e.fillCoded = none ∧ entryOk e.before = true ∧ (entryState e.before = 0 ∨ entryState e.before = 2)) ∧ wb s i =
      some e) ∧
    (∃ (s : State) (i : Nat) (e : WbEntry) (n : Namespace), (nsOf s e.nsid = some n ∧ n.compress = true ∧ entryComplete e n = true ∧ e.stored =
      none ∧ e.compressing = false) ∧ wb s i = some e) ∧
    (∃ (s : State) (i : Nat) (e : WbEntry) (eng : EngineUse), (Settled s ∧ NoPoison s ∧ s.cur.sets = [] ∧ inlineEngine s (.compressMu i) = some
      eng ∧ e.compressing = true) ∧ wb s i = some e) ∧
    (∃ (s : State) (p : Nat) (x : PackPage), Settled s ∧ s.cur.sets = [] ∧ pack s p = some x) :=
  ⟨
   ⟨sIO 1 ns1 curW, ⟨0, 1, 1⟩, ioc 1, ns1, 1, List.replicate 4096 1, 0, 1, 1, by decide +kernel⟩,
   ⟨sIO 1 (ns1) ({ reserveLow := true }), ⟨0, 1, 1⟩, ioc 1, ns1, by decide +kernel⟩,
   ⟨sIO 1 (ns1) ({ curW with holdup := { charged := true, budget := 0, valid := true } }), ⟨0, 1, 1⟩, ioc 1, ns1, 1, List.replicate 4096 1, 0, 1, 1,
     by decide +kernel⟩,
   ⟨atNvmWrites3, ⟨0, 1, 1⟩, { ioc 1 with waitsCharge := true }, ns1,
     { ref := ⟨0, 1, 1⟩, nsid := 1, lba := 0, data := List.replicate 4096 1, zeroes := false }, by decide +kernel⟩,
   ⟨{ atNvmWrites3 with adm := {} }, ⟨0, 1, 1⟩, { ioc 1 with waitsCharge := true },
     { ref := ⟨0, 1, 1⟩, nsid := 1, lba := 0, data := List.replicate 4096 1, zeroes := false }, stInvalidNs, by decide +kernel⟩,
   ⟨{ atNvmWrites3 with acc := { atNvmWrites3.acc with stopPower := true } }, ⟨0, 1, 1⟩, { ioc 1 with waitsCharge := true }, ns1,
     { ref := ⟨0, 1, 1⟩, nsid := 1, lba := 0, data := List.replicate 4096 1, zeroes := false }, by decide +kernel⟩,
   ⟨sIO 8 ns1 curW, ⟨0, 1, 1⟩, ioc 8, ns1, 4, 3, 1, by decide +kernel⟩,
   ⟨sIO 9 (ns1) ({}), ⟨0, 1, 1⟩, ioc 9, ns1, [⟨1020, 4⟩], by decide +kernel⟩,
   ⟨sIO 9 (ns1) ({}), ⟨0, 1, 1⟩, ioc 9, ns1, [⟨1020, 5⟩], by decide +kernel⟩,
   ⟨sIO 9 ns1 curW, ⟨0, 1, 1⟩, ioc 9, ns1, ⟨4, 4⟩, 1, by decide +kernel⟩,
   ⟨{ adm := { namespaces := [(1, { ns1 with compress := true })] }, cur := { wb := [(0, wbe)] } }, 0, wbe, { ns1 with compress := true },
     by decide +kernel, rfl⟩,
   ⟨atNvmWrites9, 0, { wbe with valid := 15 }, { ns1 with compress := true }, by decide +kernel, rfl⟩,
   ⟨atNvmWrites10, 0, { wbe with valid := 15, compressing := true }, ⟨0, false, some (.compressMu 0), 0, false⟩, by decide +kernel, rfl⟩,
   ⟨atNvmWrites11, 0, { wing := 0, nsid := 1, stream := .hostOrdinary, placed := [], used := 0, since := 0 }, by decide +kernel⟩⟩

/-- A state of clause 0. -/
def atStripeSets0 : State := { cur := { packing := [(0, { wing := 0, nsid := 1, stream := .hostOrdinary, placed := [(0, 0)], used := 16, since := 0, sent := some 128 })], wb := [(0, wbe)], seqs := [(0, 1)] }, flash := fl { ch0 with done := [{ tag := 7, status := 0, level := 0, result := 0, tsc := 0, origin := .packer 0 0, desc := (od 3).desc, data := [], slots := 0 }] } }

/-- A state of clause 1. -/
def atStripeSets1 : State := { cur := { sets := [(0, { set1 with blocks := [0], stream := .hostOrdinary })] }, flash := fl { ch0 with done := [{ tag := 7, status := 0, level := 0, result := 0, tsc := 0, origin := .parity 0 0, desc := (od 3).desc, data := [], slots := 0 }] } }

/-- A state of clause 6. -/
def atStripeSets6 : State := { cur := { pools := [(0, { formatted := true, reserve := 12 * 4096 })] }, flash := { fl ch0 with chans := (upTo 12).map fun i => (i, { ch0 with lost := true }) }, fab := { regs := [(161 * 4096 + 0x54, 0x14)] } }

/-- Witnesses of StripeSets. -/
theorem meets_StripeSets :
    (∃ (s : State) (p : Nat) (x : PackPage) (psa : Nat) (d : ChanDone) (i : Nat) (e : WbEntry), (Sound s ∧ pack s p = some x ∧ x.sent = some psa
      ∧ doneOk s (psaChannel psa) (.packer x.wing p) = some d ∧ freshRecords s = [(psaChannel psa, d)] ∧ x.placed = [(i, 0)] ∧ e.reloc = none ∧
      e.current s = true ∧ s.cur.reads = [] ∧ setOfBlock s psa = none) ∧ wb s i = some e) ∧
    (∃ (s : State) (n : Nat) (row : Nat) (x : StripeSet) (d : ChanDone), stripe s n = some x ∧ x.closing = false ∧ (x.stream.sustained = false ∨
      x.state = .open) ∧ doneOk s (psaChannel (x.parityPsa row)) (.parity n row) = some d ∧ freshRecords s = [(psaChannel (x.parityPsa row), d)]) ∧
    (∃ (s : State) (w : Nat) (stream : CurStream), Settled s ∧ s.cur.packing = [] ∧ (pool s w).formatted = true ∧ stream.sustained = true ∧ (∀ ch
      ∈ chansOf w, findFree s [ch] stream (fun _ _ => true) ≠ none)) ∧
    (∃ (s : State) (w : Nat) (stream : CurStream), Settled s ∧ s.cur.packing = [] ∧ (pool s w).formatted = true ∧ mayDraw s stream = false ∧ (∃
      ch ∈ chansOf w, findFree s [ch] stream (fun _ _ => true) = none)) ∧
    (∃ (s : State) (n : Nat) (x : StripeSet), Settled s ∧ stripe s n = some x ∧ releasable s x = true) ∧
    (∃ (s : State) (n : Nat) (x : StripeSet), NothingWaits s ∧ stripe s n = some x ∧ releasable s x = false) ∧
    (∃ (s : State) (w : Nat), (pool s w).formatted = true ∧ freeSets s w * 1000 < regField s (curPage w) 0x54 7 0 * wingSets s w) ∧
    (∃ (s : State) (gmu : Nat) (d : ChanDesc), Settled s ∧ entryState (mapEntry s gmu) = 1 ∧ entryWrong s gmu = false ∧ relocating s gmu = false
      ∧ gmu ∉ s.cur.lostMus ∧ psaFenced s (entryPsa (mapEntry s gmu)) = false ∧ d =
      { op := 1, cls := 1, flags := 0, count := entrySlots (mapEntry s gmu), psa := entryPsa (mapEntry s gmu), keyWord := 0, tag := gmu % 2 ^ 32 }
      ∧ (submitCheck (psaChannel d.psa) d s).1 = none ∧ (chan s (psaChannel d.psa)).lost = false) ∧
    (∃ (s : State) (n : Nat) (x : StripeSet), Settled s ∧ stripe s n = some x ∧ x.state ≠ .open ∧ x.moved = [] ∧ setGmus s n = [] ∧ s.cur.wb = []
      ∧ holdsSegments s n = false) ∧
    (∃ (s : State) (n : Nat) (x : StripeSet), NothingWaits s ∧ stripe s n = some x ∧ (x.state = .open ∨ x.moved ≠ [] ∨ setGmus s n ≠ [] ∨
      holdsSegments s n = true)) ∧
    (∃ (s : State) (psa : Nat), ((blockRec s (blockOf psa)).use = .retired ∨ (blockRec s (blockOf psa)).pinned = true ∨ psaFenced s (blockOf psa)
      = true)) ∧
    (∃ (s : State) (psa : Nat), (blockRec s (blockOf psa)).use ≠ .retired ∧ (blockRec s (blockOf psa)).pinned = false ∧ psaFenced s (blockOf psa)
      = false) :=
  ⟨
   ⟨atStripeSets0, 0, { wing := 0, nsid := 1, stream := .hostOrdinary, placed := [(0, 0)], used := 16, since := 0, sent := some 128 }, 128,
     { tag := 7, status := 0, level := 0, result := 0, tsc := 0, origin := .packer 0 0, desc := (od 3).desc, data := [], slots := 0 }, 0, wbe,
     by decide +kernel, rfl⟩,
   ⟨atStripeSets1, 0, 0, { set1 with blocks := [0], stream := .hostOrdinary },
     { tag := 7, status := 0, level := 0, result := 0, tsc := 0, origin := .parity 0 0, desc := (od 3).desc, data := [], slots := 0 },
     by decide +kernel⟩,
   ⟨{ cur := curW, flash := { fl ch0 with chans := (upTo 12).map fun i => (i, ch0) } }, 0, .hostSustained, by decide +kernel⟩,
   ⟨{ cur := curW }, 0, .hostSustained, by decide +kernel⟩,
   ⟨{ cur := { sets := [(0, { set1 with stream := .hostOrdinary })] } }, 0, { set1 with stream := .hostOrdinary }, by decide +kernel⟩,
   ⟨{ cur := { sets := [(0, set1)] } }, 0, set1, by decide +kernel⟩,
   ⟨atStripeSets6, 0, by decide +kernel⟩,
   ⟨setEntryRaw 0 (mkEntry true 3 1 128) { flash := fl ch0 }, 0, { op := 1, cls := 1, flags := 0, count := 4, psa := 128, keyWord := 0, tag := 0 },
     by decide +kernel⟩,
   ⟨{ cur := { sets := [(0, set1)] } }, 0, set1, by decide +kernel⟩,
   ⟨{ cur := { sets := [(0, { set1 with moved := [(1, 0, 0)] })] } }, 0, { set1 with moved := [(1, 0, 0)] }, by decide +kernel⟩,
   ⟨{ cur := { blocks := [(0, { use := .retired })] } }, 0, by decide +kernel⟩,
   ⟨{}, 0, by decide +kernel⟩⟩

/-- A state of clause 0. -/
def atJournalAndRecovery0 : State := { flash := { fences := [{ channel := 0, die := 0, reason := 1, state := 0, quals := 0, tscFence := 0, tscResponse := 0, responses := 0, page := some pg, uid := 0, durable := false }] } }

/-- Witnesses of JournalAndRecovery. -/
theorem meets_JournalAndRecovery :
    (∃ (s : State), (∃ e ∈ s.flash.fences, (e.state = 0 ∨ e.state = 1) ∧ e.durable = false)) ∧
    (∃ (s : State), NothingWaits s ∧ FencesDurable s ∧ s.cur.tail ≠ [] ∧ s.cur.dirs ≠ [] ∧ mustAdvance s = false ∧ placeGood s s.cur.nextJ = true
      ∧ placeGood s s.cur.nextJMirror = true) ∧
    (∃ (s : State) (d : DirKept), NothingWaits s ∧ FencesDurable s ∧ s.cur.dirs.getLast? = some d ∧ segmentsInUse s = [] ∧ 0 < geo s
      (·.pagesPerBlock) ∧ (∀ p ∈ [d.nextPsa, d.nextMirror, s.cur.nextJ, s.cur.nextJMirror], placeGood s p = true) ∧ findFree s (journalChans s).1
      .journal (fun _ _ => true) ≠ none ∧ findFree s (journalChans s).2 .journal (fun _ _ => true) ≠ none) ∧
    (∃ (s : State) (d : DirKept), Settled s ∧ s.cur.dirs.getLast? = some d ∧ s.cur.roots = [] ∧ s.cur.dumpSets.moved = none) ∧
    (∃ (s : State), NothingWaits s ∧ s.cur.roots ≠ [] ∧ s.tsc < s.cur.rootAt + 60 * 10 ^ 9) ∧
    (∃ (s : State), NothingWaits s ∧ s.cur.mediaReady = false ∧ dramTrained s = true ∧ s.flash.discovering = [] ∧ s.flash.media = [] ∧
      s.cur.roots = [] ∧ s.cur.dirs = [] ∧ s.cur.sets = [] ∧ s.cur.blocks = [] ∧ s.cur.dumpSets = {}) ∧
    (∃ (s : State) (bad : List Nat), s.cur.mediaReady = false ∧ dramTrained s = true ∧ s.flash.discovering = [] ∧ s.cur.dirs ≠ [] ∧ ((newestRoot
      s).bind fun r => directoryAt s bad (linkAt r 8) (linkAt r 14)) = none) ∧
    (∃ (s : State), s.cur.dumpSets.live ≠ [] ∧ s.cur.dumpSets.consuming = [] ∧ s.cur.mediaReady = true ∧ (∀ e ∈ s.cur.wb, e.2.fromDump = false) ∧
      s.cur.tail = [] ∧ s.cur.dumping = none) :=
  ⟨
   ⟨atJournalAndRecovery0, by decide +kernel⟩,
   ⟨{ cur := { tail := [.dump 1 0 0], nextJ := 1, nextJMirror := 2, dirs := [{ seq := 1, psa := 128, mirror := 256, nextPsa := 384, nextMirror := 512, chain := [], segs := [], sets := [], blocks := [] }] } },
     by decide +kernel⟩,
   ⟨{ cur := { curW with nextJ := 1, nextJMirror := 2, dirs := [{ seq := 1, psa := 128, mirror := 256, nextPsa := 384, nextMirror := 512, chain := [], segs := [], sets := [], blocks := [] }] }, flash := { fl ch0 with chans := (upTo 12).map fun i => (i, ch0) } },
     { seq := 1, psa := 128, mirror := 256, nextPsa := 384, nextMirror := 512, chain := [], segs := [], sets := [], blocks := [] }, by decide +kernel⟩,
   ⟨{ cur := { dirs := [{ seq := 1, psa := 128, mirror := 256, nextPsa := 384, nextMirror := 512, chain := [], segs := [], sets := [], blocks := [] }] } },
     { seq := 1, psa := 128, mirror := 256, nextPsa := 384, nextMirror := 512, chain := [], segs := [], sets := [], blocks := [] }, by decide +kernel⟩,
   ⟨{ cur := { roots := [[]] }, tsc := 59999999999 }, by decide +kernel⟩,
   ⟨{ dram := { chans := (upTo 8).map fun i => (i, { state := 3 }) } }, by decide +kernel⟩,
   ⟨{ dram := { chans := (upTo 8).map fun i => (i, { state := 3 }) }, cur := { dirs := [{ seq := 1, psa := 128, mirror := 256, nextPsa := 384, nextMirror := 512, chain := [], segs := [], sets := [], blocks := [] }] } },
     [], by decide +kernel⟩,
   ⟨{ cur := { dumpSets := { live := [(0, 1)] }, mediaReady := true } }, by decide +kernel⟩⟩

/-- A state of clause 1. -/
def atMediaCare1 : State := { pwr := { started := true, perstN := true, inReset := false }, flash := { fl ch0 with media := [(1, { data := [1], oob := [] })] }, cur := { sets := [(0, { set1 with blocks := [0], row := 1 })] } }

/-- A state of clause 3. -/
def atMediaCare3 : State := { pwr := { started := true, perstN := true, inReset := false }, cur := { sets := [(0, { set1 with rewrite := true })] } }

/-- A state of clause 8. -/
def atMediaCare8 : State := { pwr := { started := true, perstN := true, inReset := false }, dram := { chans := [(0, { state := 3 })] }, tsc := 10 ^ 18 }

/-- Witnesses of MediaCare. -/
theorem meets_MediaCare :
    (∃ (s : State) (k : Nat) (n : Nat) (p : Nat) (d : ChanDesc), jobOn s 0 = true ∧ regField s 176 0x50 15 0 ≠ 0 ∧ atFloor s = false ∧ higherJob
      s 6 = false ∧ verifyOut s OpOrigin.isPatrol = false ∧ s.tsc ≤ s.care.live.patrolStart + regField s 176 0x50 15 0 * 86400 * 10 ^ 9 ∧
      patrolNext s = some (k, n, p) ∧ d = { op := 2, cls := 4, flags := 0, count := 0, psa := p, keyWord := 0, tag := n % 2 ^ 32 } ∧ (submitCheck
      (psaChannel p) d s).1 = none ∧ (chan s (psaChannel p)).lost = false) ∧
    (∃ (s : State), (jobOn s 0 = false ∨ regField s 176 0x50 15 0 = 0)) ∧
    (∃ (s : State), (atFloor s = true ∨ higherJob s 6 = true)) ∧
    (∃ (s : State) (n : Nat) (x : StripeSet), Settled s ∧ stripe s n = some x ∧ rewriteEligible s x = true ∧ setGmus s n = []) ∧
    (∃ (s : State) (n : Nat) (x : StripeSet), Settled s ∧ stripe s n = some x ∧ refreshEligible s x = true ∧ (∀ e ∈ s.cur.sets, rewriteEligible s
      e.2 = false) ∧ setGmus s n = []) ∧
    (∃ (s : State), careRuns s = true) ∧
    (∃ (s : State), s.pwr.started = true ∧ 3 ≤ s.pwr.ps) ∧
    (∃ (s : State) (ch : Nat) (d : Nat) (group : Nat) (p : Nat) (x : ChanDesc), CalMay s ch d group ∧ s.care.cal = none ∧ calibrationDue s
      (groupKey ch d group) = true ∧ higherJob s 4 = false ∧ groupPage s (groupKey ch d group) = some p ∧ x =
      { op := 2, cls := 4, flags := 0, count := 0, psa := p, keyWord := 0, tag := groupKey ch d group % 2 ^ 32 } ∧ (submitCheck ch x s).1 = none ∧
      (chan s ch).lost = false) ∧
    (∃ (s : State) (ch : Nat) (d : Nat) (group : Nat) (r : CalRun), CalMay s ch d group ∧ s.care.cal = some r ∧ r.group = groupKey ch d group ∧
      15 ≤ r.level ∧ r.passed = true) ∧
    (∃ (s : State) (ch : Nat) (d : Nat) (group : Nat) (r : CalRun), CalMay s ch d group ∧ s.care.cal = some r ∧ r.group = groupKey ch d group ∧
      15 ≤ r.level ∧ r.passed = false) ∧
    (∃ (s : State), s.flash.geometry = none) ∧
    (∃ (s : State) (n : Nat), flashRetrainDue s n = true ∧ higherJob s 5 = false ∧ liveDiesOf s n ≠ []) ∧
    (∃ (s : State) (n : Nat), jobOn s 5 = true ∧ n < (variant s).dram ∧ pageRefuses s (drcPage n) = false ∧ (drc s n).slice = none ∧ ((drc s
      n).state = 2 ∨ (drc s n).state = 3) ∧ retrainDue s (regField s 176 0x58 31 24) (regField s 176 0x58 23 16) (Tab.getD s.care.live.trainTimes
      n 0) (Tab.getD s.care.live.trainTemps n 0) (sensor s (32 + n)).temp = true) ∧
    (∃ (s : State), careRuns s = true) :=
  ⟨
   ⟨atMediaCare1, ((patrolNext atMediaCare1).getD (0, 0, 0)).1, ((patrolNext atMediaCare1).getD (0, 0, 0)).2.1, ((patrolNext atMediaCare1).getD (0,
     0, 0)).2.2,
     { op := 2, cls := 4, flags := 0, count := 0, psa := (((patrolNext atMediaCare1).getD (0, 0, 0)).2.2 : Nat), keyWord := 0, tag := (((patrolNext atMediaCare1).getD (0, 0, 0)).2.1 : Nat) % 2 ^ 32 },
     by decide +kernel⟩,
   ⟨{}, by decide +kernel⟩,
   ⟨{ care := { floor := true } }, by decide +kernel⟩,
   ⟨atMediaCare3, 0, { set1 with rewrite := true }, by decide +kernel⟩,
   ⟨{ pwr := { started := true, perstN := true, inReset := false }, cur := { sets := [(0, { set1 with age := 100000 })] } }, 0,
     { set1 with age := 100000 }, by decide +kernel⟩,
   ⟨{ pwr := { started := true, perstN := true, inReset := false }, cur := { sets := [(0, set1)] } }, by decide +kernel⟩,
   ⟨{ pwr := { started := true, ps := 3 } }, by decide +kernel⟩,
   ⟨{ atMediaCare1 with tsc := 10 ^ 18 }, 0, 0, 0, ((groupPage { atMediaCare1 with tsc := 10 ^ 18 } 0).getD 0),
     { op := 2, cls := 4, flags := 0, count := 0, psa := ((groupPage { atMediaCare1 with tsc := 10 ^ 18 } 0).getD 0 : Nat), keyWord := 0, tag := 0 },
     by decide +kernel⟩,
   ⟨{ pwr := { started := true, perstN := true, inReset := false }, flash := fl ch0, care := { cal := some { group := groupKey 0 0 255, psa := 128, offsets := [], level := 15, passed := true } } },
     0, 0, 255, { group := groupKey 0 0 255, psa := 128, offsets := [], level := 15, passed := true }, by decide +kernel⟩,
   ⟨{ pwr := { started := true, perstN := true, inReset := false }, flash := fl ch0, care := { cal := some { group := groupKey 0 0 255, psa := 128, offsets := [], level := 15, passed := false } } },
     0, 0, 255, { group := groupKey 0 0 255, psa := 128, offsets := [], level := 15, passed := false }, by decide +kernel⟩,
   ⟨{}, by decide +kernel⟩,
   ⟨{ pwr := { started := true, perstN := true, inReset := false }, flash := fl ch0, tsc := 10 ^ 18 }, 0, by decide +kernel⟩,
   ⟨atMediaCare8, 0, by decide +kernel⟩,
   ⟨{ pwr := { started := true, perstN := true, inReset := false }, cur := { sets := [(0, set1)] } }, by decide +kernel⟩⟩

/-- A state of clause 3. -/
def atSensorsAndMonitors3 : State := { pwr := { started := true, perstN := true, inReset := false }, care := { sensors := [(27, { temp := 3900 })] } }

/-- Witnesses of SensorsAndMonitors. -/
theorem meets_SensorsAndMonitors :
    (∃ (s : State) (n : Nat) (v : Nat), sensorPresent s n = true ∧ (v < 2231 ∨ 4231 < v) ∧ (sensor s n).valid = true) ∧
    (∃ (s : State) (n : Nat) (v : Nat), sensorPresent s n = true ∧ 2231 ≤ v ∧ v ≤ 4231 ∧ (sensor s n).valid = false) ∧
    (∃ (s : State), s.pwr.on = true) ∧
    (∃ (s : State), s.pwr.on = true ∧ atLeastC s (ceilingC s) = true ∧ (∃ k, k < 8 ∧ kindLevel s k < 3)) ∧
    (∃ (s : State) (n : Nat) (v : Nat), s.pwr.on = true ∧ sensorPresent s n = true ∧ 2231 ≤ v ∧ v ≤ 4231 ∧ (sensor s n).valid = true) ∧
    (∃ (s : State) (n : Nat) (i : Island), regBit s 176 0x40 6 = true ∧ careRuns s = true ∧ islandOfSensor n = some i ∧ kindOf i ≤ 3 ∧
      islandPresent s i = true ∧ (isl s i).power = 2) ∧
    (∃ (src : Nat), levelSource src = false) ∧
    (∃ (s : State) (j : Nat), j < 128 ∧ (monitor s j).samples s = true ∧ levelSource (monitor s j).source = true ∧ bits (monitor s j).period 15 0
      ≠ 0) ∧
    (∃ (s : State) (who : Requester) (j : Nat), j < 128 ∧ MayWrite s who (monPage j) (monBase j + 0xC)) ∧
    (∃ (s : State) (who : Requester) (j : Nat), j < 128 ∧ MayWrite s who (monPage j) (monBase j)) ∧
    (∃ (s : State) (who : Requester) (j : Nat), j < 128 ∧ MayWrite s who (monPage j) (monBase j + 4)) ∧
    (∃ (s : State) (who : Requester) (j : Nat), j < 128 ∧ MayWrite s who (monPage j) (monBase j + 8)) :=
  ⟨
   ⟨{}, 27, 4232, by decide +kernel⟩,
   ⟨{ care := { sensors := [(27, { temp := 5000, valid := false })] } }, 27, 2231, by decide +kernel⟩,
   ⟨{ pwr := { started := true, perstN := true, inReset := false } }, by decide +kernel⟩,
   ⟨atSensorsAndMonitors3, by decide +kernel⟩,
   ⟨{ pwr := { started := true, perstN := true, inReset := false } }, 27, 4231, by decide +kernel⟩,
   ⟨{ pwr := { started := true, perstN := true, inReset := false } }, 11, .gallery 0, by decide +kernel⟩,
   ⟨1, by decide +kernel⟩,
   ⟨{ care := { monitors := [(3, { cfg := 0x80001B07, period := 1 })] } }, 3, by decide +kernel⟩,
   ⟨{ care := { monitors := [(127, { cfg := 1, count := 4 })] } }, .keeper 0, 127, by decide +kernel⟩,
   ⟨{}, .keeper 0, 127, by decide +kernel⟩,
   ⟨{}, .keeper 0, 127, by decide +kernel⟩,
   ⟨{}, .keeper 0, 127, by decide +kernel⟩⟩

/-- Witnesses of CompressionJobs. -/
theorem meets_CompressionJobs :
    (∃ (s : State) (who : Requester) (c : Nat) (r : Nat) (v : Word), MayWrite s who (ringPage c r) (ringBase r + 0xC) ∧ bits v 11 0 < ringSize s
      c r) ∧
    (∃ (s : State) (who : Requester) (c : Nat) (r : Nat) (v : Word), MayWrite s who (ringPage c r) (ringBase r + 0xC) ∧ ringSize s c r ≤ bits v
      11 0) ∧
    (∃ (s : State) (who : Requester) (c : Nat) (r : Nat) (v : Word), MayWrite s who (ringPage c r) (ringBase r + 8) ∧ 4 ≤ bits v 11 8 ∧ bits v 11
      8 ≤ 12 ∧ (bit v 31 = false ∨ Tab.get? s.mbx (bits v 24 16) = none)) ∧
    (∃ (s : State) (who : Requester) (c : Nat) (r : Nat) (v : Word), MayWrite s who (ringPage c r) (ringBase r + 8) ∧ (bits v 11 8 < 4 ∨ 12 <
      bits v 11 8)) ∧
    (∃ (s : State) (c : Nat) (r : Nat) (ans : DramAns) (u : State) (d : JobDesc), (cmpTakes s c = true ∧ nextRing s c = some r ∧ ans.code = 0 ∧ d
      = parseJob ans.bytes ∧ d.invalid = false ∧ recordBusy u d = false ∧ jobShort u d = true ∧ sharedFree u c (d.op == 2) = true ∧ inlineWaits u
      (d.op == 2) = false ∧ bits (ringCfg u c r) 11 8 ≤ 12) ∧ busRead (addrMask (ringAddr s c r + 64 * ringHead s c r)) 64 s = (ans, u)) ∧
    (∃ (s : State) (c : Nat) (r : Nat) (ans : DramAns) (u : State) (d : JobDesc), (cmpTakes s c = true ∧ nextRing s c = some r ∧ ans.code = 0 ∧ d
      = parseJob ans.bytes ∧ d.invalid = true ∧ d.completion = 0 ∧ d.irq = false ∧ bit (word d.ticket) 31 = false) ∧ busRead (addrMask (ringAddr s
      c r + 64 * ringHead s c r)) 64 s = (ans, u)) ∧
    (∃ (s : State) (j : Nat) (job : CmpJob) (ans : DramAns) (u : State) (bytes : List Byte) (raw : Bool) (v : State), (Tab.get? s.cmp.jobs j =
      some job ∧ job.desc.op = 1 ∧ job.result = none ∧ job.desc.first = true ∧ job.desc.format = 3 ∧ ans.code = 0 ∧ bytes.take job.desc.outLen ≠
      [] ∧ busWrite job.desc.outAddr (bytes.take job.desc.outLen) (countCompression job.island ans.bytes.length (bytes.take
      job.desc.outLen).length (flag raw) u) = (0, v)) ∧ jobInput job.desc s = (ans, u) ∧ mediaEncode job.desc.level (effectiveDepth job.desc.level
      job.desc.depth) ans.bytes = (bytes, raw)) ∧
    (∃ (s : State) (j : Nat) (job : CmpJob) (ans : DramAns) (u : State), (Tab.get? s.cmp.jobs j = some job ∧ job.desc.op = 1 ∧ job.result = none
      ∧ job.desc.first = true ∧ ans.code ≠ 0) ∧ jobInput job.desc s = (ans, u)) ∧
    (∃ (s : State) (j : Nat) (job : CmpJob) (ans : DramAns) (u : State) (v : State), (Tab.get? s.cmp.jobs j = some job ∧ job.desc.op = 2 ∧
      job.result = none ∧ job.desc.first = true ∧ job.desc.format = 3 ∧ job.desc.rawIn = true ∧ ans.code = 0 ∧ ans.bytes ≠ [] ∧ ans.bytes.length ≤
      job.desc.outLen ∧ busWrite job.desc.outAddr ans.bytes (bumpReg64 (cmpPage job.island) 0x58 ans.bytes.length u) = (0, v)) ∧ jobInput job.desc
      s = (ans, u)) ∧
    (∃ (s : State) (j : Nat) (job : CmpJob) (ans : DramAns) (u : State) (st : Nat) (out : List Byte), (Tab.get? s.cmp.jobs j = some job ∧
      job.desc.op = 2 ∧ job.result = none ∧ job.desc.first = true ∧ job.desc.format = 3 ∧ job.desc.rawIn = false ∧ ans.code = 0 ∧ ans.bytes ≠ [] ∧
      st ≠ 0) ∧ jobInput job.desc s = (ans, u) ∧ mediaDecode ans.bytes ans.bytes.length = (st, out)) ∧
    (∃ (s : State) (j : Nat) (job : CmpJob) (res : Nat × Nat × Nat × Nat), Tab.get? s.cmp.jobs j = some job ∧ job.result = some res) ∧
    (∃ (s : State) (j : Nat) (job : CmpJob) (st : Nat) (fl : Nat) (used : Nat) (made : Nat) (off : Nat), Tab.get? s.cmp.jobs j = some job ∧
      job.result = some (st, fl, used, made) ∧ job.stream = none ∧ job.desc.completion ≠ 0 ∧ placeOf job.desc.completion = .keeperShared off ∧
      islandRefuses s .keeper = false ∧ bit (word job.desc.ticket) 31 = false) :=
  ⟨
   ⟨sRing [], .keeper 0, 0, 0, 255, by decide +kernel⟩,
   ⟨{}, .keeper 0, 0, 0, 0xFFF, by decide +kernel⟩,
   ⟨{}, .keeper 0, 0, 31, 0x80000C07, by decide +kernel⟩,
   ⟨{}, .keeper 0, 0, 0, 0x300, by decide +kernel⟩,
   ⟨sRing [1, 3, 1, 3, 16], 0, 0, _, _, parseJob ((busRead (addrMask (ringAddr (sRing [1, 3, 1, 3, 16] : State) 0 0 + 64 * ringHead (sRing [1, 3, 1,
     3, 16] : State) 0 0)) 64 (sRing [1, 3, 1, 3, 16] : State)).1 : DramAns).bytes, by decide +kernel, (Prod.eta _).symm⟩,
   ⟨sRing [9, 3, 1, 3, 16], 0, 0, _, _, parseJob ((busRead (addrMask (ringAddr (sRing [9, 3, 1, 3, 16] : State) 0 0 + 64 * ringHead (sRing [9, 3, 1,
     3, 16] : State) 0 0)) 64 (sRing [9, 3, 1, 3, 16] : State)).1 : DramAns).bytes, by decide +kernel, (Prod.eta _).symm⟩,
   ⟨sJob jd none [1, 2, 3], 0, { island := 0, ring := 0, desc := jd, result := none }, _, _, _, _, (busWrite
     ({ island := 0, ring := 0, desc := jd, result := none } : CmpJob).desc.outAddr (((mediaEncode
     ({ island := 0, ring := 0, desc := jd, result := none } : CmpJob).desc.level (effectiveDepth
     ({ island := 0, ring := 0, desc := jd, result := none } : CmpJob).desc.level ({ island := 0, ring := 0, desc := jd, result := none } :
     CmpJob).desc.depth) ((jobInput ({ island := 0, ring := 0, desc := jd, result := none } : CmpJob).desc (sJob jd none [1, 2, 3] : State)).1 :
     DramAns).bytes).1 : List Byte).take ({ island := 0, ring := 0, desc := jd, result := none } : CmpJob).desc.outLen) (countCompression
     ({ island := 0, ring := 0, desc := jd, result := none } : CmpJob).island ((jobInput ({ island := 0, ring := 0, desc := jd, result := none } :
     CmpJob).desc (sJob jd none [1, 2, 3] : State)).1 : DramAns).bytes.length (((mediaEncode ({ island := 0, ring := 0, desc := jd, result := none } :
     CmpJob).desc.level (effectiveDepth ({ island := 0, ring := 0, desc := jd, result := none } : CmpJob).desc.level
     ({ island := 0, ring := 0, desc := jd, result := none } : CmpJob).desc.depth) ((jobInput ({ island := 0, ring := 0, desc := jd, result := none }
     : CmpJob).desc (sJob jd none [1, 2, 3] : State)).1 : DramAns).bytes).1 : List Byte).take ({ island := 0, ring := 0, desc := jd, result := none }
     : CmpJob).desc.outLen).length (flag ((mediaEncode ({ island := 0, ring := 0, desc := jd, result := none } : CmpJob).desc.level (effectiveDepth
     ({ island := 0, ring := 0, desc := jd, result := none } : CmpJob).desc.level ({ island := 0, ring := 0, desc := jd, result := none } :
     CmpJob).desc.depth) ((jobInput ({ island := 0, ring := 0, desc := jd, result := none } : CmpJob).desc (sJob jd none [1, 2, 3] : State)).1 :
     DramAns).bytes).2 : Bool)) ((jobInput ({ island := 0, ring := 0, desc := jd, result := none } : CmpJob).desc (sJob jd none [1, 2, 3] : State)).2
     : State))).2, by decide +kernel, (Prod.eta _).symm, (Prod.eta _).symm⟩,
   ⟨sJob { jd with inAddr := 2 ^ 47 } none [], 0, { island := 0, ring := 0, desc := { jd with inAddr := 2 ^ 47 }, result := none }, _, _,
     by decide +kernel, (Prod.eta _).symm⟩,
   ⟨sJob { jd with op := 2, flags := 7 } none [1, 2], 0, { island := 0, ring := 0, desc := { jd with op := 2, flags := 7 }, result := none }, _, _,
     (busWrite ({ island := 0, ring := 0, desc := { jd with op := 2, flags := 7 }, result := none } : CmpJob).desc.outAddr ((jobInput
     ({ island := 0, ring := 0, desc := { jd with op := 2, flags := 7 }, result := none } : CmpJob).desc (sJob { jd with op := 2, flags := 7 } none
     [1, 2] : State)).1 : DramAns).bytes (bumpReg64 (cmpPage ({ island := 0, ring := 0, desc := { jd with op := 2, flags := 7 }, result := none } :
     CmpJob).island) 0x58 ((jobInput ({ island := 0, ring := 0, desc := { jd with op := 2, flags := 7 }, result := none } : CmpJob).desc (sJob
     { jd with op := 2, flags := 7 } none [1, 2] : State)).1 : DramAns).bytes.length ((jobInput
     ({ island := 0, ring := 0, desc := { jd with op := 2, flags := 7 }, result := none } : CmpJob).desc (sJob { jd with op := 2, flags := 7 } none
     [1, 2] : State)).2 : State))).2, by decide +kernel, (Prod.eta _).symm⟩,
   ⟨sJob { jd with op := 2 } none [1, 2], 0, { island := 0, ring := 0, desc := { jd with op := 2 }, result := none }, _, _, _, _, by decide +kernel,
     (Prod.eta _).symm, (Prod.eta _).symm⟩,
   ⟨sJob jd (some (0, 2, 16, 16)) [], 0, { island := 0, ring := 0, desc := jd, result := some (0, 2, 16, 16) }, (0, 2, 16, 16), by decide +kernel⟩,
   ⟨sJob { jd with completion := ksh + 64, flags := 11 } (some (0, 2, 16, 12)) [], 0,
     { island := 0, ring := 0, desc := { jd with completion := ksh + 64, flags := 11 }, result := some (0, 2, 16, 12) }, 0, 2, 16, 12, 64,
     by decide +kernel⟩⟩

/-- Witnesses of CatalogueCommands. -/
theorem meets_CatalogueCommands :
    (∃ (s : State) (who : Requester) (c : Nat) (v : Word), MayWrite s who 201 (0x40 + 4 * c) ∧ chainEnabled s c = true ∧ bit v 31 = true) ∧
    (∃ (s : State) (who : Requester) (c : Nat) (v : Word), MayWrite s who 201 (0x40 + 4 * c) ∧ chainEnabled s c = true ∧ bit v 31 = false) ∧
    (∃ (s : State) (who : Requester) (c : Nat) (v : Word), MayWrite s who 201 (0x40 + 4 * c) ∧ chainEnabled s c = false ∧ (bit v 31 = false ∨ (1
      ≤ bits v 14 12 ∧ bits v 14 12 ≤ 4 ∧ 1 ≤ bits v 11 6 ∧ bits v 11 6 ≤ 32 ∧ bits v 4 0 + bits v 14 12 * bits v 11 6 ≤ (variant s).banks ∧ ∀ k,
      k < 16 → k ≠ c → chainEnabled s k = true → bits v 4 0 + bits v 14 12 * bits v 11 6 ≤ chainFirst s k ∨ chainFirst s k + chainWidth s k *
      chainDepth s k ≤ bits v 4 0))) ∧
    (∃ (s : State) (who : Requester) (c : Nat) (i : Nat), CatTakes s who c ∧ i = regField s 200 0x48 16 0) ∧
    (∃ (s : State) (who : Requester) (c : Nat) (i : Nat), CatTakes s who c ∧ i = regField s 200 0x48 16 0) ∧
    (∃ (s : State) (who : Requester) (c : Nat) (i : Nat) (j : Nat), CatTakes s who c ∧ i = regField s 200 0x48 16 0 ∧ j = regField s 200 0x4C 16
      0 ∧ j < chainEntries s c ∧ 0 < chainWidth s c ∧ (entryRow s c i 0).valid = true ∧ (entryRow s c j 0).valid = false) ∧
    (∃ (s : State) (who : Requester) (c : Nat) (i : Nat) (j : Nat), CatTakes s who c ∧ i = regField s 200 0x48 16 0 ∧ j = regField s 200 0x4C 16
      0 ∧ j < chainEntries s c ∧ 0 < chainWidth s c ∧ (entryRow s c j 0).valid = true) ∧
    (∃ (s : State) (who : Requester) (c : Nat) (i : Nat), CatTakes s who c ∧ i = regField s 200 0x48 16 0 ∧ chainWidth s c ≤ 4 ∧ 0 < chainWidth s
      c) ∧
    (∃ (s : State) (who : Requester) (c : Nat), MayWrite s who 200 0x44 ∧ s.cat.running = none ∧ chainEnabled s c = true) ∧
    (∃ (s : State) (who : Requester) (c : Nat), MayWrite s who 200 0x44 ∧ s.cat.running = none ∧ chainEnabled s c = true) ∧
    (∃ (s : State) (who : Requester) (c : Nat), MayWrite s who 200 0x44 ∧ s.cat.running = none ∧ chainEnabled s c = false) ∧
    (∃ (s : State) (c : Nat) (tag : Nat), s.cat.running = some (6, c, tag)) ∧
    (∃ (s : State) (who : Requester), MayWrite s who 200 0x44 ∧ s.cat.running = none) ∧
    (∃ (s : State), regField s 200 0x58 15 0 ≠ 0 ∧ islandRefuses s .catalogue = false) ∧
    (∃ (s : State) (b : Nat), regField s 200 0x58 15 0 ≠ 0 ∧ islandRefuses s .catalogue = false ∧ b < (variant s).banks ∧ (∀ c, c < 16 →
      chainEnabled s c = false)) :=
  ⟨
   ⟨sCat 4095 0 [(4095, row1)], .keeper 0, 0, 0x80001040, by decide +kernel⟩,
   ⟨sCat 4095 0 [(4095, row1)], .keeper 0, 0, 0, by decide +kernel⟩,
   ⟨sCat 4095 0 [(4095, row1)], .keeper 0, 15, 0x80031041, by decide +kernel⟩,
   ⟨sCat 4095 0 [(4095, row1)], .keeper 0, 0, 4095, by decide +kernel⟩,
   ⟨sCat 4095 0 [(4095, row1)], .keeper 0, 0, 4095, by decide +kernel⟩,
   ⟨sCat 4095 0 [(4095, row1)], .keeper 0, 0, 4095, 0, by decide +kernel⟩,
   ⟨sCat 4095 0 [(0, row1), (4095, row1)], .keeper 0, 0, 4095, 0, by decide +kernel⟩,
   ⟨sCat 4095 0 [(4095, row1)], .keeper 0, 0, 4095, by decide +kernel⟩,
   ⟨sCat 4095 0 [(4095, row1)], .keeper 0, 0, by decide +kernel⟩,
   ⟨sCat 4095 0 [(4095, row1)], .keeper 0, 0, by decide +kernel⟩,
   ⟨sCat 4095 0 [(4095, row1)], .keeper 0, 1, by decide +kernel⟩,
   ⟨{ sCat 0 0 [(4095, row1)] with cat := { rows := [(4095, row1)], running := some (6, 0, 7) } }, 0, 7, by decide +kernel⟩,
   ⟨sCat 4095 0 [(4095, row1)], .keeper 0, by decide +kernel⟩,
   ⟨{ cat := { scrubRow := 4095 } }, by decide +kernel⟩,
   ⟨{ cat := { rows := [(3 * 4096, row1)] } }, 3, by decide +kernel⟩⟩

/-- Witnesses of DramCommands. -/
theorem meets_DramCommands :
    (∃ (s : State) (client : DramClient) (a : Nat) (len : Nat) (symbols : Nat), OneBurst s client a (.read len) symbols ∧ symbols ≤ 1) ∧
    (∃ (s : State) (client : DramClient) (a : Nat) (len : Nat) (symbols : Nat), OneBurst s client a (.read len) symbols ∧ 2 ≤ symbols) ∧
    (∃ (s : State) (client : DramClient) (a : Nat) (bs : List Byte) (symbols : Nat), OneBurst s client a (.write bs) symbols ∧ (bs.length = 64 ∨
      symbols ≤ 1)) ∧
    (∃ (s : State) (client : DramClient) (a : Nat) (op : DramOp) (symbols : Nat) (n : Nat), n = dramChannelOf s a ∧ (islandPresent s (.dram n) &&
      islandAsleep s (.dram n)) = false ∧ dramHolds { client := client, addr := a, op := op, symbols := symbols } s = true ∧ (drc s n).waiting =
      []) ∧
    (∃ (s : State) (a : Nat) (n : Nat), n = dramChannelOf s a ∧ islandPresent s (.dram n) = true ∧ islandAsleep s (.dram n) = true) ∧
    (∃ (s : State) (n : Nat) (x : DramReq) (y : DramReq), (drc s n).waiting = [x, y] ∧ dramHolds x s = false ∧ dramHolds y s = false ∧ y.meets x
      = false ∧ x.client.cls = 1 ∧ y.client.cls = 0 ∧ (drc s n).lastBank ≠ some (dramBank s y.addr)) ∧
    (∃ (s : State) (n : Nat) (x : DramReq) (y : DramReq), (drc s n).waiting = [x, y] ∧ dramHolds x s = false ∧ dramHolds y s = false ∧ y.meets x
      = false ∧ x.client.cls = 2 ∧ y.client.cls ≠ 2 ∧ (drc s n).bgCredit < 256) ∧
    (∃ (s : State) (n : Nat) (x : DramReq) (y : DramReq), (drc s n).waiting = [x, y] ∧ dramHolds x s = false ∧ x.client.cls = 2 ∧ 256 ≤ (drc s
      n).bgCredit) ∧
    (∃ (s : State) (n : Nat), (drc s n).state ≠ 0 ∧ (drc s n).state ≠ 1 ∧ (drc s n).state ≠ 5) ∧
    (∃ (s : State) (n : Nat) (rank : Nat) (ind : Nat), (drc s n).state ≠ 5 ∧ ind ≠ indOf (drc s n) rank) ∧
    (∃ (s : State) (n : Nat), 2 ≤ (drc s n).state ∧ (drc s n).state ≠ 6) ∧
    (∃ (s : State) (n : Nat), (drc s n).caRetrain = true ∧ (drc s n).waiting = []) ∧
    (∃ (s : State) (n : Nat), (drc s n).caRetrain = true ∧ (drc s n).waiting = []) ∧
    (∃ (s : State) (n : Nat) (symbols : Nat), regField s (drcPage n) 0x4C 15 0 ≠ 0 ∧ s.dram.stopped = false ∧ drcTrained (drc s n) = true ∧ (drc
      s n).state ≠ 5 ∧ dramHolds { client := .scrub, addr := dramGlobal s n ((drc s n).scrubAt * 64), op := .read 64, symbols := symbols } s =
      false ∧ channelBytes s ≠ 0) ∧
    (∃ (s : State) (n : Nat) (f : DramFound), (drc s n).state = 1 ∧ f.ok = true ∧ f.width = s.boot.dramWidth ∧ f.density = s.boot.dramDensity ∧
      f.ranks = s.boot.dramRanks ∧ rankGiB f.width f.density ≠ 0 ∧ (drc s n).heldGo = false) ∧
    (∃ (s : State) (n : Nat) (f : DramFound), (drc s n).state = 1 ∧ f.ok = false) ∧
    (∃ (s : State) (who : Requester) (n : Nat), MayWrite s who (drcPage n) 0x54 ∧ (drc s n).slice = none ∧ ((drc s n).state = 2 ∨ (drc s n).state
      = 3)) ∧
    (∃ (s : State) (who : Requester) (n : Nat), MayWrite s who (drcPage n) 0x54 ∧ (drc s n).slice = none ∧ (drc s n).state ≠ 2 ∧ (drc s n).state
      ≠ 3) ∧
    (∃ (s : State) (n : Nat) (k : Nat), (drc s n).slice = some k ∧ 1 < k ∧ s.dram.stopped = false ∧ rtActive s (drc s n) 0 = false ∧ rtActive s
      (drc s n) 1 = false ∧ justRefreshed s (drc s n) = false) ∧
    (∃ (s : State) (n : Nat) (k : Nat) (ok : Bool), (drc s n).slice = some k ∧ (ok = false ∨ k ≤ 1) ∧ s.dram.stopped = false ∧ rtActive s (drc s
      n) 0 = false ∧ rtActive s (drc s n) 1 = false ∧ justRefreshed s (drc s n) = false) ∧
    (∃ (s : State) (k : Nat) (n : Nat), MayWrite s (.keeper k) (drcPage n) 0x68 ∧ (drc s n).zeroing = false) ∧
    (∃ (s : State) (n : Nat), (drc s n).zeroing = true ∧ (drc s n).initDone = false ∧ s.dram.stopped = false) ∧
    (∃ (s : State) (k : Nat), k < 4 ∧ 2 * k < (variant s).dram) :=
  ⟨
   ⟨{ dram := drams { state := 3, initDone := true } }, .readMemory, 0x100, 64, 0, by decide +kernel⟩,
   ⟨{ dram := drams { state := 3, initDone := true } }, .readMemory, 0x100, 64, 2, by decide +kernel⟩,
   ⟨{ dram := drams { state := 3, initDone := true } }, .mover, 0x104, [1, 2], 1, by decide +kernel⟩,
   ⟨{ dram := drams { state := 3, initDone := true, caRetrain := true } }, .mover, 0, .read 64, 0, 0, by decide +kernel⟩,
   ⟨{ pwr := { ps := 3 }, fab := { islands := [((Island.dram 0).sensor, { power := 3 })] } }, 0, 0, by decide +kernel⟩,
   ⟨{ dram := drams { state := 3, initDone := true, waiting := [{ client := .mover, addr := 0, op := .read 64, symbols := 0 }, { client := .hostDma, addr := 0x100000, op := .read 64, symbols := 0 }] } },
     0, { client := .mover, addr := 0, op := .read 64, symbols := 0 }, { client := .hostDma, addr := 0x100000, op := .read 64, symbols := 0 },
     by decide +kernel⟩,
   ⟨{ dram := drams { state := 3, initDone := true, bgCredit := 255, waiting := [{ client := .conservator, addr := 0, op := .read 64, symbols := 0 }, { client := .mover, addr := 0x100000, op := .read 64, symbols := 0 }] } },
     0, { client := .conservator, addr := 0, op := .read 64, symbols := 0 }, { client := .mover, addr := 0x100000, op := .read 64, symbols := 0 },
     by decide +kernel⟩,
   ⟨{ dram := drams { state := 3, initDone := true, bgCredit := 256, waiting := [{ client := .conservator, addr := 0, op := .read 64, symbols := 0 }, { client := .hostDma, addr := 0x100000, op := .read 64, symbols := 0 }] } },
     0, { client := .conservator, addr := 0, op := .read 64, symbols := 0 }, { client := .hostDma, addr := 0x100000, op := .read 64, symbols := 0 },
     by decide +kernel⟩,
   ⟨{ dram := drams { state := 3, debt0 := 3, rtLast := some (0, 0) } }, 0, by decide +kernel⟩,
   ⟨{ dram := drams { state := 3, initDone := true } }, 0, 1, 2, by decide +kernel⟩,
   ⟨{ dram := drams { state := 3, replays := 3 } }, 0, by decide +kernel⟩,
   ⟨{ dram := drams { state := 3, replays := 3, caRetrain := true } }, 0, by decide +kernel⟩,
   ⟨{ dram := drams { state := 3, replays := 3, caRetrain := true } }, 0, by decide +kernel⟩,
   ⟨{ dram := drams { state := 3, initDone := true } }, 0, 0, by decide +kernel⟩,
   ⟨{ dram := drams { state := 1 } }, 0, ⟨4, 1, 2, true⟩, by decide +kernel⟩,
   ⟨{ dram := drams { state := 1, fails := 2 } }, 0, ⟨4, 1, 2, false⟩, by decide +kernel⟩,
   ⟨{ dram := drams { state := 3, initDone := true } }, .keeper 0, 0, by decide +kernel⟩,
   ⟨{ dram := drams { state := 1 } }, .keeper 0, 0, by decide +kernel⟩,
   ⟨{ dram := drams { state := 4, slice := some 2 } }, 0, 2, by decide +kernel⟩,
   ⟨{ dram := drams { state := 4, slice := some 1 } }, 0, 1, true, by decide +kernel⟩,
   ⟨{ dram := drams { state := 3 } }, 0, 0, by decide +kernel⟩,
   ⟨{ dram := drams { state := 3, zeroing := true } }, 0, by decide +kernel⟩,
   ⟨{}, 3, by decide +kernel⟩⟩

/-- A state of clause 0. -/
def atGalleryCommands0 : State := winS { bound := some 5, half0 := { filled := true, data := [1, 2], holder := some 3 }, half1 := { filled := true, data := [1, 2], order := 0 } } {}

/-- A state of clause 14. -/
def atGalleryCommands14 : State := { kprs := [(1, { running := true, pc := 0x011000000010, ien := true, vbase := 0x80 })], mbx := [(2, ⟨5, 1, false, 0⟩)], fab := { regs := [(252 * 4096 + 0x110, 0x40010000)] } }

/-- Witnesses of GalleryCommands. -/
theorem meets_GalleryCommands :
    (∃ (s : State) (g : Nat) (k : Nat) (w : Nat) (h : Nat), coreRuns s (.docent g k) = true ∧ claimable (window s g w) = some h) ∧
    (∃ (s : State) (g : Nat) (k : Nat) (w : Nat), coreRuns s (.docent g k) = true ∧ claimable (window s g w) = none ∧ ((window s g w).bound =
      none ∨ (window s g w).ended = true)) ∧
    (∃ (s : State) (g : Nat) (k : Nat) (w : Nat), coreRuns s (.docent g k) = true ∧ claimable (window s g w) = none ∧ (window s g w).bound ≠ none
      ∧ (window s g w).ended = false) ∧
    (∃ (s : State) (g : Nat) (k : Nat) (w : Nat) (v : Word), coreRuns s (.docent g k) = true ∧ v &&& 0xFFFEFFFF = 0 ∧ ((window s g w).half (bits
      v 16 16)).holder = some k) ∧
    (∃ (s : State) (g : Nat) (k : Nat) (w : Nat) (v : Word) (n : Nat) (tk : Ticket), coreRuns s (.docent g k) = true ∧ ((window s g w).half (bits
      v 16 16)).holder ≠ some k ∧ ServesQuietly s g k n tk) ∧
    (∃ (s : State) (g : Nat) (k : Nat) (off : Nat) (bytes : List Byte), coreRuns s (.docent g k) = true ∧ off + bytes.length ≤ 0x48) ∧
    (∃ (s : State) (g : Nat) (k : Nat) (v : Word) (r : Word) (u : State), (coreRuns s (.docent g k) = true ∧ islandRefuses s .catalogue = false ∧
      (hdr s 200).quiesceReq = false) ∧ portSearch g v (getCore s (.docent g k)).key.toNat (servedDomain s g k) s = (r, u)) ∧
    (∃ (s : State) (g : Nat) (k : Nat) (r : Word), (getCore s (.docent g k)).searching = some r) ∧
    (∃ (s : State) (g : Nat) (k : Nat) (r : Word), coreRuns s (.docent g k) = true ∧ (getCore s (.docent g k)).searching = none ∧ (getCore s
      (.docent g k)).result = some r) ∧
    (∃ (s : State) (g : Nat) (k : Nat) (r : Word), coreRuns s (.docent g k) = true ∧ (getCore s (.docent g k)).searching = some r) ∧
    (∃ (s : State) (k : Nat) (g : Nat) (v : Word), g < 16 ∧ Serves s (.keeper k) (208 + g) true ∧ v.getLsbD 0 = true) ∧
    (∃ (s : State) (who : Requester) (k : Nat), k < 4 ∧ MayWrite s who 224 0x40 ∧ regBit s 224 0x40 k = false) ∧
    (∃ (s : State) (who : Requester) (k : Nat), k < 4 ∧ MayWrite s who 224 0x40 ∧ (s.sec.owner ≠ k ∨ s.sec.msg = none)) ∧
    (∃ (s : State) (who : Requester) (k : Nat), k < 4 ∧ MayWrite s who 224 0x40 ∧ s.sec.owner = k) ∧
    (∃ (s : State) (k : Nat), (getCore s (.keeper k)).running = true ∧ (getCore s (.keeper k)).halted = false ∧ (getCore s (.keeper k)).stalled =
      false ∧ (getCore s (.keeper k)).ien = true ∧ keeperEvent s k = true ∧ islandRefuses s .keeper = false) ∧
    (∃ (s : State) (k : Nat), ((getCore s (.keeper k)).ien = false ∨ keeperEvent s k = false)) ∧
    (∃ (s : State) (c : CoreId) (w : Fields) (bs : List Byte) (extra : Nat) (u : State) (z : State) (ok : Bool), (Runs s c 0x30 { base := true }
      w ∧ coreLoad c (effAddr c (found s c) w) 64 64 (landed s c) = .got bs extra u ∧ islandAsleep u .registrar = false ∧ registrarRefuses u =
      false) ∧ submitDesc c bs u = (ok, z)) :=
  ⟨
   ⟨atGalleryCommands0, 0, 3, 1, 1, by decide +kernel⟩,
   ⟨winS {} {}, 0, 3, 1, by decide +kernel⟩,
   ⟨winS { bound := some 5 } {}, 0, 3, 1, by decide +kernel⟩,
   ⟨winS { bound := some 5, half1 := { filled := true, data := [1, 2], holder := some 3 } } {}, 0, 3, 1, 0x10000, by decide +kernel⟩,
   ⟨winS { bound := some 5, half1 := { filled := true, data := [1, 2], order := 0 } } {}, 0, 3, 1, 0x10000, 7, tk 0 0 (.inService 0 3) 0,
     by decide +kernel⟩,
   ⟨winS {} {}, 0, 3, 0x44, [1, 2, 3, 4], by decide +kernel⟩,
   ⟨{ winS {} { key := 0x55 } with fab := (sCat 0 0 []).fab, cat := { rows := [(9, row1)] } }, 0, 3, 7, _, _, by decide +kernel, (Prod.eta _).symm⟩,
   ⟨winS {} { searching := some 5, stalled := true }, 0, 3, 5, by decide +kernel⟩,
   ⟨winS {} { result := some 5 }, 0, 3, 5, by decide +kernel⟩,
   ⟨winS {} { searching := some 5 }, 0, 3, 5, by decide +kernel⟩,
   ⟨{}, 0, 15, 1, by decide +kernel⟩,
   ⟨{ fab := { regs := [(224 * 4096 + 0x54, 0x1003)] } }, .keeper 0, 3, by decide +kernel⟩,
   ⟨{ kprs := [(3, { running := true, products := [⟨4, 1, 2⟩] })], sec := { owner := 3 } }, .keeper 0, 3, by decide +kernel⟩,
   ⟨{ kprs := [(3, { running := true })], sec := { owner := 3, msg := some ⟨0, 0, 0, [], [], []⟩ } }, .keeper 0, 3, by decide +kernel⟩,
   ⟨atGalleryCommands14, 1, by decide +kernel⟩,
   ⟨{}, 0, by decide +kernel⟩,
   ⟨sK { x := 0x011000000000 }, .keeper 0, ⟨0, 1, 0, 0⟩, (coreLoad (.keeper 0 : CoreId) (effAddr (.keeper 0 : CoreId) (found (sK
     { x := 0x011000000000 } : State) (.keeper 0 : CoreId)) (⟨0, 1, 0, 0⟩ : Fields)) 64 64 (landed (sK { x := 0x011000000000 } : State) (.keeper 0 :
     CoreId))).bs, (coreLoad (.keeper 0 : CoreId) (effAddr (.keeper 0 : CoreId) (found (sK { x := 0x011000000000 } : State) (.keeper 0 : CoreId)) (⟨0,
     1, 0, 0⟩ : Fields)) 64 64 (landed (sK { x := 0x011000000000 } : State) (.keeper 0 : CoreId))).ex, (coreLoad (.keeper 0 : CoreId) (effAddr
     (.keeper 0 : CoreId) (found (sK { x := 0x011000000000 } : State) (.keeper 0 : CoreId)) (⟨0, 1, 0, 0⟩ : Fields)) 64 64 (landed (sK
     { x := 0x011000000000 } : State) (.keeper 0 : CoreId))).st, _, _, by decide +kernel, (Prod.eta _).symm⟩⟩

/-- A state of clause 4. -/
def atProgramCommands4 : State := sPr 35 (cns4) ({ programs := [(64, { prg with image := overlay prog 128 [3, 2, 0, 0, 4, 0, 0x20] })] })

/-- A state of clause 6. -/
def atProgramCommands6 : State := sPr 35 (cns4) ({ programs := [(64 + 63, { prg with ctx := some 5, data := 0x180000 })], execs := [(1, { ref := ⟨0, 1, 1⟩, ctx := 5, root := 15, start := 0, failed := 2, lastStatus := 0x81 })] })

/-- A state of clause 9. -/
def atProgramCommands9 : State := { sPr 1 cns4 ({ programs := [(64, { prg with ctx := some 5 })], rangeSets := [(1, { nsid := 2, ranges := [(0, 64), (4096, 64)] })], contexts := [(5, ctxRec)] }) with acc := { cmds := [{ ioc 1 with phase := .fetched }], ctls := [(0, { ctl0 with cc := 0x460061, attached := [1, 2] })] } }

/-- A state of clause 10. -/
def atProgramCommands10 : State := { sPr 1 cns4 ({ programs := [(64, { prg with ctx := some 5 })], rangeSets := [(1, { nsid := 2, ranges := [(0, 64), (4096, 64)] })], contexts := [(5, ctxRec)], waiting := [{ ref := ⟨0, 1, 1⟩, nsid := 1, program := 0, rangeSet := 1, params := List.replicate 64 3 }] }) with acc := { cmds := [{ ioc 1 with phase := .fetched }], ctls := [(0, { ctl0 with cc := 0x460061, attached := [1, 2] })] } }

/-- A state of clause 11. -/
def atProgramCommands11 : State := { rgs := { execs := [(9, { ref := ⟨0, 1, 1⟩, ctx := 5, root := 15, start := 0, failed := 2, lastStatus := 0x81 })] } }

/-- A state of clause 12. -/
def atProgramCommands12 : State := { sPr 1 cns4 { execs := [(9, { ref := ⟨0, 1, 1⟩, ctx := 5, root := 15, start := 0, failed := 2, lastStatus := 0x81 })] } with tsc := 5 }

/-- Witnesses of ProgramCommands. -/
theorem meets_ProgramCommands :
    (∃ (s : State) (r : CmdRef) (c : Cmd) (n : Namespace) (i : Nat) (img : List Byte) (base : Nat), CmdRuns s r false 0x22 c ∧ OnSet s c 4 n ∧ i
      ≤ 63 ∧ Tab.get? s.rgs.programs (c.nsid * 64 + i) = none ∧ s.rgs.programs.length < 512 ∧ imageSound s img = true ∧ fitIn (codeSpans s)
      0x100000 0x180000 (codeRun img).2 (runAlign img (codeRun img).1) = some base) ∧
    (∃ (s : State) (r : CmdRef) (c : Cmd) (n : Namespace) (i : Nat) (img : List Byte), CmdRuns s r false 0x22 c ∧ OnSet s c 4 n ∧ i ≤ 63 ∧
      Tab.get? s.rgs.programs (c.nsid * 64 + i) = none ∧ imageSound s img = false) ∧
    (∃ (s : State) (r : CmdRef) (c : Cmd) (n : Namespace) (i : Nat) (p : Program) (ctx : Nat), CmdRuns s r false 0x22 c ∧ OnSet s c 4 n ∧ i ≤ 63
      ∧ Tab.get? s.rgs.programs (c.nsid * 64 + i) = some p ∧ p.ctx = some ctx) ∧
    (∃ (s : State) (r : CmdRef) (c : Cmd) (n : Namespace) (i : Nat) (ctx : Nat) (rec : List Byte) (p : Program) (a : Nat), CmdRuns s r false 0x23
      c ∧ OnSet s c 4 n ∧ i ≤ 63 ∧ Tab.get? s.rgs.programs (c.nsid * 64 + i) = some p ∧ p.ctx = none ∧ ctx < 4096 ∧ ctxState s ctx = 0 ∧ fitIn
      (dataSpans s) 0x180000 0x300000 (sharedRun p.image).2 (runAlign p.image (sharedRun p.image).1) = some a ∧ contextRefused s ctx (activeRecord
      r.ctl p a rec) = false) ∧
    (∃ (s : State) (r : CmdRef) (c : Cmd) (n : Namespace) (i : Nat) (ctx : Nat) (p : Program), CmdRuns s r false 0x23 c ∧ OnSet s c 4 n ∧ i ≤ 63
      ∧ Tab.get? s.rgs.programs (c.nsid * 64 + i) = some p ∧ p.ctx = none ∧ ctx < 4096 ∧ ctxState s ctx = 0 ∧ fitIn (dataSpans s) 0x180000
      0x300000 (sharedRun p.image).2 (runAlign p.image (sharedRun p.image).1) = none) ∧
    (∃ (s : State) (r : CmdRef) (c : Cmd) (n : Namespace) (i : Nat) (p : Program) (ctx : Nat), CmdRuns s r false 0x23 c ∧ OnSet s c 4 n ∧ i ≤ 63
      ∧ Tab.get? s.rgs.programs (c.nsid * 64 + i) = some p ∧ p.ctx = some ctx ∧ NoStopping s ∧ execsOf s ctx = []) ∧
    (∃ (s : State) (r : CmdRef) (c : Cmd) (n : Namespace) (i : Nat) (p : Program) (ctx : Nat), CmdRuns s r false 0x23 c ∧ OnSet s c 4 n ∧ i ≤ 63
      ∧ Tab.get? s.rgs.programs (c.nsid * 64 + i) = some p ∧ p.ctx = some ctx ∧ NoStopping s ∧ execsOf s ctx ≠ []) ∧
    (∃ (s : State) (r : CmdRef) (c : Cmd) (n : Namespace) (m : Namespace) (nsid : Nat) (ranges : List (Nat × Nat)), CmdRuns s r false 0x21 c ∧
      OnSet s c 4 n ∧ ranges ≠ [] ∧ ranges.length ≤ 16 ∧ nsOf s nsid = some m ∧ m.csi = 3 ∧ (∀ x ∈ ranges, x.2 ≠ 0 ∧ x.1 + x.2 ≤ m.nsze) ∧ nsid ∈
      (ctlOf s r.ctl).attached) ∧
    (∃ (s : State) (r : CmdRef) (c : Cmd) (n : Namespace) (rsid : Nat) (x : RangeSet), CmdRuns s r false 0x21 c ∧ OnSet s c 4 n ∧ Tab.get?
      s.rgs.rangeSets rsid = some x) ∧
    (∃ (s : State) (r : CmdRef) (c : Cmd) (n : Namespace) (i : Nat) (rsid : Nat) (params : List Byte) (ctx : Nat) (x : RangeSet) (m : Namespace),
      cmdOf s r = some c ∧ executes s c = true ∧ c.phase = .fetched ∧ c.cpl = none ∧ (∀ w ∈ s.rgs.waiting, w.ref ≠ r) ∧ OnSet s c 4 n ∧ execTarget
      s c.nsid i rsid = some (ctx, x, m) ∧ i ≤ 63 ∧ params.length ≤ 4096 ∧ params.length ≤ (x.ranges.headD (0, 0)).2 ∧ ctxSlotCount s ctx ≠ 0) ∧
    (∃ (s : State) (r : CmdRef) (c : Cmd) (w : ExecWait) (ctx : Nat) (x : RangeSet) (n : Namespace) (e : Nat) (slot : Nat) (u : State), awaitedOf
      s r = some c ∧ s.rgs.waiting.find? (fun w => w.ref == r) = some w ∧ sanitizing s = false ∧ mayStart s c = true ∧ headerRefusal s c = none ∧
      registrarRefuses s = false ∧ execTarget s w.nsid w.program w.rangeSet = some (ctx, x, n) ∧ freeExec s = some e ∧ autoSlot s ctx = some slot
      ∧ dramWrite 0 (n.slmBase + (x.ranges.headD (0, 0)).1) w.params (fetchParams r w.params (setAwaited r (fun c => { c with phase := .started })
      (unwait r s))) = (0, u)) ∧
    (∃ (s : State) (r : CmdRef) (c : Cmd) (w : ExecWait) (st : Completion), awaitedOf s r = some c ∧ s.rgs.waiting.find? (fun w => w.ref == r) =
      some w ∧ sanitizing s = false ∧ mayStart s c = true ∧ registrarRefuses s = false ∧ headerRefusal s c = some st) ∧
    (∃ (s : State) (e : Nat) (x : Execution), Tab.get? s.rgs.execs e = some x ∧ ticketsOf s e = [] ∧ movesOf s e = []) ∧
    (∃ (s : State) (e : Nat) (x : Execution) (c : Cmd), Tab.get? s.rgs.execs e = some x ∧ ticketsOf s e = [] ∧ movesOf s e = [] ∧ NoStopping s ∧
      cmdOf s x.ref = some c ∧ c.silent = false ∧ x.cancel = none) ∧
    (∃ (s : State) (r : CmdRef) (c : Cmd) (n : Namespace) (off : Nat) (len : Nat) (ans : DramAns) (u : State), (CmdRuns s r false 0x02 c ∧ OnSet
      s c 3 n ∧ nsSet s c.nsid = 3 ∧ len ≤ 262144 ∧ off + len ≤ n.nsze ∧ ans.code = 0 ∧ ans.bytes ≠ [] ∧ ctlUp u r.ctl = true) ∧ dramRead 0
      (n.slmBase + off) len (taken s r) = (ans, u)) ∧
    (∃ (s : State) (r : CmdRef) (c : Cmd) (n : Namespace) (off : Nat) (len : Nat), CmdRuns s r false 0x02 c ∧ OnSet s c 3 n ∧ nsSet s c.nsid = 3
      ∧ len ≤ 262144 ∧ n.nsze < off + len) ∧
    (∃ (s : State) (r : CmdRef) (c : Cmd) (n : Namespace) (off : Nat) (data : List Byte) (u : State), CmdRuns s r false 0x01 c ∧ OnSet s c 3 n ∧
      nsSet s c.nsid = 3 ∧ data.length ≤ 262144 ∧ off + data.length ≤ n.nsze ∧ dramWrite 0 (n.slmBase + off) data (taken s r) = (0, u)) ∧
    (∃ (s : State) (r : CmdRef) (c : Cmd) (n : Namespace) (off : Nat) (data : List Byte), CmdRuns s r false 0x01 c ∧ OnSet s c 3 n ∧ nsSet s
      c.nsid = 3 ∧ data.length ≤ 262144 ∧ n.nsze < off + data.length) :=
  ⟨
   ⟨sPr 34 (cns4) ({}), ⟨0, 1, 1⟩, ioc 34, cns4, 63, prog, 0x100000, by decide +kernel⟩,
   ⟨sPr 34 (cns4) ({}), ⟨0, 1, 1⟩, ioc 34, cns4, 0, prog.dropLast ++ [0], by decide +kernel⟩,
   ⟨sPr 34 (cns4) ({ programs := [(64 + 63, { prg with ctx := some 5, data := 0x180000 })] }), ⟨0, 1, 1⟩, ioc 34, cns4, 63,
     { prg with ctx := some 5, data := 0x180000 }, 5, by decide +kernel⟩,
   ⟨sPr 35 (cns4) ({ programs := [(64 + 63, prg)] }), ⟨0, 1, 1⟩, ioc 35, cns4, 63, 4095, ctxRec, prg, 0x180000, by decide +kernel⟩,
   ⟨atProgramCommands4, ⟨0, 1, 1⟩, ioc 35, cns4, 0, 1, { prg with image := overlay prog 128 [3, 2, 0, 0, 4, 0, 0x20] }, by decide +kernel⟩,
   ⟨sPr 35 (cns4) ({ programs := [(64 + 63, { prg with ctx := some 5, data := 0x180000 })] }), ⟨0, 1, 1⟩, ioc 35, cns4, 63,
     { prg with ctx := some 5, data := 0x180000 }, 5, by decide +kernel⟩,
   ⟨atProgramCommands6, ⟨0, 1, 1⟩, ioc 35, cns4, 63, { prg with ctx := some 5, data := 0x180000 }, 5, by decide +kernel⟩,
   ⟨sPr 33 (cns4) ({}), ⟨0, 1, 1⟩, ioc 33, cns4, cns3, 2, [(65535, 1)], by decide +kernel⟩,
   ⟨sPr 33 (cns4) ({ rangeSets := [(4, { nsid := 2, ranges := [(0, 64), (4096, 64)] })] }), ⟨0, 1, 1⟩, ioc 33, cns4, 4,
     { nsid := 2, ranges := [(0, 64), (4096, 64)] }, by decide +kernel⟩,
   ⟨atProgramCommands9, ⟨0, 1, 1⟩, { ioc 1 with phase := .fetched }, cns4, 0, 1, List.replicate 64 3, 5,
     { nsid := 2, ranges := [(0, 64), (4096, 64)] }, cns3, by decide +kernel⟩,
   ⟨atProgramCommands10, ⟨0, 1, 1⟩, { ioc 1 with phase := .fetched },
     { ref := ⟨0, 1, 1⟩, nsid := 1, program := 0, rangeSet := 1, params := List.replicate 64 3 }, 5, { nsid := 2, ranges := [(0, 64), (4096, 64)] },
     cns3, 1, 15, (dramWrite 0 ((cns3 : Namespace).slmBase + (({ nsid := 2, ranges := [(0, 64), (4096, 64)] } : RangeSet).ranges.headD (0, 0)).1)
     ({ ref := ⟨0, 1, 1⟩, nsid := 1, program := 0, rangeSet := 1, params := List.replicate 64 3 } : ExecWait).params (fetchParams (⟨0, 1, 1⟩ : CmdRef)
     ({ ref := ⟨0, 1, 1⟩, nsid := 1, program := 0, rangeSet := 1, params := List.replicate 64 3 } : ExecWait).params (setAwaited (⟨0, 1, 1⟩ : CmdRef)
     (fun c => { ({ ioc 1 with phase := .fetched } : Cmd) with phase := .started }) (unwait (⟨0, 1, 1⟩ : CmdRef) (atProgramCommands10 : State))))).2,
     by decide +kernel⟩,
   ⟨{ atProgramCommands10 with acc := { cmds := [{ ioc 1 with phase := .fetched, fuse := 1 }], ctls := [(0, { ctl0 with cc := 0x460061, attached := [1, 2] })] } },
     ⟨0, 1, 1⟩, { ioc 1 with phase := .fetched, fuse := 1 },
     { ref := ⟨0, 1, 1⟩, nsid := 1, program := 0, rangeSet := 1, params := List.replicate 64 3 }, stInvalidField, by decide +kernel⟩,
   ⟨atProgramCommands11, 9, { ref := ⟨0, 1, 1⟩, ctx := 5, root := 15, start := 0, failed := 2, lastStatus := 0x81 }, by decide +kernel⟩,
   ⟨atProgramCommands12, 9, { ref := ⟨0, 1, 1⟩, ctx := 5, root := 15, start := 0, failed := 2, lastStatus := 0x81 }, ioc 1, by decide +kernel⟩,
   ⟨sPr 2 (cns3) ({}), ⟨0, 1, 1⟩, ioc 2, cns3, 65472, 64, _, _, by decide +kernel, (Prod.eta _).symm⟩,
   ⟨sPr 2 (cns3) ({}), ⟨0, 1, 1⟩, ioc 2, cns3, 65473, 64, by decide +kernel⟩,
   ⟨sPr 1 (cns3) ({}), ⟨0, 1, 1⟩, ioc 1, cns3, 65472, List.replicate 64 5, (dramWrite 0 ((cns3 : Namespace).slmBase + 65472) (List.replicate 64 5 :
     List Byte) (taken (sPr 1 (cns3) ({}) : State) (⟨0, 1, 1⟩ : CmdRef))).2, by decide +kernel⟩,
   ⟨sPr 1 (cns3) ({}), ⟨0, 1, 1⟩, ioc 1, cns3, 65473, List.replicate 64 5, by decide +kernel⟩⟩

/-- A state of clause 6. -/
def atTicketCommands6 : State := { gals := [(0, { windows := [(1, { bound := some 15 })] })], rgs := { rgs1 with moves := [(15, mv 1)] }, dram := drams { state := 3, initDone := true } }

/-- A state of clause 7. -/
def atTicketCommands7 : State := { gals := [(0, { windows := [(1, { bound := some 15, ended := true })] })], rgs := { rgs1 with moves := [(15, mv 1)], tickets := [(4, tk 4 2 (.held 0) 0)] } }

/-- A state of clause 8. -/
def atTicketCommands8 : State := { rgs := { rgs1 with moves := [(15, { mv 2 with src := 0x100000 })], tickets := [(4, tk 4 2 (.held 0) 0)] }, dram := drams { state := 3, initDone := true } }

/-- A state of clause 12. -/
def atTicketCommands12 : State := { rgs := { rgs1 with tickets := [(4, tk (4 + 2 ^ 48) 0 (.ready 0) 0)], lists := [(0, [4])] }, mem := [(0x010000000010, 5)] }

/-- A state of clause 14. -/
def atTicketCommands14 : State := { gals := [(0, { cores := [(3, { serving := some 7, products := [⟨9, 1, 2⟩] })] })], rgs := { rgs1 with tickets := [(7, tk 0 0 (.inService 0 3) 9)], execs := [(9, { ref := ⟨0, 1, 1⟩, ctx := 5, root := 15, start := 0, failed := 2, lastStatus := 0x81 })] } }

/-- A state of clause 15. -/
def atTicketCommands15 : State := { gals := [(0, { cores := [(3, { serving := some 7, products := [⟨9, 1, 2⟩] })] })], rgs := { rgs1 with tickets := [(7, tk 0 0 (.inService 0 3) 9)], execs := [(9, { ref := ⟨0, 1, 1⟩, ctx := 5, root := 15, start := 0, failed := 2, lastStatus := 0x81 })] } }

/-- Witnesses of TicketCommands. -/
theorem meets_TicketCommands :
    (∃ (s : State) (c : CoreId) (desc : List Byte) (n : Nat), RegistrarServes s c ∧ nbits (leAt desc 0 8) 43 43 = 0 ∧ ticketReason s (submitterOf
      s c) desc = 0 ∧ nbits (leAt desc 0 8) 39 39 = 0 ∧ n = nbits (leAt desc 0 8) 17 0) ∧
    (∃ (s : State) (c : CoreId) (desc : List Byte) (n : Nat), RegistrarServes s c ∧ nbits (leAt desc 0 8) 43 43 = 0 ∧ ticketReason s (submitterOf
      s c) desc = 0 ∧ nbits (leAt desc 0 8) 39 39 = 1 ∧ autoSlot s (nbits (leAt desc 0 8) 31 20) = some n) ∧
    (∃ (s : State) (c : CoreId) (desc : List Byte), RegistrarServes s c ∧ nbits (leAt desc 0 8) 43 43 = 0 ∧ ticketReason s (submitterOf s c) desc
      ≠ 0) ∧
    (∃ (s : State), registrarRefuses s = true) ∧
    (∃ (s : State) (c : CoreId) (desc : List Byte) (n : Nat), RegistrarServes s c ∧ nbits (leAt desc 0 8) 43 43 = 1 ∧ moveReason s (submitterOf s
      c) desc = 0 ∧ autoSlot s (nbits (leAt desc 0 8) 31 20) = some n ∧ leAt desc 24 8 ≠ 0 ∧ (outMoves s (nbits (leAt desc 0 8) 35 32) true = [] →
      outMoves s (nbits (leAt desc 0 8) 35 32) false = [])) ∧
    (∃ (s : State) (c : CoreId) (desc : List Byte), RegistrarServes s c ∧ nbits (leAt desc 0 8) 43 43 = 1 ∧ moveReason s (submitterOf s c) desc ≠
      0) ∧
    (∃ (s : State) (g : Nat) (w : Nat) (n : Nat) (m : Move) (h : Nat) (ok : Bool) (bs : List Byte) (u : State) (len : Nat), (window s g w).bound
      = some n ∧ Tab.get? s.rgs.moves n = some m ∧ nextHalf (window s g w) = some h ∧ (window s g w).ended = false ∧ m.stopped = false ∧
      islandRefuses s (.gallery g) = false ∧ len = min (32768 / m.recLen * m.recLen) (m.length - m.delivered) ∧ ((m.kind = 0 ∧ streamNs g w m.nsid
      (m.src + m.delivered) len s = (some (ok, bs), u)) ∨ (m.kind ≠ 0 ∧ streamSlm (addrMask (ctxSlmBase s m.ctx + m.src + m.delivered)) len s =
      some (ok, bs, u)))) ∧
    (∃ (s : State) (g : Nat) (w : Nat) (n : Nat) (m : Move) (h : Nat) (ns : Namespace) (e : Nat) (ch : Nat) (x : ChanDesc), (window s g w).bound
      = some n ∧ Tab.get? s.rgs.moves n = some m ∧ nextHalf (window s g w) = some h ∧ (window s g w).ended = false ∧ m.stopped = false ∧
      islandRefuses s (.gallery g) = false ∧ m.kind = 0 ∧ StreamNeeds s g w m ns e ∧ ch = psaChannel (entryPsa e) ∧ x =
      { op := 1, cls := 0, flags := if (variant s).crypto then 4 else 0, count := entrySlots e, psa := entryPsa e, keyWord := if (variant s).crypto then ns.keySlot else 0, tag := gmuOf ns (streamFirst m) % 2 ^ 32 }
      ∧ (submitCheck ch x s).1 = none ∧ (chan s ch).lost = false) ∧
    (∃ (s : State) (g : Nat) (w : Nat) (n : Nat) (m : Move), (window s g w).bound = some n ∧ (window s g w).ended = true ∧ (window s g
      w).half0.filled = false ∧ (window s g w).half1.filled = false ∧ Tab.get? s.rgs.moves n = some m ∧ m.kind ≠ 2) ∧
    (∃ (s : State) (n : Nat) (m : Move) (u : State), Tab.get? s.rgs.moves n = some m ∧ m.kind = 2 ∧ m.started = true ∧ dramWrite 0 (addrMask
      (ctxSlmBase s m.ctx + m.dst)) (readMem s (galleryShareBase m.gallery + (m.src - 0x100000)) m.length) s = (0, u)) ∧
    (∃ (s : State) (n : Nat) (m : Move), Tab.get? s.rgs.moves n = some m ∧ m.kind = 2 ∧ m.started = false) ∧
    (∃ (s : State) (n : Nat) (tk : Ticket) (a : Nat), Tab.get? s.rgs.tickets n = some tk ∧ tk.state = .held a ∧ a + 1 < leAt tk.desc 8 4) ∧
    (∃ (s : State) (n : Nat) (v : BitVec 64) (tk : Ticket) (a : Nat), Tab.get? s.rgs.tickets n = some tk ∧ tk.state = .held a ∧ leAt tk.desc 8 4
      ≤ a + 1 ∧ ({ tk with desc := overlay tk.desc 56 (leBytes 8 v.toNat) } : Ticket).flow = none) ∧
    (∃ (s : State) (n : Nat), (∀ tk a, Tab.get? s.rgs.tickets n = some tk → tk.state ≠ .held a)) ∧
    (∃ (s : State) (p : Nat) (set : Nat) (n : Nat) (tk : Ticket) (g : Nat) (k : Nat), registrarRefuses s = false ∧ nextDispatch s = some (p, set,
      n) ∧ Tab.get? s.rgs.tickets n = some tk ∧ chooseCore s tk = some (g, k)) ∧
    (∃ (s : State), nextDispatch s = none) ∧
    (∃ (s : State) (g : Nat) (k : Nat) (w : Fields) (n : Nat) (tk : Ticket), Runs s (.docent g k) 0x2F {} w ∧ w.disp.toNat < 0xFF ∧ ServesQuietly
      s g k n tk) ∧
    (∃ (s : State) (g : Nat) (k : Nat) (v : Nat) (n : Nat) (tk : Ticket), v < 0xFF ∧ ServesQuietly s g k n tk) :=
  ⟨
   ⟨{ rgs := rgs1 }, .keeper 0, padTo 64 (leBytes 8 (15 + 2 ^ 42 + 1 * 2 ^ 48) ++ leBytes 8 (1)), 15, by decide +kernel⟩,
   ⟨{ rgs := { rgs1 with tickets := [(15, tk 4 2 (.held 0) 0)] } }, .keeper 0, padTo 64 (leBytes 8 (2 ^ 39 + 1 * 2 ^ 48) ++ leBytes 8 (0)), 14,
     by decide +kernel⟩,
   ⟨{ rgs := rgs1 }, .keeper 0, padTo 64 (leBytes 8 (16 + 1 * 2 ^ 48) ++ leBytes 8 (0)), by decide +kernel⟩,
   ⟨{ fab := { pages := [(232, { enable := false })] } }, by decide +kernel⟩,
   ⟨{ rgs := rgs1 }, .keeper 0, padTo 64 (leBytes 8 (4 + 2 ^ 18 + 1 * 2 ^ 36 + 1 * 2 ^ 40 + 2 ^ 43 + 16 * 2 ^ 48 + 0) ++ zeros 8 ++ leBytes 8 0 ++
     leBytes 8 64), 15, by decide +kernel⟩,
   ⟨{ rgs := rgs1 }, .keeper 0, padTo 64 (leBytes 8 (4 + 2 ^ 18 + 1 * 2 ^ 36 + 3 * 2 ^ 40 + 2 ^ 43 + 16 * 2 ^ 48 + 0) ++ zeros 8 ++ leBytes 8 0 ++
     leBytes 8 64), by decide +kernel⟩,
   ⟨atTicketCommands6, 0, 1, 15, mv 1, 0, (((streamSlm (addrMask (ctxSlmBase (atTicketCommands6 : State) (mv 1 : Move).ctx + (mv 1 : Move).src + (mv
     1 : Move).delivered)) 64 (atTicketCommands6 : State))).getD (true, [], (atTicketCommands6 : State))).1, (((streamSlm (addrMask (ctxSlmBase
     (atTicketCommands6 : State) (mv 1 : Move).ctx + (mv 1 : Move).src + (mv 1 : Move).delivered)) 64 (atTicketCommands6 : State))).getD (true, [],
     (atTicketCommands6 : State))).2.1, (((streamSlm (addrMask (ctxSlmBase (atTicketCommands6 : State) (mv 1 : Move).ctx + (mv 1 : Move).src + (mv 1 :
     Move).delivered)) 64 (atTicketCommands6 : State))).getD (true, [], (atTicketCommands6 : State))).2.2, 64, by decide +kernel⟩,
   ⟨{ setEntryRaw 0 (mkEntry true 3 1 128) { gals := [(0, { windows := [(1, { bound := some 15 })] })], rgs := { rgs1 with moves := [(15, { mv 0 with nsid := 1 })] } } with adm := { namespaces := [(1, ns1)] }, cur := { mediaReady := true }, sec := { armed := true, slots := [(0, { kind := 1, len := 64, key := [] })] }, flash := fl ch0 },
     0, 1, 15, { mv 0 with nsid := 1 }, 0, ns1, mkEntry true 3 1 128, 0,
     { op := 1, cls := 0, flags := 4, count := 4, psa := 128, keyWord := 0, tag := 0 }, by decide +kernel⟩,
   ⟨atTicketCommands7, 0, 1, 15, mv 1, by decide +kernel⟩,
   ⟨atTicketCommands8, 15, { mv 2 with src := 0x100000 }, (dramWrite 0 (addrMask (ctxSlmBase (atTicketCommands8 : State)
     ({ mv 2 with src := 0x100000 } : Move).ctx + ({ mv 2 with src := 0x100000 } : Move).dst)) (readMem (atTicketCommands8 : State) (galleryShareBase
     ({ mv 2 with src := 0x100000 } : Move).gallery + (({ mv 2 with src := 0x100000 } : Move).src - 0x100000)) ({ mv 2 with src := 0x100000 } :
     Move).length) (atTicketCommands8 : State)).2, by decide +kernel⟩,
   ⟨{ rgs := { rgs1 with moves := [(15, { mv 2 with started := false })] } }, 15, { mv 2 with started := false }, by decide +kernel⟩,
   ⟨{ rgs := { rgs1 with tickets := [(4, tk 4 2 (.held 0) 0)] } }, 4, tk 4 2 (.held 0) 0, 0, by decide +kernel⟩,
   ⟨{ rgs := { rgs1 with tickets := [(4, tk 4 2 (.held 1) 0)] } }, 4, 5, tk 4 2 (.held 1) 0, 1, by decide +kernel⟩,
   ⟨{ rgs := { rgs1 with tickets := [(4, tk 4 2 (.ready 1) 0)] } }, 4, by intro tk a h; have h := Option.some.inj h; subst h; intro h; cases h⟩,
   ⟨atTicketCommands12, 0, 0, 4, tk (4 + 2 ^ 48) 0 (.ready 0) 0, ((chooseCore (atTicketCommands12 : State) ((tk (4 + 2 ^ 48) 0 (.ready 0) 0 :
     Ticket))).getD (99, 99)).1, ((chooseCore (atTicketCommands12 : State) ((tk (4 + 2 ^ 48) 0 (.ready 0) 0 : Ticket))).getD (99, 99)).2,
     by decide +kernel⟩,
   ⟨{}, by decide +kernel⟩,
   ⟨atTicketCommands14, 0, 3, ⟨0, 0, 0, 0x80⟩, 7, tk 0 0 (.inService 0 3) 9, by decide +kernel⟩,
   ⟨atTicketCommands15, 0, 3, 0xFE, 7, tk 0 0 (.inService 0 3) 9, by decide +kernel⟩⟩

/-- A state of clause 1. -/
def atRegistrarCommands1 : State := { rgs := { rgs1 with tickets := [(4, tk 4 1 (.delayed 2 1) 0)], delays := [(2, { ticks := 1, total := 1 })] } }

/-- A state of clause 3. -/
def atRegistrarCommands3 : State := { gals := [(0, { cores := [(3, { serving := some 4, pc := 0x100004 })] })], rgs := { rgs1 with tickets := [(4, tk 4 0 (.inService 0 3) 0)] } }

/-- A state of clause 4. -/
def atRegistrarCommands4 : State := { gals := [(0, { cores := [(3, { serving := some 4, pc := 0x100004, stopAt := some 7 })] })], rgs := { rgs1 with tickets := [(4, tk 4 0 (.inService 0 3) 0)] } }

/-- Witnesses of RegistrarCommands. -/
theorem meets_RegistrarCommands :
    (∃ (s : State) (i : Nat), regField s 235 (0x40 + 4 * i) 19 0 ≠ 0) ∧
    (∃ (s : State) (i : Nat) (n : Nat) (tk : Ticket), expiredOn s i = [n] ∧ Tab.get? s.rgs.tickets n = some tk ∧ tk.flow = none) ∧
    (∃ (s : State) (i : Nat), expiredOn s i = []) ∧
    (∃ (s : State) (n : Nat) (tk : Ticket) (g : Nat) (k : Nat), Tab.get? s.rgs.tickets n = some tk ∧ tk.state = .inService g k ∧ (getCore s
      (.docent g k)).stopAt = none) ∧
    (∃ (s : State) (g : Nat) (k : Nat) (a : Nat) (n : Nat) (tk : Ticket), (getCore s (.docent g k)).stopAt = some a ∧ (getCore s (.docent g
      k)).serving = some n ∧ Tab.get? s.rgs.tickets n = some tk ∧ heldHalves s g k = [] ∧ nbits tk.w1 45 44 = 0) ∧
    (∃ (s : State) (g : Nat) (k : Nat), coreFenced s (.docent g k) = true) ∧
    (∃ (s : State) (g : Nat) (k : Nat), coreFenced s (.docent g k) = false) ∧
    (∃ (s : State) (e : Nat) (x : Execution), Tab.get? s.rgs.execs e = some x ∧ x.cancel = none ∧ ctxRunLimit s x.ctx ≠ 0) ∧
    (∃ (s : State) (e : Nat) (x : Execution), Tab.get? s.rgs.execs e = some x ∧ ctxRunLimit s x.ctx = 0) ∧
    (∃ (s : State) (who : Requester) (v : Word) (x : Execution), MayWrite s who 232 0x64 ∧ bit v 31 = true ∧ bits v 12 0 ≠ 0 ∧ Tab.get?
      s.rgs.execs (bits v 12 0) = some x ∧ x.cancel = none) ∧
    (∃ (s : State) (who : Requester) (v : Word), MayWrite s who 232 0x64 ∧ bit v 31 = true ∧ (bits v 12 0 = 0 ∨ Tab.get? s.rgs.execs (bits v 12
      0) = none)) ∧
    (∃ (s : State) (who : Requester) (v : Word), MayWrite s who 232 0x68 ∧ bit v 31 = true ∧ slotWaits s (bits v 17 0) = true) ∧
    (∃ (s : State) (who : Requester) (v : Word), MayWrite s who 232 0x68 ∧ bit v 31 = true ∧ slotWaits s (bits v 17 0) = false) ∧
    (∃ (s : State) (who : Requester) (rec : List Byte), MayWrite s who 233 0x44 ∧ rec = (upTo 32).flatMap (fun k => leBytes 4 (getReg s 233 (0x80
      + 4 * k)).toNat) ∧ contextRefused s (regField s 233 0x40 11 0) rec = false) ∧
    (∃ (s : State) (who : Requester) (rec : List Byte), MayWrite s who 233 0x44 ∧ rec = (upTo 32).flatMap (fun k => leBytes 4 (getReg s 233 (0x80
      + 4 * k)).toNat) ∧ contextRefused s (regField s 233 0x40 11 0) rec = true) ∧
    (∃ (s : State) (who : Requester), MayWrite s who 233 0x44) ∧
    (∃ (s : State) (who : Requester) (i : Nat) (v : Word), MayWrite s who 235 (0x40 + 4 * i) ∧ delayedOn s i = [] ∧ (bits v 19 0 = 0 ∨ (50 ≤ bits
      v 19 0 ∧ bits v 19 0 ≤ 1000000))) ∧
    (∃ (s : State) (who : Requester) (i : Nat) (v : Word), MayWrite s who 235 (0x40 + 4 * i) ∧ (delayedOn s i ≠ [] ∨ (bits v 19 0 ≠ 0 ∧ bits v 19
      0 < 50) ∨ 1000000 < bits v 19 0)) :=
  ⟨
   ⟨{ fab := { regs := [(235 * 4096 + 0x48, 50)] } }, 2, by decide +kernel⟩,
   ⟨atRegistrarCommands1, 2, 4, tk 4 1 (.delayed 2 1) 0, by decide +kernel⟩,
   ⟨{}, 2, by decide +kernel⟩,
   ⟨atRegistrarCommands3, 4, tk 4 0 (.inService 0 3) 0, 0, 3, by decide +kernel⟩,
   ⟨atRegistrarCommands4, 0, 3, 7, 4, tk 4 0 (.inService 0 3) 0, by decide +kernel⟩,
   ⟨{ gals := [(0, { fenced := [3] })] }, 0, 3, by decide +kernel⟩,
   ⟨{}, 0, 3, by decide +kernel⟩,
   ⟨{ rgs := { rgs1 with execs := [(1, { ref := ⟨0, 1, 1⟩, ctx := 0, root := 15, start := 0 })] } }, 1,
     { ref := ⟨0, 1, 1⟩, ctx := 0, root := 15, start := 0 }, by decide +kernel⟩,
   ⟨{ rgs := { execs := [(1, { ref := ⟨0, 1, 1⟩, ctx := 0, root := 15, start := 0 })] } }, 1,
     { ref := ⟨0, 1, 1⟩, ctx := 0, root := 15, start := 0 }, by decide +kernel⟩,
   ⟨{ rgs := { rgs1 with execs := [(8191, { ref := ⟨0, 1, 1⟩, ctx := 0, root := 15, start := 0 })] } }, .keeper 0, 0x80001FFF,
     { ref := ⟨0, 1, 1⟩, ctx := 0, root := 15, start := 0 }, by decide +kernel⟩,
   ⟨{}, .keeper 0, 0x80000000, by decide +kernel⟩,
   ⟨{ rgs := { rgs1 with tickets := [(4, tk 4 2 (.held 0) 0)] } }, .keeper 0, 0x80000004, by decide +kernel⟩,
   ⟨{}, .keeper 0, 0x80000004, by decide +kernel⟩,
   ⟨{ fab := { regs := [(233 * 4096 + 0x40, 5), (233 * 4096 + 0x90, 100), (233 * 4096 + 0xA4, 1)] } }, .keeper 0, (upTo 32).flatMap (fun k =>
     leBytes 4 (getReg ({ fab := { regs := [(233 * 4096 + 0x40, 5), (233 * 4096 + 0x90, 100), (233 * 4096 + 0xA4, 1)] } } : State) 233 (0x80 + 4 *
     k)).toNat), by decide +kernel⟩,
   ⟨{}, .keeper 0, (upTo 32).flatMap (fun k => leBytes 4 (getReg ({} : State) 233 (0x80 + 4 * k)).toNat), by decide +kernel⟩,
   ⟨{ rgs := rgs1 }, .keeper 0, by decide +kernel⟩,
   ⟨{}, .keeper 0, 15, 1000000, by decide +kernel⟩,
   ⟨{}, .keeper 0, 15, 1000001, by decide +kernel⟩⟩

/-- A state of clause 2. -/
def atSecurityCommands2 : State := { sec := { armed := true, slots := [(1024, { kind := 2, len := 16, key := List.replicate 16 7 })] } }

/-- A state of clause 11. -/
def atSecurityCommands11 : State := { sec := { armed := true, owner := 3, slots := [(1024, { kind := 2, len := 16, key := List.replicate 16 7 })] }, mem := kmem (List.replicate 16 9), fab := { regs := [(248 * 4096 + 0x4C, 16), (248 * 4096 + 0x60, 0x01000000), (248 * 4096 + 0x64, 0x110), (248 * 4096 + 0x68, 0x01001000), (248 * 4096 + 0x6C, 0x110)] } }

/-- A state of clause 17. -/
def atSecurityCommands17 : State := { sec := { armed := true, dge1 := { mode := 1, chain := sha256.init, busy := true, wordMode := true, last := false } }, mem := [], fab := { regs := [(249 * 4096 + 0x98, 0x01000000), (249 * 4096 + 0x9C, 0x110), (249 * 4096 + 0xA4, 3)] } }

/-- A state of clause 18. -/
def atSecurityCommands18 : State := { sec := { armed := true, dge1 := { mode := 1, chain := sha256.init, busy := false, wordMode := false, last := false } }, mem := [], fab := { regs := [(249 * 4096 + 0x98, 0x01000000), (249 * 4096 + 0x9C, 0x110), (249 * 4096 + 0xA4, 3)] } }

/-- A state of clause 19. -/
def atSecurityCommands19 : State := { sec := { armed := true, dge1 := { mode := 0, chain := sha256.init, busy := false, wordMode := false, last := false } }, mem := kmem (ascii "QDGS" ++ [1, 0, 3, 0, 67] ++ zeros 23 ++ zeros 128 ++ [97, 98, 99] ++ zeros 157), fab := { regs := [(249 * 4096 + 0x98, 0x01000000), (249 * 4096 + 0x9C, 0x110), (249 * 4096 + 0xA4, 3)] } }

/-- A state of clause 21. -/
def atSecurityCommands21 : State := { sec := { armed := true, dge1 := { mode := 1, chain := sha256.init, busy := true, wordMode := false, last := true, input := [97, 98, 99] } }, mem := [], fab := { regs := [(249 * 4096 + 0x98, 0x01000000), (249 * 4096 + 0x9C, 0x110), (249 * 4096 + 0xA4, 3)] } }

/-- A state of clause 22. -/
def atSecurityCommands22 : State := { sec := { armed := true, dge1 := { mode := 1, chain := sha256.init, busy := true, wordMode := true, last := false } }, mem := [], fab := { regs := [(249 * 4096 + 0x98, 0x01000000), (249 * 4096 + 0x9C, 0x110), (249 * 4096 + 0xA4, 3)] } }

/-- A state of clause 23. -/
def atSecurityCommands23 : State := { sec := { armed := true, dge1 := { mode := 1, chain := sha256.init, busy := true, wordMode := true, last := true } }, mem := [], fab := { regs := [(249 * 4096 + 0x98, 0x01000000), (249 * 4096 + 0x9C, 0x110), (249 * 4096 + 0xA4, 3)] } }

/-- A state of clause 28. -/
def atSecurityCommands28 : State := { sec := { armed := true, owner := 3, slots := [(1024, { kind := 2, len := 16, key := List.replicate 16 7 })] } }

/-- Witnesses of SecurityCommands. -/
theorem meets_SecurityCommands :
    (∃ (s : State) (who : Requester) (cls : Nat) (kind : Nat) (len : Nat) (slot : Nat), MayWrite s who 250 0x40 ∧ cls ≤ 1 ∧ slotOutOfRange cls
      slot = false ∧ s.sec.armed = true ∧ (cls = 1 → slotInUse s slot = false) ∧ kindLenOk cls kind len = true ∧ equalHalves kind (drawRandom s
      len).1 = false) ∧
    (∃ (s : State) (who : Requester) (cls : Nat) (slot : Nat), MayWrite s who 250 0x40 ∧ cls ≤ 1 ∧ slotOutOfRange cls slot = false ∧ s.sec.armed
      = true ∧ (cls = 1 → slotInUse s slot = false)) ∧
    (∃ (s : State) (who : Requester) (cls : Nat) (slot : Nat), MayWrite s who 250 0x40 ∧ cls ≤ 1 ∧ slotOutOfRange cls slot = false ∧ s.sec.armed
      = true ∧ (cls = 1 → slotInUse s slot = false)) ∧
    (∃ (s : State) (who : Requester) (slot : Nat), MayWrite s who 250 0x40 ∧ slot ≤ 63 ∧ s.sec.armed = true ∧ slotInUse s slot = true) ∧
    (∃ (s : State) (who : Requester) (cls : Nat) (slot : Nat), MayWrite s who 250 0x40 ∧ cls ≤ 1 ∧ slotOutOfRange cls slot = false ∧ s.sec.armed
      = true) ∧
    (∃ (s : State) (who : Requester) (cls : Nat) (slot : Nat), MayWrite s who 250 0x40 ∧ cls ≤ 1 ∧ slotOutOfRange cls slot = false ∧ s.sec.armed
      = false) ∧
    (∃ (s : State) (k : Nat), MayWrite s (.keeper k) 248 0x40) ∧
    (∃ (s : State) (k : Nat), MayWrite s (.keeper k) 248 0x40 ∧ s.sec.owner = k) ∧
    (∃ (s : State) (k : Nat), MayWrite s (.keeper k) 248 0x40 ∧ s.sec.owner ≠ k) ∧
    (∃ (s : State) (who : Requester) (v : Word), MayWrite s who 248 0x54 ∧ bits v 31 16 = 0xF0CE ∧ bit v 0 = true) ∧
    (∃ (s : State) (who : Requester) (v : Word), MayWrite s who 248 0x54 ∧ (bits v 31 16 ≠ 0xF0CE ∨ bit v 0 = false)) ∧
    (∃ (s : State) (k : Nat) (v : Word) (key : KeySlot) (rd : DramAns) (u : State), (MayWrite s (.keeper k) 248 0x44 ∧ s.sec.owner = k ∧
      s.sec.msg = none ∧ (hdr s 249).quiesceReq = false ∧ 1 ≤ bits v 27 24 ∧ bits v 27 24 ≤ 3 ∧ (getReg s 248 0x4C).toNat ≠ 0 ∧ sceSlot s (bits v
      5 0) = some key ∧ sceCheck (bits v 27 24) (bits v 5 0) (bit v 23) (bit v 22) (getReg s 248 0x4C).toNat (getReg s 248 0x50).toNat (regAddr s
      248 0x60) (regAddr s 248 0x68) (if bit v 22 then 1 else ofBe ((regBlock s 248 0x80).drop 12)) s = 0 ∧ rd.code = 0) ∧ busRead (regAddr s 248
      0x60) (getReg s 248 0x4C).toNat (putReg 248 0x44 (v &&& sceCtrlBits) s) = (rd, u)) ∧
    (∃ (s : State) (k : Nat), MayWrite s (.keeper k) 248 0x44 ∧ s.sec.owner ≠ k) ∧
    (∃ (s : State) (k : Nat), MayWrite s (.keeper k) 248 0x44 ∧ s.sec.owner = k ∧ s.sec.msg ≠ none) ∧
    (∃ (s : State) (m : SceMsg) (u : State), s.sec.msg = some m ∧ m.status = 0 ∧ m.bytes ≠ [] ∧ busWrite m.dst m.bytes s = (0, u)) ∧
    (∃ (s : State) (m : SceMsg), s.sec.msg = some m ∧ m.status ≠ 0) ∧
    (∃ (s : State) (who : Requester) (e : Nat) (v : Word), e < 2 ∧ MayWrite s who 249 (dgeBase e) ∧ (dge s e).busy = false ∧ (hdr s
      249).quiesceReq = false ∧ 1 ≤ bits v 27 24 ∧ bits v 27 24 ≤ 3 ∧ bit v 23 = true ∧ bit v 21 = true) ∧
    (∃ (s : State) (who : Requester) (e : Nat), e < 2 ∧ MayWrite s who 249 (dgeBase e) ∧ (dge s e).busy = true ∧ (hdr s 249).quiesceReq = false) ∧
    (∃ (s : State) (who : Requester) (e : Nat) (u : State), e < 2 ∧ MayWrite s who 249 (dgeBase e) ∧ (dge s e).busy = false ∧ (dge s e).mode ≠ 0
      ∧ (dge s e).mode < 5 ∧ regAddr s 249 (dgeBase e + 0x18) % 64 = 0 ∧ busWrite (regAddr s 249 (dgeBase e + 0x18)) (dgeRecordHead (dge s e) []
      ++ zeros 16) s = (0, u)) ∧
    (∃ (s : State) (who : Requester) (e : Nat) (r : DramAns) (u : State), (e < 2 ∧ MayWrite s who 249 (dgeBase e) ∧ (dge s e).busy = false ∧
      regAddr s 249 (dgeBase e + 0x18) % 64 = 0 ∧ r.code = 0 ∧ sliceBytes r.bytes 0 4 = ascii "QDGS" ∧ 1 ≤ leAt r.bytes 4 1 ∧ leAt r.bytes 4 1 ≤ 3
      ∧ leAt r.bytes 5 1 % 2 = 0) ∧ busRead (regAddr s 249 (dgeBase e + 0x18)) 320 s = (r, u)) ∧
    (∃ (s : State) (who : Requester) (e : Nat), e < 2 ∧ MayWrite s who 249 (dgeBase e) ∧ regAddr s 249 (dgeBase e + 0x18) % 64 ≠ 0) ∧
    (∃ (s : State) (e : Nat), e < 2 ∧ (dge s e).busy = true ∧ (dge s e).wordMode = false) ∧
    (∃ (s : State) (who : Requester) (e : Nat), e < 2 ∧ MayWrite s who 249 (dgeBase e + 0x20) ∧ (dge s e).busy = true ∧ (dge s e).wordMode = true) ∧
    (∃ (s : State) (who : Requester) (e : Nat), e < 2 ∧ MayWrite s who 249 (dgeBase e + 0x28) ∧ (dge s e).busy = true ∧ (dge s e).wordMode = true
      ∧ (dge s e).last = true) ∧
    (∃ (s : State) (who : Requester) (v : Word), MayWrite s who 251 0xD0 ∧ (∃ j, j < 4 ∧ bit v j = false ∧ j ∉ s.fuses.revoked)) ∧
    (∃ (s : State) (who : Requester) (v : Word), MayWrite s who 251 0xD0 ∧ (∀ j, j < 4 → bit v j = true ∨ j ∈ s.fuses.revoked)) ∧
    (∃ (s : State) (who : Requester) (v : Word), MayWrite s who 250 0x58 ∧ s.fuses.rollback ≤ bits v 5 0) ∧
    (∃ (s : State) (who : Requester) (v : Word), MayWrite s who 250 0x58 ∧ bits v 5 0 < s.fuses.rollback) ∧
    (∃ (s : State), s.sec.msg = none ∧ (∀ c ∈ s.flash.chans, ∀ o ∈ c.2.queue, o.desc.xts = false) ∧ Settled s) ∧
    (∃ (s : State) (who : Requester), MayWrite s who 2 0x48 ∧ s.sec.live = [] ∧ s.sec.count < 8 ∧ s.sec.fuseAlarm = false) ∧
    (∃ (s : State) (who : Requester), MayWrite s who 2 0x48 ∧ s.sec.live = [] ∧ 8 ≤ s.sec.count) :=
  ⟨
   ⟨{ sec := { armed := true } }, .keeper 0, 1, 2, 32, 63, by decide +kernel⟩,
   ⟨atSecurityCommands2, .keeper 0, 1, 0, by decide +kernel⟩,
   ⟨atSecurityCommands2, .keeper 0, 1, 0, by decide +kernel⟩,
   ⟨{ sec := { armed := true, msg := some ⟨63, 0, ksh, [1, 2], [], []⟩ } }, .keeper 0, 63, by decide +kernel⟩,
   ⟨{ sec := { armed := true } }, .keeper 0, 0, 1023, by decide +kernel⟩,
   ⟨{}, .keeper 0, 1, 63, by decide +kernel⟩,
   ⟨{}, 15, by decide +kernel⟩,
   ⟨{ sec := { armed := true, owner := 15, msg := some ⟨63, 0, ksh, [1, 2], [], []⟩ } }, 15, by decide +kernel⟩,
   ⟨{ sec := { armed := true, owner := 15 } }, 14, by decide +kernel⟩,
   ⟨{ sec := { armed := true, owner := 15 } }, .keeper 0, 0xF0CE0001, by decide +kernel⟩,
   ⟨{}, .keeper 0, 0xF0CE0000, by decide +kernel⟩,
   ⟨atSecurityCommands11, 3, 0x01000000, { kind := 2, len := 16, key := List.replicate 16 7 }, _, _, by decide +kernel, (Prod.eta _).symm⟩,
   ⟨{}, 3, by decide +kernel⟩,
   ⟨{ sec := { armed := true, owner := 3, msg := some ⟨63, 0, ksh, [1, 2], [], []⟩ } }, 3, by decide +kernel⟩,
   ⟨{ sec := { armed := true, owner := 3, msg := some ⟨63, 0, ksh, [1, 2], [], []⟩ } }, ⟨63, 0, ksh, [1, 2], [], []⟩, (busWrite (⟨63, 0, ksh, [1,
     2], [], []⟩ : SceMsg).dst (⟨63, 0, ksh, [1, 2], [], []⟩ : SceMsg).bytes
     ({ sec := { armed := true, owner := 3, msg := some ⟨63, 0, ksh, [1, 2], [], []⟩ } } : State)).2, by decide +kernel⟩,
   ⟨{ sec := { msg := some ⟨63, 0x17, ksh, [], [], []⟩ } }, ⟨63, 0x17, ksh, [], [], []⟩, by decide +kernel⟩,
   ⟨{}, .keeper 0, 1, 0x01A00000, by decide +kernel⟩,
   ⟨atSecurityCommands17, .keeper 0, 1, by decide +kernel⟩,
   ⟨atSecurityCommands18, .keeper 0, 1, (busWrite (regAddr (atSecurityCommands18 : State) 249 (dgeBase 1 + 0x18)) (dgeRecordHead (dge
     (atSecurityCommands18 : State) 1) [] ++ zeros 16) (atSecurityCommands18 : State)).2, by decide +kernel⟩,
   ⟨atSecurityCommands19, .keeper 0, 1, _, _, by decide +kernel, (Prod.eta _).symm⟩,
   ⟨{ fab := { regs := [(249 * 4096 + 0x58, 32)] } }, .keeper 0, 0, by decide +kernel⟩,
   ⟨atSecurityCommands21, 1, by decide +kernel⟩,
   ⟨atSecurityCommands22, .keeper 0, 1, by decide +kernel⟩,
   ⟨atSecurityCommands23, .keeper 0, 1, by decide +kernel⟩,
   ⟨{}, .keeper 0, 0xFFFFFFFE, by decide +kernel⟩,
   ⟨{ fuses := { revoked := [3] } }, .keeper 0, 7, by decide +kernel⟩,
   ⟨{}, .keeper 0, 63, by decide +kernel⟩,
   ⟨{ fuses := { rollback := 63 } }, .keeper 0, 62, by decide +kernel⟩,
   ⟨atSecurityCommands28, by decide +kernel⟩,
   ⟨{ sec := { latched := [5], count := 7 } }, .keeper 0, by decide +kernel⟩,
   ⟨{ sec := { latched := [5], count := 8 } }, .keeper 0, by decide +kernel⟩⟩

/-- Witnesses of FencedPostIsDropped. -/
theorem meets_FencedPostIsDropped :
    ∃ (s : State) (c : CoreId), coreFenced s c = true :=
  ⟨{ gals := [(0, { fenced := [3] })] }, .docent 0 3, by decide +kernel⟩

/-- A state of clause 4. -/
def atMailboxAndCounterCommands4 : State := { mbx := [(511, { word := 5, stamp := CoreId.stamp (.docent 15 3), since := 7 })], fab := { regs := [(mbxPage 511 * 4096 + mbxBase 511, 0xFFFF)] } }

/-- Witnesses of MailboxAndCounterCommands. -/
theorem meets_MailboxAndCounterCommands :
    (∃ (s : State) (c : CoreId) (n : Nat), coreFenced s c = false ∧ Tab.get? s.mbx n = none ∧ ringsOfChannel s n = []) ∧
    (∃ (s : State) (c : CoreId) (n : Nat) (m : Mailbox), coreFenced s c = false ∧ Tab.get? s.mbx n = some m ∧ ringsOfChannel s n = []) ∧
    (∃ (s : State) (c : CoreId) (n : Nat) (m : Mailbox), coreFenced s c = false ∧ Tab.get? s.mbx n = some m) ∧
    (∃ (s : State) (c : CoreId) (n : Nat), coreFenced s c = false ∧ Tab.get? s.mbx n = none) ∧
    (∃ (s : State) (n : Nat) (m : Mailbox), Tab.get? s.mbx n = some m ∧ m.timedOut = false ∧ bits (mbxCfg s n) 15 0 ≠ 0) ∧
    (∃ (s : State) (n : Nat), bits (mbxCfg s n) 15 0 = 0) ∧
    (∃ (s : State) (c : CoreId) (n : Nat) (m : Mailbox), coreFenced s c = false ∧ Tab.get? s.mbx n = some m ∧ m.stamp = c.stamp) ∧
    (∃ (s : State) (c : CoreId) (n : Nat), coreFenced s c = false ∧ (∀ m, Tab.get? s.mbx n = some m → m.stamp ≠ c.stamp)) ∧
    (∃ (s : State) (g : Nat) (k : Nat), coreFenced s (.docent g k) = false) ∧
    (∃ (s : State) (who : Requester) (n : Nat) (v : Word), n < 512 ∧ MayWrite s who (mbxPage n) (mbxBase n) ∧ bits v 31 30 ≠ 3 ∧ (bits v 31 30 =
      1 → bits v 19 16 ≤ 3) ∧ (bits v 31 30 = 2 → islandPresent s (.gallery (bits v 19 16)) = true)) ∧
    (∃ (s : State) (who : Requester) (n : Nat) (v : Word), n < 512 ∧ MayWrite s who (mbxPage n) (mbxBase n) ∧ (bits v 31 30 = 3 ∨ (bits v 31 30 =
      1 ∧ 3 < bits v 19 16))) ∧
    (∃ (s : State) (who : Requester), MayWrite s who 256 0x40) ∧
    (∃ (s : State) (who : Requester) (high : Bool), MayWrite s who 256 (if high then 0x4C else 0x48) ∧ coreExists s (pmcCore s) = true) ∧
    (∃ (s : State) (who : Requester), MayWrite s who 256 0x9C ∧ coreExists s (pmcCore s) = true) ∧
    (∃ (s : State) (c : CoreId) (i : Nat), Tab.getD (getCore s c).pmc i 0 + 1 = 2 ^ 48) ∧
    (∃ (s : State) (c : CoreId) (i : Nat), Tab.getD (getCore s c).pmc i 0 + 1 ≠ 2 ^ 48) ∧
    (∃ (s : State) (g : Nat) (k : Nat), Sound s ∧ g < 16 ∧ regField s 257 (0x44 + 16 * g) 19 0 ≠ 0 ∧ regBit s 257 (0x40 + 16 * g) k = true ∧
      (getCore s (.docent g k)).sampleLeft = 0) ∧
    (∃ (s : State) (g : Nat) (k : Nat), (getCore s (.docent g k)).sampleLeft ≠ 0) :=
  ⟨
   ⟨{ tsc := 9 }, .docent 15 3, 511, by decide +kernel⟩,
   ⟨{ mbx := [(511, { word := 5, stamp := CoreId.stamp (.docent 15 3), since := 7 })] }, .docent 15 3, 511,
     { word := 5, stamp := CoreId.stamp (.docent 15 3), since := 7 }, by decide +kernel⟩,
   ⟨{ mbx := [(511, { word := 5, stamp := CoreId.stamp (.docent 15 3), since := 7 })] }, .keeper 3, 511,
     { word := 5, stamp := CoreId.stamp (.docent 15 3), since := 7 }, by decide +kernel⟩,
   ⟨{}, .keeper 3, 511, by decide +kernel⟩,
   ⟨atMailboxAndCounterCommands4, 511, { word := 5, stamp := CoreId.stamp (.docent 15 3), since := 7 }, by decide +kernel⟩,
   ⟨{ mbx := [(511, { word := 5, stamp := CoreId.stamp (.docent 15 3), since := 7 })] }, 511, by decide +kernel⟩,
   ⟨{ mbx := [(511, { word := 5, stamp := CoreId.stamp (.docent 15 3), since := 7 })] }, .docent 15 3, 511,
     { word := 5, stamp := CoreId.stamp (.docent 15 3), since := 7 }, by decide +kernel⟩,
   ⟨{ mbx := [(511, { word := 5, stamp := CoreId.stamp (.docent 15 3), since := 7 })] }, .docent 15 2, 511, by decide +kernel⟩,
   ⟨{}, 15, 3, by decide +kernel⟩,
   ⟨{ mbx := [(511, { word := 5, stamp := CoreId.stamp (.docent 15 3), since := 7 })] }, .keeper 0, 511, 0x8000FFFF, by decide +kernel⟩,
   ⟨{}, .keeper 0, 511, 0x40040000, by decide +kernel⟩,
   ⟨{}, .keeper 0, by decide +kernel⟩,
   ⟨{}, .keeper 0, true, by decide +kernel⟩,
   ⟨{ kprs := [(0, { pmc := [(7, 5)], pmcCycles := 3 })] }, .keeper 0, by decide +kernel⟩,
   ⟨{ kprs := [(0, { pmc := [(7, 281474976710655)] })] }, .keeper 0, 7, by decide +kernel⟩,
   ⟨{}, .keeper 0, 7, by decide +kernel⟩,
   ⟨{ fab := { regs := [(257 * 4096 + 0x40, 8), (257 * 4096 + 0x44, 100), (257 * 4096 + 0x48, 255)] } }, 0, 3, by decide +kernel⟩,
   ⟨{ gals := [(0, { cores := [(3, { sampleLeft := 4 })] })] }, 0, 3, by decide +kernel⟩⟩

/-- A state of clause 0. -/
def atPowerStatesAndTestPort0 : State := { fab := { pages := [(215, { quiesced := true })], islands := [(Island.gallery 7 |>.sensor, { power := 2 })] } }

/-- A state of clause 4. -/
def atPowerStatesAndTestPort4 : State := { acc := { ctls := [(0, { ctl0 with apstState := some 3, lastOp := 2 })] }, pwr := { started := true, pfailN := true, ps := 2 }, fab := { islands := [(11, { power := 2 })] } }

/-- A state of clause 5. -/
def atPowerStatesAndTestPort5 : State := { acc := { ctls := [(0, { ctl0 with apstState := some 4, lastOp := 2 })] }, pwr := { started := true, pfailN := true, ps := 2 }, fab := { islands := [(11, { power := 2 })] } }

/-- A state of clause 6. -/
def atPowerStatesAndTestPort6 : State := { acc := { ctls := [(0, { ctl0 with apstState := some 4, lastOp := 2 })] }, pwr := { started := true, pfailN := true, ps := 2 }, fab := { islands := [(11, { power := 2 })] }, flash := fl { ch0 with queue := [od 1] } }

/-- A state of clause 8. -/
def atPowerStatesAndTestPort8 : State := { acc := { ctls := [(0, { ctl0 with apstState := some 2, lastOp := 2 })] }, pwr := { started := true, pfailN := true, ps := 0 }, fab := { islands := [(11, { power := 2 })] } }

/-- A state of clause 9. -/
def atPowerStatesAndTestPort9 : State := { acc := { ctls := [(0, { ctl0 with apstState := some 2, lastOp := 2 })] }, pwr := { started := true, pfailN := true, ps := 3 }, fab := { islands := [(11, { power := 3 })] } }

/-- A state of clause 11. -/
def atPowerStatesAndTestPort11 : State := { acc := { ctls := [(0, { ctl0 with apstState := some 2, lastOp := 2 })] }, pwr := { started := true, pfailN := true, ps := 4, saved := some [] }, fab := { islands := [(11, { power := 2 })] } }

/-- A state of clause 12. -/
def atPowerStatesAndTestPort12 : State := { acc := { ctls := [(0, { ctl0 with apst := [0, 0, 256 * 500 + 8 * 3, 0, 0], feats := [(0x0C * 65536, 1)] })] }, pwr := { ps := 2 } }

/-- A state of clause 18. -/
def atPowerStatesAndTestPort18 : State := { fab := { islands := [(11, { power := 2, autoReinits := [0, 0] })], pages := [(208, { errCode := 1 })] } }

/-- A state of clause 19. -/
def atPowerStatesAndTestPort19 : State := { fab := { islands := [(11, { power := 2, autoReinits := [0, 0, 0] })], pages := [(208, { errCode := 1 })] } }

/-- Witnesses of PowerStatesAndTestPort. -/
theorem meets_PowerStatesAndTestPort :
    (∃ (s : State) (who : Requester) (n : Nat) (i : Island), (MayWrite s who 1 (0x100 + 4 * n) ∧ islandOfSensor n = some i ∧ switchable i = true
      ∧ islandPresent s i = true ∧ (isl s i).power ≠ 0 ∧ (hdr s i.primary).quiesced = true) ∧ (∀ c, i = .compress c → (isl s (.compress (1 -
      c))).power ≠ 0)) ∧
    (∃ (s : State) (who : Requester) (n : Nat) (i : Island), MayWrite s who 1 (0x100 + 4 * n) ∧ islandOfSensor n = some i ∧ switchable i = true ∧
      islandPresent s i = true ∧ (isl s i).power ≠ 0 ∧ (hdr s i.primary).quiesced = false) ∧
    (∃ (s : State) (who : Requester) (n : Nat) (i : Island), MayWrite s who 1 (0x100 + 4 * n) ∧ islandOfSensor n = some i ∧ switchable i = true ∧
      islandPresent s i = true ∧ (isl s i).power = 0 ∧ pagePresent s i.primary = true) ∧
    (∃ (s : State) (who : Requester) (n : Nat), MayWrite s who 1 (0x100 + 4 * n) ∧ (∀ i, islandOfSensor n = some i → switchable i = false ∨
      islandPresent s i = false)) ∧
    (∃ (s : State), s.pwr.ps < 3 ∧ s.pwr.started = true ∧ s.pwr.pfailN = true ∧ s.pwr.busy = false ∧ wantedState s = 3 ∧ quietEnough s = true ∧
      channelsIdle s = true) ∧
    (∃ (s : State), s.pwr.ps < 3 ∧ s.pwr.started = true ∧ s.pwr.pfailN = true ∧ s.pwr.busy = false ∧ wantedState s = 4 ∧ quietEnough s = true ∧
      channelsIdle s = true ∧ allDurable s = true) ∧
    (∃ (s : State) (u : State), (s.pwr.ps = 3 ∧ s.pwr.started = true ∧ s.pwr.pfailN = true ∧ s.pwr.busy = false ∧ wantedState s = 4 ∧ quietEnough
      s = true ∧ channelsIdle s = true ∧ allDurable s = true) ∧ u = leavePs3 (ageForSleep s)) ∧
    (∃ (s : State), s.pwr.started = true ∧ s.pwr.pfailN = true ∧ s.pwr.busy = true ∧ s.pwr.target = 3 ∧ wantedState s < 3) ∧
    (∃ (s : State) (n : Nat), (n = 3 ∨ n = 4) ∧ s.pwr.ps < 3 ∧ s.pwr.started = true ∧ s.pwr.pfailN = true ∧ s.pwr.busy = false ∧ wantedState s =
      n ∧ quietEnough s = true ∧ channelsIdle s = false) ∧
    (∃ (s : State) (n : Nat), s.pwr.busy = false ∧ (wantedState s ≠ n ∨ quietEnough s = false)) ∧
    (∃ (s : State) (n : Nat), n ≤ 2 ∧ s.pwr.ps ≤ 2 ∧ s.pwr.busy = false ∧ wantedState s = n) ∧
    (∃ (s : State), s.pwr.ps = 3 ∧ s.pwr.busy = false ∧ exitWanted s = true) ∧
    (∃ (s : State), exitWanted s = false) ∧
    (∃ (s : State), s.pwr.ps = 4 ∧ exitWanted s = true ∧ s.sec.latched = [] ∧ s.sec.fuseAlarm = false) ∧
    (∃ (s : State) (c : Nat) (e : Nat), e = (ctlOf s c).apst.getD s.pwr.ps 0 ∧ (ctlOf s c).enabled = true ∧ ctlFeat s c 0x0C 0 0 % 2 = 1 ∧ e /
      256 % 2 ^ 24 ≠ 0 ∧ 2 < e / 8 % 32 ∧ (∀ k ∈ s.acc.cmds, k.ref.ctl = c → k.ref.sq = 0 ∧ k.opcode = 0x0C)) ∧
    (∃ (s : State) (who : Requester) (v : Word), MayWrite s who 1 0x48 ∧ bits v 31 16 = 0xA5D0 ∧ bit v 0 = true ∧ s.pwr.on = true ∧
      s.pwr.resetDump = none ∧ s.pwr.started = true) ∧
    (∃ (s : State) (who : Requester) (v : Word), MayWrite s who 1 0x48 ∧ bits v 31 16 ≠ 0xA5D0) ∧
    (∃ (s : State) (who : Requester), MayWrite s who 1 0x4C) ∧
    (∃ (s : State), regField s 1 0x4C 15 0 ≠ 0 ∧ s.pwr.started = true ∧ s.pwr.ps < 3 ∧ pagePresent s 224 = true ∧ (s.pwr.expiries.filter fun x =>
      decide (max s.tsc (s.pwr.kicked + regField s 1 0x4C 15 0 * 1000000) < x + 3600 * 10 ^ 9)).length < 2) ∧
    (∃ (s : State), regField s 1 0x4C 15 0 ≠ 0 ∧ s.pwr.started = true ∧ s.pwr.ps < 3 ∧ s.pwr.on = true ∧ s.pwr.resetDump = none ∧ 2 ≤
      (s.pwr.expiries.filter fun x => decide (max s.tsc (s.pwr.kicked + regField s 1 0x4C 15 0 * 1000000) < x + 3600 * 10 ^ 9)).length) ∧
    (∃ (s : State) (n : Nat) (i : Island), islandOfSensor n = some i ∧ i ≠ .alwaysOn ∧ islandPresent s i = true ∧ (hdr s i.primary).errCode ≠ 0 ∧
      (hdr s i.primary).quiesced = false ∧ (hdr s i.primary).quiesceReq = false ∧ ((isl s i).autoReinits.filter fun x => decide (s.tsc ≤ x + 3600
      * 10 ^ 9)).length < 3) ∧
    (∃ (s : State) (n : Nat) (i : Island), islandOfSensor n = some i ∧ i ≠ .alwaysOn ∧ islandPresent s i = true ∧ (hdr s i.primary).errCode ≠ 0 ∧
      (hdr s i.primary).quiesced = false ∧ (hdr s i.primary).quiesceReq = false ∧ 3 ≤ ((isl s i).autoReinits.filter fun x => decide (s.tsc ≤ x +
      3600 * 10 ^ 9)).length) ∧
    (∃ (s : State) (n : Nat) (i : Island), islandOfSensor n = some i ∧ islandPresent s i = true) ∧
    (∃ (s : State), s.pwr.on = true) ∧
    (∃ (s : State), s.pwr.on = true) ∧
    (∃ (s : State), s.pwr.on = true) ∧
    (∃ (s : State), s.pwr.on = true) ∧
    (∃ (s : State), s.pwr.on = true) ∧
    (∃ (s : State), s.pwr.on = true) ∧
    (∃ (s : State), s.pwr.on = true) ∧
    (∃ (s : State), s.pwr.on = true) :=
  ⟨
   ⟨atPowerStatesAndTestPort0, .keeper 0, 18, .gallery 7, by decide +kernel, fun c h => by cases h⟩,
   ⟨{ fab := { islands := [(18, { power := 2 })] } }, .keeper 0, 18, .gallery 7, by decide +kernel⟩,
   ⟨{ fab := { islands := [(18, { power := 0 })] } }, .keeper 0, 18, .gallery 7, by decide +kernel⟩,
   ⟨{}, .keeper 0, 41, by decide +kernel⟩,
   ⟨atPowerStatesAndTestPort4, by decide +kernel⟩,
   ⟨atPowerStatesAndTestPort5, by decide +kernel⟩,
   ⟨{ atPowerStatesAndTestPort5 with pwr := { started := true, pfailN := true, ps := 3 } }, leavePs3 (ageForSleep
     { atPowerStatesAndTestPort5 with pwr := { started := true, pfailN := true, ps := 3 } }), by decide +kernel, rfl⟩,
   ⟨{ pwr := { started := true, busy := true, target := 3 } }, by decide +kernel⟩,
   ⟨atPowerStatesAndTestPort6, 4, by decide +kernel⟩,
   ⟨{}, 3, by decide +kernel⟩,
   ⟨atPowerStatesAndTestPort8, 2, by decide +kernel⟩,
   ⟨atPowerStatesAndTestPort9, by decide +kernel⟩,
   ⟨{}, by decide +kernel⟩,
   ⟨atPowerStatesAndTestPort11, by decide +kernel⟩,
   ⟨atPowerStatesAndTestPort12, 0, 256 * 500 + 8 * 3, by decide +kernel⟩,
   ⟨{ pwr := { on := true, started := true }, fab := { islands := [(11, { power := 2 })] } }, .keeper 0, 0xA5D00001, by decide +kernel⟩,
   ⟨{}, .keeper 0, 0xA5D10001, by decide +kernel⟩,
   ⟨{ tsc := 5, fab := { regs := [(1 * 4096 + 0x4C, 9)] } }, .keeper 0, by decide +kernel⟩,
   ⟨{ pwr := { started := true, expiries := [1] }, fab := { regs := [(1 * 4096 + 0x4C, 0xFFFF)] } }, by decide +kernel⟩,
   ⟨{ pwr := { started := true, expiries := [1, 2] }, fab := { regs := [(1 * 4096 + 0x4C, 0xFFFF)] } }, by decide +kernel⟩,
   ⟨atPowerStatesAndTestPort18, 11, .gallery 0, by decide +kernel⟩,
   ⟨atPowerStatesAndTestPort19, 11, .gallery 0, by decide +kernel⟩,
   ⟨{}, 41, .alwaysOn, by decide +kernel⟩,
   ⟨{ tap := { cells := [true, false] } }, by decide +kernel⟩,
   ⟨{ tap := { cells := [true, false] } }, by decide +kernel⟩,
   ⟨{ tap := { cells := [true, false] } }, by decide +kernel⟩,
   ⟨{ tap := { cells := [true, false] } }, by decide +kernel⟩,
   ⟨{ tap := { cells := [true, false] } }, by decide +kernel⟩,
   ⟨{ tap := { cells := [true, false] } }, by decide +kernel⟩,
   ⟨{ tap := { cells := [true, false] } }, by decide +kernel⟩,
   ⟨{ tap := { cells := [true, false] } }, by decide +kernel⟩⟩

/-- Witnesses of StepRunsTheFrontCommand. -/
theorem meets_StepRunsTheFrontCommand :
    (∃ (s : State) (c : Instr) (rest : List Instr), s.pending = c :: rest) ∧
    (∃ (s : State), s.pending = []) :=
  ⟨
   ⟨{ pending := [.tapReset] }, .tapReset, [], by decide +kernel⟩,
   ⟨{}, by decide +kernel⟩⟩

/-- Witnesses of StepsKeepMemorySound. -/
theorem meets_StepsKeepMemorySound :
    ∃ (s : State) (t : State), Sound s ∧ step s = .next t :=
  ⟨{}, { tsc := 1 }, by decide +kernel, rfl⟩

/-- Witnesses of CoreWordsRoundTrip. -/
theorem meets_CoreWordsRoundTrip :
    (∃ (i : Instr) (c : CoreId), instrCore i = some c) ∧
    (∃ (i : Instr), instrCore i = none) :=
  ⟨
   ⟨.opLd (.keeper 3) ⟨3, 3, 63, 65535⟩, .keeper 3, by decide +kernel⟩,
   ⟨.tapReset, by decide +kernel⟩⟩

/-- Witnesses of CommandFrames. -/
theorem meets_CommandFrames :
    (∃ (c : Instr) (s : State) (t : State) (p : Part), (p ∉ footprint c ∧ (servesCrossing c = false ∨ s.fab.requests = [])) ∧ exec c s = .next t) ∧
    (∃ (c : Instr) (s : State) (t : State) (p : Part), (p ∉ footprint c ∧ p ∉ servedParts) ∧ exec c s = .next t) :=
  ⟨
   ⟨.tapReset, { pending := [.tapIdcode] }, { pending := [.tapIdcode] }, .mem, by decide +kernel, rfl⟩,
   ⟨.tapReset, { pending := [.tapIdcode] }, { pending := [.tapIdcode] }, .pending, by decide +kernel, rfl⟩⟩

end Sys2Proof.Tests
end

section
/-! PROOFS. Docent instructions: the horizontal sum (R375), the products of lanes (R379) and the return from a handler (R407). -/

namespace Sys2Proof

open Machine

/-! ## A core apart from its PC and its counts of time -/

/-- The performance counters are among what `settled` sets aside. -/
theorem settled_eq_of_bare_eq {x y : Core} (h : bare x = bare y) (z : Core) : settled x z = settled y z := by
  change settled (bare x) z = settled (bare y) z
  rw [h]

/-- Once an instruction retires, its core is what the instruction made of it, but for the PC and the counts of time. -/
theorem CoreBecomes.settled_eq {u t : State} {c : CoreId} {pc : Option (BitVec 48)} {cost : Nat} {y : Core}
    (h : CoreBecomes u t c pc cost y) (z : Core) : settled (getCore t c) z = settled y z :=
  settled_eq_of_bare_eq h.1 z

theorem CoreBecomes.pc_eq {u t : State} {c : CoreId} {pc : Option (BitVec 48)} {cost : Nat} {y : Core}
    (h : CoreBecomes u t c pc cost y) : (getCore t c).pc = pc.getD (nextPc c y) :=
  congrArg Core.pc h.1

/-! ## Values of lanes -/

theorem toLane_lt (w : Nat) (i : Int) : toLane w i < 2 ^ w := by
  have h : i % (2 ^ w : Int) < 2 ^ w := Int.emod_lt_of_pos i (by positivity)
  rw [toLane, Int.toNat_lt' (by positivity)]
  exact_mod_cast h

@[simp] theorem laneAt_zero (w j : Nat) : laneAt 0#512 w j = 0 := by
  rw [laneAt, BitVec.toNat_zero, Nat.zero_shiftRight, Nat.zero_mod]

/-! ## The horizontal sum (R375) -/

theorem laneSum_eq (w : Fields) (a : BitVec 512) :
    (laneSum w a : Int) = (w.lanes.map fun j => laneVal w.width w.s (laneAt a w.width j)).sum % 2 ^ 64 := by
  have hpos : (0 : Int) ≤ (w.lanes.map fun j => laneVal w.width w.s (laneAt a w.width j)).sum % 2 ^ 64 :=
    Int.emod_nonneg _ (by decide)
  rw [laneSum, toLane, ← List.foldl_map, ← List.sum_eq_foldl]
  exact Int.toNat_of_nonneg hpos

theorem laneSum_lt (w : Fields) (a : BitVec 512) : laneSum w a < 2 ^ 64 :=
  toLane_lt 64 _

/-- A takes a value of 64 bits as it is (R376). -/
theorem putA_toNat {v : Nat} (h : v < 2 ^ 64) (x : Core) : (putA v x).a.toNat = v := by
  simp only [putA, BitVec.toNat_ofNat]
  omega

theorem exec_opHsum (c : CoreId) (w : Fields) (s : State) :
    exec (.opHsum c w) s = .next (runInstr c 0x16 { sz := true, sh := true, s := true } w
      (fun _ => coreOnly c 2 fun x => putA (laneSum w x.a) x) s) :=
  rfl

/-- Settles O5: HSUM only changes its core, and what it puts in A is the sum of the lanes. -/
theorem hsumAddsLanes : Obligations.HsumAddsLanes := by
  intro s c w hr
  have hb : CoreBecomes s _ c none 2 (putA (laneSum w (found s c).a) (found s c)) :=
    runInstr_coreOnly c 0x16 _ w (fun _ => coreOnly c 2 fun x => putA (laneSum w x.a) x) s hr none 2 (fun x => putA (laneSum w x.a) x) rfl
  refine ⟨_, (putA (laneSum w (found s c).a) (found s c)).a, exec_opHsum c w s, hb.2, hb.settled_eq _, hb.pc_eq, ?_⟩
  rw [putA_toNat (laneSum_lt w _)]
  exact laneSum_eq w _

/-! ## Products of lanes (R379) -/

/-- A number of 2w bits is put together again from its low and its high w bits. -/
theorem low_add_high {w n : Nat} (h : n < 2 ^ (2 * w)) : n % 2 ^ w % 2 ^ w + 2 ^ w * (n / 2 ^ w % 2 ^ w) = n := by
  have hhigh : n / 2 ^ w < 2 ^ w := by
    rw [Nat.div_lt_iff_lt_mul (by positivity), ← pow_add, ← two_mul]
    exact h
  rw [Nat.mod_mod, Nat.mod_eq_of_lt hhigh, Nat.mod_add_div]

/-- What the multiplier makes of A and an operand are the products of the lanes of the shape. -/
theorem productLanes_multiply (w : Fields) (p q : BitVec 512) :
    ProductLanes w p q (multiply w.width w.s w.lanes p q).1 (multiply w.width w.s w.lanes p q).2 := by
  intro j hj
  have hfit : j * w.width + w.width ≤ 512 := lane_fits w.sz j hj
  simp only [multiply, laneAt_writeLanes _ _ _ _ _ _ _ hfit]
  by_cases hm : j ∈ w.lanes
  · simp only [hm]
    exact low_add_high (toLane_lt _ _)
  · simp [hm]

/-- An instruction that issues a product and retires. -/
theorem coreBecomes_issueProduct (c : CoreId) (cost : Nat) (p : BitVec 512 × BitVec 512) (u : State) :
    CoreBecomes u (retire c none cost (pmcEvent c 0x09 (setCore c (Core.issueProduct p.1 p.2) u))) c none cost
      (Core.issueProduct p.1 p.2 (getCore u c)) := by
  have honly : OnlyCore c u (pmcEvent c 0x09 (setCore c (Core.issueProduct p.1 p.2) u)) :=
    (onlyCore_setCore c _ u).trans (onlyCore_pmcEvent c _ _)
  refine ⟨(retire_core c none cost _).trans (bare_retired u _ c none cost _ _ ?_ honly.regs), honly.trans (onlyCore_retire c none cost _)⟩
  rw [bare_pmcEvent, getCore_setCore_same]

/-- MUL retires with the product of A and its operand issued. -/
theorem exec_opMul {c : CoreId} {w : Fields} {s u : State} {bs : List Byte} {extra : Nat}
    (hr : Runs s c 0x1E { sz := true, base := true, sh := true, s := true } w) (ho : Operand s c w bs extra u) :
    exec (.opMul c w) s = .next (retire c none (1 + extra) (pmcEvent c 0x09 (setCore c
      (Core.issueProduct (multiply w.width w.s w.lanes (found s c).a (operandBits w bs)).1
        (multiply w.width w.s w.lanes (found s c).a (operandBits w bs)).2) u))) := by
  have hl : coreLoad c (effAddr c (found s c) w) (shapeBytes w.shape w.width) (shapeBytes w.shape w.width) (setCore c Core.land s) =
      .got bs extra u := ho
  refine congrArg Host.Outcome.next ?_
  rw [runInstr_eq c 0x1E _ w _ s hr]
  simp only [withOperand, hl, thenLoad, operandBits]

/-- MULA retires with the product of A and A issued. -/
theorem exec_opMula {c : CoreId} {w : Fields} {s : State} (hr : Runs s c 0x1F { sz := true, sh := true, s := true } w) :
    exec (.opMula c w) s = .next (retire c none 1 (pmcEvent c 0x09 (setCore c
      (Core.issueProduct (multiply w.width w.s w.lanes (found s c).a (found s c).a).1
        (multiply w.width w.s w.lanes (found s c).a (found s c).a).2) (landed s c)))) :=
  congrArg Host.Outcome.next (runInstr_eq c 0x1F _ w _ s hr)

/-- Settles O6: both issue what the multiplier makes of their operands. -/
theorem productOfLanes : Obligations.ProductOfLanes := by
  refine ⟨fun s c w bs extra u hr ho => ?mul, fun s c w hr => ?mula⟩
  case mul =>
    have hb := coreBecomes_issueProduct c (1 + extra) (multiply w.width w.s w.lanes (found s c).a (operandBits w bs)) u
    exact ⟨_, _, exec_opMul hr ho, hb.2, hb.settled_eq _, productLanes_multiply w _ _⟩
  case mula =>
    have hb := coreBecomes_issueProduct c 1 (multiply w.width w.s w.lanes (found s c).a (found s c).a) (landed s c)
    rw [getCore_landed] at hb
    exact ⟨_, _, exec_opMula hr, (onlyCore_landed s c).trans hb.2, hb.settled_eq _, productLanes_multiply w _ _⟩

/-! ## The return from a handler (R407) -/

/-- What IRET makes of core y from what the core x that it found had saved, but for the PC and the counts of time. -/
def iretFrom (x y : Core) : Core :=
  { Core.putFlags x.efl y with mask := x.emask, ien := true, ecause := x.ecause &&& 0x7FFFFFFF }

theorem exec_opIret (c : CoreId) (w : Fields) (s : State) :
    exec (.opIret c w) s = .next (runInstr c 0x3E {} w (fun x t => .done (setCore c (iretFrom x) t) (some x.epc) 2) s) :=
  rfl

/-- Settles O12: IRET only changes its core, and goes on at EPC with the core restored. -/
theorem iretRestores : Obligations.IretRestores := by
  intro s k w hr
  have hb : CoreBecomes s _ (.keeper k) (some (found s (.keeper k)).epc) 2 (iretFrom (found s (.keeper k)) (found s (.keeper k))) :=
    runInstr_coreOnly (.keeper k) 0x3E {} w (fun x t => .done (setCore (.keeper k) (iretFrom x) t) (some x.epc) 2) s hr _ 2
      (iretFrom (found s (.keeper k))) rfl
  exact ⟨_, exec_opIret (.keeper k) w s, hb.2, hb.pc_eq, hb.settled_eq _⟩

end Sys2Proof
end

section
/-! PROOFS. Mailboxes: the post of a fenced core (R458, R580). -/

namespace Sys2Proof

open Machine

/-! ## A request dropped at an isolation gate (R458) -/

/-- Once a drop was captured, the next ones are only counted. -/
theorem gateDrop_of_captured {g : Nat} {s : State} (h : (gal s g).dropCaptured = true) :
    gateDrop g s = bumpReg 236 (0x80 + 4 * g) 1 s :=
  if_pos h

/-- The first drop since arming is also captured. -/
theorem gateDrop_of_armed {g : Nat} {s : State} (h : (gal s g).dropCaptured = false) :
    gateDrop g s = setGal g (fun x => { x with dropCaptured := true })
      (capture 232 0x23 (pageAddr 236 (0x80 + 4 * g)) (raiseIrq 232 0x1000 (bumpReg 236 (0x80 + 4 * g) 1 s))) :=
  if_neg (Bool.eq_false_iff.mp h)

/-- A dropped request changes nothing but page headers, stored registers and galleries. -/
theorem gateDrop_frame (g : Nat) (s : State) : { gateDrop g s with fab := s.fab, gals := s.gals } = s := by
  cases h : (gal s g).dropCaptured with
  | true => simp [gateDrop_of_captured h, bumpReg]
  | false => simp [gateDrop_of_armed h, capture, raiseIrq, bumpReg]

@[simp] theorem gateDrop_mbx (g : Nat) (s : State) : (gateDrop g s).mbx = s.mbx := (congrArg State.mbx (gateDrop_frame g s) :)
@[simp] theorem gateDrop_mem (g : Nat) (s : State) : (gateDrop g s).mem = s.mem := (congrArg State.mem (gateDrop_frame g s) :)
@[simp] theorem gateDrop_out (g : Nat) (s : State) : (gateDrop g s).out = s.out := (congrArg State.out (gateDrop_frame g s) :)

/-- A change of a gallery that keeps its cores keeps every core. -/
theorem getCore_setGal_of_cores {f : Gallery → Gallery} (hf : ∀ x, (f x).cores = x.cores) (g : Nat) (s : State) (d : CoreId) :
    getCore (setGal g f s) d = getCore s d := by
  cases d with
  | docent h k =>
    by_cases hg : h = g
    · subst hg
      simp [getCore, gal_setGal, hf]
    · simp [getCore, gal_setGal, hg]
  | keeper k => rfl

@[simp] theorem getCore_capture (p code a : Nat) (s : State) (d : CoreId) : getCore (capture p code a s) d = getCore s d :=
  getCore_setHdr p _ s d

@[simp] theorem getCore_raiseIrq (p : Nat) (w : Word) (s : State) (d : CoreId) : getCore (raiseIrq p w s) d = getCore s d :=
  getCore_setHdr p _ s d

@[simp] theorem getCore_bumpReg (p o n : Nat) (s : State) (d : CoreId) : getCore (bumpReg p o n s) d = getCore s d := by
  cases d <;> rfl

@[simp] theorem getCore_gateDrop (g : Nat) (s : State) (d : CoreId) : getCore (gateDrop g s) d = getCore s d := by
  cases h : (gal s g).dropCaptured with
  | true => rw [gateDrop_of_captured h, getCore_bumpReg]
  | false =>
    rw [gateDrop_of_armed h, getCore_setGal_of_cores, getCore_capture, getCore_raiseIrq, getCore_bumpReg]
    exact fun _ => rfl

/-! ## The post of a fenced core (R580) -/

/-- Only a Docent core can be fenced. -/
theorem exists_docent_of_coreFenced {s : State} {c : CoreId} (h : coreFenced s c = true) : ∃ g k, c = .docent g k := by
  cases c with
  | docent g k => exact ⟨g, k, rfl⟩
  | keeper k => cases h

theorem corePost_fenced {g k : Nat} {s : State} (n : Nat) (v : Word) (h : coreFenced s (.docent g k) = true) :
    corePost (.docent g k) n v s = gateDrop g s :=
  if_pos h

theorem exec_mailboxPost (c : CoreId) (n : Nat) (v : Word) (s : State) : exec (.mailboxPost c n v) s = .next (corePost c n v s) :=
  rfl

/-- Settles O52: the post of a fenced core is a request dropped at the gate of its gallery. -/
theorem fencedPostIsDropped : Obligations.FencedPostIsDropped := by
  intro s c n v hf
  obtain ⟨g, k, rfl⟩ := exists_docent_of_coreFenced hf
  refine ⟨gateDrop g s, ?_, gateDrop_mbx g s, getCore_gateDrop g s, gateDrop_mem g s, gateDrop_out g s⟩
  rw [exec_mailboxPost, corePost_fenced n v hf]

end Sys2Proof
end
